-- ==== Sys2Proof/Word.lean ====
section
/-! DEFINITION. The plain word types of the block: bytes, words and 64-byte lines (00_scope, Numbers and units). -/

namespace Sys2Proof

/-- One symbol of a Vitrine link, one SRAM chip's share of a beat, one byte of memory. -/
abbrev Byte := BitVec 8

/-- A word is 32 bits (00_scope). -/
abbrev Word := BitVec 32

/-- A line is 64 bytes; byte i lies in bits 8i+7 down to 8i (04 R94, 00 R5). -/
abbrev Line := BitVec 512

/-- One bit for each byte of a line (02 R28). -/
abbrev Mask64 := BitVec 64

/-- A 32-bit array word with its seven check bits; check bit j is stored bit 32+j (08 R214). -/
abbrev Stored := BitVec 39

/-- One beat of a data channel: chip i holds bits 8i+7 down to 8i (07 R190). -/
abbrev Beat := BitVec 160

/-- A burst of four beats, beat 0 in the low bits (07 R190). -/
abbrev Burst := BitVec 640

end Sys2Proof
end

