-- ==== Sys2Proof/Syntax.lean ====
section
/-! DEFINITION. The commands of the block (spec/opcode_table.json; 95_what_each_step_holds) and their operands. -/

namespace Sys2Proof

/-- Ports AP0 to AP47. -/
abbrev Port := Fin 48

/-- Partitions VP0 to VP15. -/
abbrev Part := Fin 16

/-- Home slices HS0 to HS31. -/
abbrev Slice := Fin 32

/-- Data channels DC0 to DC7. -/
abbrev Chan := Fin 8

/-- Archive links ML0 to ML7. -/
abbrev Link := Fin 8

/-- Accession channels AC0 to AC11. -/
abbrev Acc := Fin 12

/-- A transaction identifier (04 R92). -/
abbrev Tid := BitVec 12

/-- A system line: system address bits 39 to 6 (00_scope). -/
abbrev LineNo := BitVec 34

/-- One of the hub's links: a port's Vitrine link, an Archive link or the pair link (03 R90, 09 R234). -/
inductive LinkId where
  | port (n : Port)
  | arch (k : Link)
  | pair
deriving DecidableEq, Repr

/-- Who makes an object access: a node of the field network, or a port through a console page (10 R278, 16 R408). -/
inductive Src where
  | net (mac : BitVec 48)
  | console (n : Port) (page : Part)
deriving DecidableEq, Repr

/-- How a message arrives: whole, with the CRC symbol received (8 bits on a Vitrine link, 32 on an Archive link), or with an
opcode or length that the layers do not define (03 R82, R83). -/
inductive Rx where
  | crc (c : Word)
  | framing
deriving DecidableEq, Repr

/-- The header fields of a request: TID, ATTR and the token symbol that follows when ATTR bit 7 is set (04 R92, R95, R97).
The TID of an untagged request is not sent and is ignored (04 R93). -/
structure Hdr where
  tid : Tid
  attr : Byte
  token : Byte
deriving DecidableEq, Repr

/-- One telemetry update: the sensors and monitors of 14 R368 in the order of their subindices. -/
structure Telemetry where
  temp : List Word
  volt : List Word
  rateMon : List (BitVec 16)
  portRate : List (BitVec 16)
  mlRate : List (BitVec 16)
deriving DecidableEq, Repr

/-- What a calibration of a channel finds: the access latency in half periods (full calibration), the settings that pass for each chip
(bit 256 i + t: tap t of chip i, for the read delay and for the write delay), and the bursts that the save read and the check read of P
return (background calibration) (07 R207 to R209). -/
structure CalResult where
  latency : Byte
  readPass : BitVec 5120
  writePass : BitVec 5120
  saved : Burst
  check : Burst
deriving DecidableEq, Repr

/-- A JOP request frame accepted by the hub: the source and whether the destination was broadcast, the header fields and the
payload bytes (16 R401). The opcode is the row's. -/
structure JopFrame where
  mac : BitVec 48
  broadcast : Bool
  version : Byte
  seq : BitVec 16
  flags : Byte
  reserved : Byte
  len : BitVec 16
  payload : List Byte
deriving DecidableEq, Repr

/-- The commands of the block, one constructor for each row of the table of operations and events. -/
inductive Instr where
  /-- VAON_RISE (R356): VAON rises within its operating limits and the hub goes from Off to Standby. -/
  | vaonRise
  /-- VAON_LOSS (R447): VAON falls below its operating limit and the hub goes Off from any mode, with every pin high-impedance. -/
  | vaonLoss
  /-- NRESET_LOW (R356): nRESET goes low and the hub performs a hub reset into Standby. -/
  | nresetLow
  /-- BRINGUP_RELEASE (R359): nRESET and nSTBY are high with every rail in limits; Bring-up starts the oscillator, powers PD1, reads the NVM and trims the timebase. -/
  | bringupRelease (nodeId : BitVec 6) (tbinInRange : Bool) (offset : Word) (plcaOk : Bool) (testEn : Bool)
  /-- PRESENCE_AGREED (R376): PRES_A and PRES_B agree high at Bring-up step 7; PD2 and PD11 come on and the hub enters Configure. -/
  | presenceAgreed
  /-- PRES_DISCREPANCY (R377): The presence inputs disagree for PRES_DISC_TIME ticks; the hub stays in Bring-up, drives nFAULT low and latches PRES_STATE 3. -/
  | presDiscrepancy (levelA : Bool) (levelB : Bool)
  /-- PRES_DISCREPANCY_RELEASE (R377): Both presence inputs have been low for 100 ticks; the discrepancy latch and nFAULT are released and judgement restarts. -/
  | presDiscrepancyRelease
  /-- PRES_B_LOSS (R378): PRES_B has been low for PRES_B_FILTER ticks from Configure onwards and the surprise path starts. -/
  | presBLoss
  /-- PRES_B_GLITCH (R378): A low of PRES_B shorter than PRES_B_FILTER ends; it is ignored and counted in PRES_B_GLITCHES. -/
  | presBGlitch
  /-- PRES_A_DISCREPANCY (R378): PRES_A has read low with PRES_B high for PRES_DISC_TIME ticks after Bring-up; event 3 is raised and nFAULT is driven low while service continues. -/
  | presADiscrepancy
  /-- PRES_A_RESTORED (R378): PRES_A has been high for 100 ticks after a discrepancy; nFAULT is released and PRES_STATE becomes 2. -/
  | presARestored
  /-- NSTBY_LOW (R356): nSTBY goes low and the hub heads for Standby: directly from Bring-up or Configure, through Configure from Diagnostic, or through Drain and Park from the serving modes. -/
  | nstbyLow
  /-- NPARK_REQ_LOW (R381): nPARK_REQ has been sampled low 100 times and the hub enters Drain. -/
  | nparkReqLow
  /-- MODE_REQ_STANDBY (R357): MODE_REQ 1 moves the hub from Configure, or from a quiet Park, to Standby. -/
  | modeReqStandby (src : Src)
  /-- MODE_REQ_BRINGUP (R357): MODE_REQ 2 makes a hub reset into the Bring-up sequence from Bring-up, Configure, Diagnostic, Fault-hold or a quiet Park. -/
  | modeReqBringup (src : Src) (nodeId : BitVec 6) (tbinInRange : Bool) (offset : Word) (plcaOk : Bool)
  /-- MODE_REQ_CONFIGURE (R357): MODE_REQ 3 leaves Diagnostic for Configure after the arrays are returned to their invalid values. -/
  | modeReqConfigure (src : Src)
  /-- MODE_REQ_RUN (R361): MODE_REQ 4 leads from Configure to the working mode, or returns from Park or Retain to the working mode. -/
  | modeReqRun (src : Src)
  /-- MODE_REQ_RETAIN (R362): MODE_REQ 6 quiesces the fabric and powers PD10 off to enter Retain. -/
  | modeReqRetain (src : Src)
  /-- MODE_REQ_PARK (R362): MODE_REQ 7 quiesces the fabric to enter Park. -/
  | modeReqPark (src : Src)
  /-- MODE_REQ_DRAIN (R381): MODE_REQ 8 starts Drain for planned removal. -/
  | modeReqDrain (src : Src)
  /-- MODE_REQ_DIAGNOSTIC (R356): MODE_REQ 10 moves from Configure to Diagnostic, running domain power-up, calibration and tag invalidation. -/
  | modeReqDiagnostic (src : Src)
  /-- PART_DOMAINS_POWERED (R361): PD3 to PD10 are on during the move from Configure and full calibration, tag invalidation and catalogue clearing begin. -/
  | partDomainsPowered
  /-- LINK_WAIT_EXPIRY (R361): LINK_WAIT elapses with links not serving; each such link is fenced if its dual partner serves, otherwise the path is abandoned with MODE_RESULT 3. -/
  | linkWaitExpiry
  /-- WORKING_MODE_ENTERED (R361): Every enabled link serves after calibration; MODE_NOW becomes the working mode, ports may rise and patrol starts. -/
  | workingModeEntered
  /-- QUIESCE_COMPLETE (R362): All admitted transactions and store-buffer writes have ended; the Conservator job is aborted, patrol pauses and the hub enters Park or, after PD10 goes off, Retain. -/
  | quiesceComplete
  /-- RETAIN_EXIT_COMPLETE (R364): Full calibration after PD10 comes on has ended; tags are invalidated, locks cleared and the working mode entered. -/
  | retainExitComplete
  /-- DRAIN_HOME_MAP_ACKED (R381): Every port has acknowledged the all-zero HOME_MAP or been reclaimed; requests are answered PARKED and every catalogue entry is recalled. -/
  | drainHomeMapAcked
  /-- DRAIN_RECALLS_DONE (R381): Every catalogue entry is free and every memory write is acknowledged; the unit gives its range or, without a partner, enters Park. -/
  | drainRecallsDone
  /-- DRAIN_LIMIT_EXPIRY (R356): Drain has not ended by DRAIN_LIMIT; the hub takes the surprise path and MODE_RESULT reads 4. -/
  | drainLimitExpiry
  /-- FAULT_HOLD_FLUSH_DONE (R348): The fatal flush has been acknowledged or FATAL_FLUSH_TIME has passed; ready outputs and nFAULT go low and every domain except PD0 and PD1 powers off. -/
  | faultHoldFlushDone
  /-- HANDSHAKE_STALL (R347): An internal core request stays unacknowledged for STALL_LIMIT ticks and the hub enters Fault-hold with cause 2. -/
  | handshakeStall (unit : BitVec 16)
  /-- VCORE_LOSS (R373): A VCORE monitor reads below 660 mV for 100 ticks and the hub enters Fault-hold with cause 17. -/
  | vcoreLoss (pd1Works : Bool)
  /-- IO_RAIL_LOSS (R373): VIOL or VIOD is more than 10 % off nominal for 100 ticks while its domain is on; the hub enters Fault-hold with cause 18. -/
  | ioRailLoss
  /-- VIOM_LOSS (R447): VIOM leaves its range; the field network and VIOM pins stop, and nFAULT and PARK_RDY go high-impedance. -/
  | viomLoss
  /-- VNVM_LOSS (R447): VNVM leaves its range; the hub starts no NVM program or erase, and an entry being written reads DAMAGED. -/
  | vnvmLoss
  /-- TBIN_APPEARED (R365): TBIN has been within ±5 % of the selected frequency for 1 ms on an untrimmed timebase and trimming starts. -/
  | tbinAppeared (offset : Word)
  /-- TRIM_CORRECTION (R365): Every 10 ms the hub corrects the oscillator trim against TBIN. -/
  | trimCorrection (offset : Word)
  /-- TBIN_LOST (R366): TBIN shows no transition for 100 oscillator periods; the timebase enters holdover and CLK moves to the untrimmed frequency with recalibration. -/
  | tbinLost
  /-- TBIN_RETURNED (R366): TBIN has been present for 1 ms in holdover and TB_STATE returns to 1. -/
  | tbinReturned
  /-- TELEMETRY_UPDATE (R368): Every TELEM_PERIOD all telemetry values are updated together and compared with their warning and trip limits. -/
  | telemetryUpdate (t : Telemetry)
  /-- CAL_DEFER_EXPIRY (R371): A due calibration has found no idle slot within CAL_DEFER_MAX; it starts at once and CAL_FORCED counts one. -/
  | calDeferExpiry (c : Chan) (r : CalResult)
  /-- BACKGROUND_CALIBRATION (R209): A due calibration finds an idle slot; the channel holds, saves line P, searches read and write delays and restores P. -/
  | backgroundCalibration (c : Chan) (r : CalResult)
  /-- CAL_HOLD_END (R210): The background hold ends; waiting commands and due merge-buffer triggers proceed, and CAL_RUNS counts one. -/
  | calHoldEnd (c : Chan) (ticks : BitVec 16)
  /-- FULL_CALIBRATION_DONE (R208): A full calibration ends; chips without a passing setting are marked, or the channel is fenced. -/
  | fullCalibrationDone (c : Chan) (r : CalResult)
  /-- PRDY_RAISE (R75): All conditions of R75 hold and the hub raises APn_PRDY, starting link bring-up with W = 1. -/
  | prdyRaise (n : Port)
  /-- UPWIRE_RESAMPLE (R75): Every 100,000 ticks the hub samples again up wires that were not low and counts UPWIRE_WAITS. -/
  | upwireResample (n : Port)
  /-- AALIVE_FALL (R74): APn_AALIVE has been low for 200 ticks; the port is dead and the hub lowers APn_PRDY. -/
  | aaliveFall (n : Port)
  /-- AALIVE_GLITCH (R74): A low of APn_AALIVE shorter than 200 ticks ends; it is ignored and counted in AALIVE_GLITCHES. -/
  | aaliveGlitch (n : Port)
  /-- RECLAIM_DRAIN_VISIBLE (R156): The dead port's accepted store-buffer entries are visible; each of its entries is freed and lost lines are invalidated in S holders. -/
  | reclaimDrainVisible (n : Port)
  /-- RECLAIM_COMPLETE (R156): Every poison write of a dead port is acknowledged; RECLAIM_STATE returns to 0 and LINES_POISONED is updated. -/
  | reclaimComplete (n : Port)
  /-- PORT_ENABLE (R129): A write of PORT_ENABLE; 0 lowers APn_PRDY. -/
  | portEnable (src : Src) (n : Port) (v : Byte)
  /-- CODE_VIOLATION (R81): A rail changes out of order within a symbol and resynchronisation of that direction starts. -/
  | codeViolation (l : LinkId)
  /-- SYMBOL_TIMEOUT (R81): A symbol stays incomplete for 1,000 ticks after its first group and is a code violation. -/
  | symbolTimeout (l : LinkId)
  /-- LINK_ACK (R85): LINK_ACK arrives and frees the replay-buffer entries it covers. -/
  | linkAck (l : LinkId) (k : Byte) (rx : Rx)
  /-- LINK_ACK_TIMER_EXPIRY (R86): 200 ticks after the oldest delivered unacknowledged message the receiver sends LINK_ACK. -/
  | linkAckTimerExpiry (l : LinkId)
  /-- LINK_RESYNC (R88): LINK_RESYNC arrives; the sender stops launching and waits for LINK_READY. -/
  | linkResync (l : LinkId) (k : Byte) (rx : Rx)
  /-- RESYNC_SETTLE_EXPIRY (R88): 1,000 ticks after LINK_RESYNC the receiver takes present rail levels as references and sends LINK_READY. -/
  | resyncSettleExpiry (l : LinkId) (rails : BitVec 64)
  /-- LINK_READY (R88): LINK_READY arrives; the sender resets its window, sends LINK_ACK and replays from the requested number. -/
  | linkReady (l : LinkId) (ack : Bool) (rx : Rx)
  /-- LINK_HELLO (R78): LINK_HELLO arrives; the exchange sets reach and window, or it is a version refusal, a failed bring-up or a link failure. -/
  | linkHello (l : LinkId) (version : Byte) (flags : Byte) (rx : Rx)
  /-- LINK_PROGRESS_TIMEOUT (R89): No LINK_ACK progress, an unacknowledged symbol or no LINK_READY for 10,000 ticks makes the link fail. -/
  | linkProgressTimeout (l : LinkId)
  /-- BRINGUP_TIMEOUT (R78): No valid LINK_HELLO arrives within 1,000,000 ticks of the ready wire rising; the ready wire falls and a failed bring-up is counted. -/
  | bringupTimeout (l : LinkId)
  /-- BRINGUP_RETRY (R78): 100,000 ticks after a failed bring-up the hub may start again under R75. -/
  | bringupRetry (l : LinkId)
  /-- REFUSAL_PRDY_DROP (R79): 100 ticks after a version refusal or an illegal DESCRIBE the hub lowers the ready wire. -/
  | refusalPrdyDrop (l : LinkId)
  /-- DESCRIBE_TIMEOUT (R110): No DESCRIBE arrives within 1,000,000 ticks of the LINK_HELLO exchange; APn_PRDY falls and a failed bring-up is counted. -/
  | describeTimeout (n : Port)
  /-- DESCRIBE (R110): DESCRIBE records the agent's L1 geometry and the hub sends HOME_MAP, or answers DECODE_ERROR. -/
  | describe (n : Port) (h : Hdr) (p0 : Byte) (p1 : Byte) (p2 : Byte) (p3 : Byte) (p4 : Byte) (rx : Rx)
  /-- HOME_MAP_ACK (R127): HOME_MAP_ACK arrives; at bring-up the port enters Run, in a pair the taken buckets may be served. -/
  | homeMapAck (n : Port) (tid : Tid) (sym3 : Byte) (rx : Rx)
  /-- HOME_MAP_ACK_TIMEOUT (R127): HOME_MAP_ACK has not arrived within SNOOP_LIMIT or ORPHAN_LIMIT; the port is reclaimed as a dead agent. -/
  | homeMapAckTimeout (n : Port)
  /-- READ_SHARED (R148): A read for a shared copy is translated, admitted and served with snoops and data as the transition table states. -/
  | readShared (n : Port) (h : Hdr) (addr : Word) (rx : Rx)
  /-- READ_OWN (R148): A read for ownership invalidates all holders and grants E or M. -/
  | readOwn (n : Port) (h : Hdr) (addr : Word) (rx : Rx)
  /-- UPGRADE (R148): An upgrade invalidates other holders and grants M by GRANT_RESP or DATA_RESP. -/
  | upgrade (n : Port) (h : Hdr) (addr : Word) (rx : Rx)
  /-- READ_UNC (R106): An uncached read of 2^SIZE bytes is served coherently, as a device read, or as a console register read. -/
  | readUnc (n : Port) (h : Hdr) (addr : Word) (rx : Rx)
  /-- PUT_PARTIAL (R106): A masked store is accepted into the store buffer, or performed as a device write or console register write. -/
  | putPartial (n : Port) (h : Hdr) (addr : Word) (mask : Byte) (data : BitVec 64) (rx : Rx)
  /-- PUT_LINE (R106): A full-line store is accepted into the store buffer or performed as a device write. -/
  | putLine (n : Port) (h : Hdr) (addr : Word) (data : Line) (rx : Rx)
  /-- ZERO_LINE (R148): ZERO_LINE invalidates every holder and grants M without reading data. -/
  | zeroLine (n : Port) (h : Hdr) (addr : Word) (rx : Rx)
  /-- WRITEBACK (R118): A write-back frees the port's entry and writes the line to memory and to the L2 on a hit, or takes the orphan path. -/
  | writeback (n : Port) (h : Hdr) (addr : Word) (data : Line) (rx : Rx)
  /-- EVICT_OFFER (R176): A clean eviction offer frees the entry and is taken or declined by the L2. -/
  | evictOffer (n : Port) (h : Hdr) (addr : Word) (data : Line) (rx : Rx)
  /-- LOAD_RESERVE (R43): LOAD_RESERVE sets the port's reservation and is granted E or M under a hold window. -/
  | loadReserve (n : Port) (h : Hdr) (addr : Word) (rx : Rx)
  /-- STORE_COND (R46): STORE_COND succeeds with COMPLETE OK when the reservation is valid and the port holds the line, else RETRY_CONFLICT; the reservation clears. -/
  | storeCond (n : Port) (h : Hdr) (addr : Word) (data : BitVec 64) (rx : Rx)
  /-- BARRIER_PORT (R35): A PORT barrier is answered at once and drains the store buffer, holding later accesses until earlier ones complete. -/
  | barrierPort (n : Port) (h : Hdr) (rx : Rx)
  /-- BARRIER_PARTITION (R35): A PARTITION barrier drains the store buffer and is answered when earlier accesses reach their PARTITION completion points. -/
  | barrierPartition (n : Port) (h : Hdr) (rx : Rx)
  /-- BARRIER_SYSTEM (R35): A SYSTEM barrier drains the store buffer and is answered when earlier accesses reach their SYSTEM completion points. -/
  | barrierSystem (n : Port) (h : Hdr) (rx : Rx)
  /-- LOAN_TARGET (R123): LOAN_TARGET sets the Archive link for the port's next loan or is refused. -/
  | loanTarget (n : Port) (h : Hdr) (link : Byte) (rx : Rx)
  /-- WAIT_EVENT (R124): WAIT_EVENT is held until IRQ, WAKE, a later request or a fall of APn_PRDY. -/
  | waitEvent (n : Port) (h : Hdr) (rx : Rx)
  /-- SLEEP_REQ (R125): SLEEP_REQ is refused with a reason or starts a store-buffer drain ending in SLEEP_ACK. -/
  | sleepReq (n : Port) (h : Hdr) (rx : Rx)
  /-- SLEEP_DRAIN_DONE (R125): The store-buffer drain of a sleep request is complete; the reservation is cleared and SLEEP_ACK is sent. -/
  | sleepDrainDone (n : Port)
  /-- COMP_ACK (R136): COMP_ACK writes the requester's catalogue entry and ends the line's block when the hold window is over. -/
  | compAck (n : Port) (tid : Tid) (sym3 : Byte) (rx : Rx)
  /-- SNOOP_RESP (R138): A clean snoop answer updates the responder's catalogue entry and advances the snooping transaction. -/
  | snoopResp (n : Port) (tid : Tid) (result : Byte) (rx : Rx)
  /-- SNOOP_DATA (R149): A snoop answer with dirty data supplies the line to the snooping transaction. -/
  | snoopData (n : Port) (tid : Tid) (result : Byte) (data : Line) (rx : Rx)
  /-- SNOOP_LIMIT_EXPIRY (R112): A snoop is unanswered at SNOOP_LIMIT; the link fails and the port is reclaimed. -/
  | snoopLimitExpiry (n : Port) (tid : Tid)
  /-- COMP_ACK_TIMEOUT (R146): COMP_ACK for a grant has not arrived within SNOOP_LIMIT; the port is reclaimed. -/
  | compAckTimeout (n : Port) (tid : Tid)
  /-- HOLD_WINDOW_END (R145): The hold window of an E or M grant ends and the line unblocks if COMP_ACK has arrived. -/
  | holdWindowEnd (line : LineNo)
  /-- CREDIT_LIFETIME_EXPIRY (R142): An unused retry credit passes CREDIT_LIFETIME and is freed. -/
  | creditLifetimeExpiry (h : Slice) (credit : Fin 8)
  /-- SB_AGE_DRAIN (R32): A store-buffer entry reaches SB_DRAIN_AGE and its drain starts. -/
  | sbAgeDrain (n : Port) (entry : Fin 16)
  /-- STORE_DRAIN_VISIBLE (R144): A store drain becomes owner of its line at the home slice, is visible, and waiting barriers, loads and full-buffer stores proceed. -/
  | storeDrainVisible (n : Port) (entry : Fin 16)
  /-- WALK_READ_DONE (R266): A translation-walk read returns; the walk continues, installs its result or faults. -/
  | walkReadDone (n : Port)
  /-- DC_READ_COMPLETE (R191): A data-channel burst read completes and is decoded; the line goes to its slice clean, corrected or uncorrectable. -/
  | dcReadComplete (c : Chan) (ba : BitVec 17) (burst : Burst)
  /-- MARK_WINDOW_END (R199): A chip's mark window ends below threshold and its count returns to 0. -/
  | markWindowEnd (c : Chan) (chip : Fin 20)
  /-- WAY_ERR_WINDOW_END (R184): A way's error window ends below threshold and its count returns to 0. -/
  | wayErrWindowEnd (h : Slice) (way : Fin 16)
  /-- MERGE_TIMEOUT_EXPIRY (R205): A merge-buffer entry reaches MERGE_TIMEOUT and is written by read-modify-write. -/
  | mergeTimeoutExpiry (c : Chan) (ba : BitVec 17)
  /-- RD_RESP (R248): An Archive read answer arrives and goes to its transaction, or is held for device order. -/
  | rdResp (k : Link) (tag : Byte) (status : BitVec 4) (poison : Bool) (data : Line) (rx : Rx)
  /-- WR_ACK (R247): An Archive write acknowledgement arrives and completes its write, unblocking the line or reaching a completion point. -/
  | wrAck (k : Link) (tag : Byte) (status : BitVec 4) (rx : Rx)
  /-- WRITE_RETRY_GAP_EXPIRY (R344): After WRITE_RETRY_GAP a refused write carrying dirty data or poison is resent, or Fault-hold follows when attempts are exhausted. -/
  | writeRetryGapExpiry (line : LineNo)
  /-- ML_READY (R232): Both ready wires of an Archive link are high and each end sends LINK_HELLO. -/
  | mlReady (k : Link)
  /-- ML_RDYO_RAISE (R232): The conditions of R232 hold and the hub raises MLn_RDYO. -/
  | mlRdyoRaise (k : Link)
  /-- ML_DESCRIBE (R233): ML_DESCRIBE arrives and the link starts serving, re-issuing waiting accesses. -/
  | mlDescribe (k : Link) (tagsMinus1 : Byte) (siMax : BitVec 5) (dual : Bool) (rx : Rx)
  /-- ML_RDYI_FALL (R250): MLn_RDYI falls while the link serves; the link fails and outstanding accesses are re-issued, errored, lost or made to wait. -/
  | mlRdyiFall (k : Link)
  /-- ML_DOWN_LIMIT_EXPIRY (R251): A non-dual link stays down for ML_DOWN_LIMIT; waiting and new accesses end as ERROR until it serves again. -/
  | mlDownLimitExpiry (k : Link)
  /-- SI_READ (R155): A memory-side SI_READ is served with SNP_SHARE and answered SI_DATA. -/
  | siRead (k : Link) (tag : Byte) (addr : BitVec 40) (rx : Rx)
  /-- SI_READ_INVAL (R155): SI_READ_INVAL invalidates all holders and the L2 line and is answered SI_DATA. -/
  | siReadInval (k : Link) (tag : Byte) (addr : BitVec 40) (rx : Rx)
  /-- SI_WRITE (R155): SI_WRITE invalidates holders, writes memory and the L2 on a hit, and is answered SI_DONE. -/
  | siWrite (k : Link) (tag : Byte) (addr : BitVec 40) (mask : Mask64) (data : Line) (rx : Rx)
  /-- AREQ_RISE (R255): APn_AREQ rises; the port becomes a loan candidate and may be granted APn_AGNT. -/
  | areqRise (n : Port)
  /-- AREQ_FALL (R256): The loan owner lowers APn_AREQ and the hub waits for its locked accesses to complete. -/
  | areqFall (n : Port)
  /-- LOAN_RELEASE (R256): The owner's locked accesses have completed; APn_AGNT falls, LOCK_RELEASE is sent and the next winner is granted. -/
  | loanRelease (k : Link)
  /-- LOAN_LIMIT_EXPIRY (R257): LOAN_LIMIT expires with APn_AREQ high; the loan is cut, queued locked accesses get LOCK_BROKEN and event 9 is raised. -/
  | loanLimitExpiry (k : Link)
  /-- GRACEFUL (R274): PART_RESET 1 stops member requests and recalls every catalogue entry of member ports. -/
  | graceful (src : Src) (p : Part)
  /-- IMMEDIATE (R274): PART_RESET 2 stops member requests and reclaims every member port as a dead agent. -/
  | immediate (src : Src) (p : Part)
  /-- PART_RESET_RECALLS_DONE (R274): Step 2 of a partition reset has ended and admitted requests and accepted stores complete. -/
  | partResetRecallsDone (p : Part)
  /-- PART_RESET_STORES_DONE (R274): Accepted stores of member ports have reached SYSTEM completion; the partition's state is cleared, ports await DESCRIBE and event 20 is raised. -/
  | partResetStoresDone (p : Part)
  /-- TC_INVAL (R271): TC_INVAL invalidates every member port's translation cache and waits for walks in progress. -/
  | tcInval (src : Src) (p : Part)
  /-- TC_INVAL_DONE (R271): Walks in progress at the write have completed without installing and TC_INVAL_BUSY returns to 0. -/
  | tcInvalDone (p : Part)
  /-- CONSOLE_OBJ_READ (R278): OBJ_CTRL 1 reads the selected object into OBJ_DATA with the checks of a field-network read. -/
  | consoleObjRead (n : Port) (page : Part)
  /-- CONSOLE_OBJ_WRITE (R278): OBJ_CTRL 2 writes OBJ_DATA to the selected object with the checks of a field-network write. -/
  | consoleObjWrite (n : Port) (page : Part)
  /-- TIME_LO (R278): A console read of TIME_LO returns device time bits 31:0 and latches bits 63:32 for the port. -/
  | timeLo (n : Port) (page : Part)
  /-- CLAIM (R296): A read of CLAIM returns the presented INTID, makes it active and pushes it on the stack, or returns 1023. -/
  | claim (src : Src) (p : Part)
  /-- EOI (R298): An EOI pops a matching top of stack, or is ignored and recorded as a mismatch with event 15. -/
  | eoi (src : Src) (p : Part) (v : Word)
  /-- DOORBELL (R293): A write of DOORBELL makes one occurrence of INTID 96 to 255 in the partition. -/
  | doorbell (src : Src) (p : Part) (v : Word)
  /-- PENDING_CLEAR (R294): Writing 1 to PENDING bits clears them, except for asserted level pins. -/
  | pendingClear (src : Src) (p : Part) (w : Fin 8) (bits : Word)
  /-- LEDGER_RECORD_VISIBLE (R305): A ledger record is visible at its home slice; HEAD advances and moderation is judged. -/
  | ledgerRecordVisible (p : Part) (ledger : Fin 4)
  /-- MOD_TIME_EXPIRY (R307): A moderation window lasts MOD_TIME and the ledger starts signalling. -/
  | modTimeExpiry (p : Part) (ledger : Fin 4)
  /-- LEDGER_TAIL (R305): A write of LEDGER_TAIL consumes records, possibly emptying the ledger, or is refused. -/
  | ledgerTail (src : Src) (p : Part) (ledger : Fin 4) (v : Word)
  /-- ALLWAIT_GRACE_EXPIRY (R309): All member ports wait with nothing pending for ALLWAIT_GRACE; event 7 is raised and the presenting port is woken. -/
  | allwaitGraceExpiry (p : Part)
  /-- EVIN_ACCEPTED (R291): An event pin level has been stable for EVIN_FILTER ticks, is accepted and acts under EVIN_MODE. -/
  | evinAccepted (pin : Fin 64) (level : Bool)
  /-- WAKE_REQ (R126): WAKE_REQ 1 raises APn_WAKE of a sleeping port. -/
  | wakeReq (src : Src) (n : Port)
  /-- ACC_REQ_RISE (R314): ACn_REQ rises; the hub captures the byte when it has space and raises ACn_ACK, or waits or drops under FULL_POLICY. -/
  | accReqRise (c : Acc) (d : Byte) (frame : Bool)
  /-- ACC_REQ_FALL (R314): ACn_REQ falls and the hub lowers ACn_ACK. -/
  | accReqFall (c : Acc)
  /-- ACC_FRAME_FALL (R316): ACn_FRAME falls, completing the packet and applying any pending flush. -/
  | accFrameFall (c : Acc)
  /-- MARK (R323): ACC_CMD 1 saves R in M. -/
  | mark (src : Src) (c : Acc)
  /-- REWIND (R323): ACC_CMD 2 returns R to M, or is refused when no mark is valid. -/
  | rewind (src : Src) (c : Acc)
  /-- RELEASE (R323): ACC_CMD 3 sets F to R, freeing words and records. -/
  | release (src : Src) (c : Acc)
  /-- FLUSH (R324): ACC_CMD 4 sets flush pending, discarding buffered packets at once or when the packet in progress ends. -/
  | flush (src : Src) (c : Acc)
  /-- ACC_DATA (R325): A read of ACC_DATA returns the readable word at R and advances R. -/
  | accData (src : Src) (c : Acc)
  /-- ACC_BLOCK (R325): A field-network read of ACC_BLOCK returns up to 256 readable words and advances R. -/
  | accBlock (src : Src) (c : Acc)
  /-- ACC_ENABLE (R333): A write of ACC_ENABLE activates the write side, or on a fall empties the channel. -/
  | accEnable (src : Src) (c : Acc) (v : Byte)
  /-- DESCRIPTOR_VISIBLE (R328): An auto-drain descriptor is visible at its home slice and DATA_HEAD and DESC_HEAD advance. -/
  | descriptorVisible (c : Acc)
  /-- CTRL_LINE_POLL (R330): Every 1,000 ticks while lacking room the engine rereads the control line, accepting or ignoring the tails. -/
  | ctrlLinePoll (c : Acc)
  /-- INVAL_L2 (R179): MAINT_START with MAINT_OP 1 invalidates the L2 lines of the range. -/
  | invalL2 (src : Src)
  /-- RECALL_L1 (R179): MAINT_START with MAINT_OP 2 recalls every agent copy in the range to memory. -/
  | recallL1 (src : Src)
  /-- PRELOAD (R179): MAINT_START with MAINT_OP 3 fills or locks the range's lines for MAINT_PART. -/
  | preload (src : Src)
  /-- UNLOCK (R179): MAINT_START with MAINT_OP 4 clears LOCKED on MAINT_PART's lines in the range. -/
  | unlock (src : Src)
  /-- MAINT_ABORT (R182): MAINT_ABORT aborts the running job or scrub pass at its next line or row boundary. -/
  | maintAbort (src : Src)
  /-- MAINT_JOB_END (R182): A maintenance job ends; the summary is written, MAINT_SEQ increments, busy clears and event 19 is raised. -/
  | maintJobEnd
  /-- SCRUB_START_DC (R223): SCRUB_START with target 0 starts a scrub pass over data-channel rows. -/
  | scrubStartDc (src : Src)
  /-- SCRUB_START_TAGS (R223): SCRUB_START with target 1 starts a scrub pass over tag rows. -/
  | scrubStartTags (src : Src)
  /-- SCRUB_START_CAT (R223): SCRUB_START with target 2 starts a scrub pass over catalogue mirror sets. -/
  | scrubStartCat (src : Src)
  /-- SCRUB_PASS_END (R224): A scrub pass ends; the summary is written, SCRUB_SEQ increments, busy clears and event 19 is raised. -/
  | scrubPassEnd
  /-- PATROL_DC_ROW (R221): PATROL_DC_INTERVAL elapses and one burst address of each serving channel is scrubbed. -/
  | patrolDcRow
  /-- PATROL_TAG_ROW (R221): PATROL_TAG_INTERVAL elapses and one tag row of each serving slice is scrubbed. -/
  | patrolTagRow
  /-- PATROL_CAT_ROW (R221): PATROL_CAT_INTERVAL elapses and one mirror set of each port in Run is scrubbed. -/
  | patrolCatRow
  /-- DIAG_READ (R225): DIAG_GO with DIAG_OP 1 reads a stored word or beat and reports its syndrome and result. -/
  | diagRead (src : Src) (beat : Beat)
  /-- DIAG_WRITE (R225): DIAG_GO with DIAG_OP 2 writes a word or beat with hub-computed check bits. -/
  | diagWrite (src : Src)
  /-- WRITE_RAW (R225): DIAG_GO with DIAG_OP 3 writes data and check bits exactly as given. -/
  | writeRaw (src : Src)
  /-- CE_LOG_CLEAR (R220): CE_LOG_CLEAR invalidates every correctable-error log entry and rearms event 18. -/
  | ceLogClear (src : Src)
  /-- DC_MARK_A (R202): A write of DC_MARK_A marks or clears a chip after current decodes end. -/
  | dcMarkA (src : Src) (c : Chan) (v : Byte)
  /-- DC_MARK_B (R202): A write of DC_MARK_B marks or clears a chip after current decodes end. -/
  | dcMarkB (src : Src) (c : Chan) (v : Byte)
  /-- WAY_DISABLED (R184): Writing 1 to a WAY_DISABLED bit re-enables that way with all lines invalid. -/
  | wayDisabled (src : Src) (h : Slice) (bits : Word)
  /-- HELD_ACK (R341): HELD_ACK returns a Held port to normal and clears LOSS_CAUSE and FIRST_LOSS_TIME. -/
  | heldAck (src : Src) (n : Port)
  /-- LL_CLEAR (R346): LL_CLEAR invalidates every line-loss log entry and zeroes LL_NEXT and LL_TOTAL. -/
  | llClear (src : Src)
  /-- FENCE_SLICE (R394): A write of FENCE_SLICE fences slices, moving their buckets, or returns cleared slices to service. -/
  | fenceSlice (src : Src) (v : Word)
  /-- FENCE_DC (R394): A write of FENCE_DC fences data channels, or recalibrates and returns cleared ones. -/
  | fenceDc (src : Src) (v : Word)
  /-- FENCE_ML (R394): A write of FENCE_ML fences dual links, or brings cleared ones up again. -/
  | fenceMl (src : Src) (v : Word)
  /-- FENCE_PORT (R394): A write of FENCE_PORT lowers APn_PRDY and reclaims fenced ports, or returns cleared ones. -/
  | fencePort (src : Src) (v : BitVec 64)
  /-- FENCE_ACC (R394): A write of FENCE_ACC stops and empties accession channels, or reactivates cleared ones. -/
  | fenceAcc (src : Src) (v : Word)
  /-- PL_RDYO_RAISE (R91): With PAIR_ENABLE 1 in a serving mode the unit raises PL_RDYO and sends LINK_HELLO once both ready wires are high. -/
  | plRdyoRaise
  /-- PAIR_HELLO (R386): PAIR_HELLO reports the partner's role, mode and home set, or causes the pair to be refused. -/
  | pairHello (state : Byte) (home : Mask64) (mask : Mask64) (tid : Tid) (rx : Rx)
  /-- RANGE_GIVE (R391): RANGE_GIVE arrives and the taker sends HOME_MAP with the buckets added. -/
  | rangeGive (home : Mask64) (tid : Tid) (rx : Rx)
  /-- RANGE_TAKEN (R391): RANGE_TAKEN confirms the give and the giver counts a hand-over. -/
  | rangeTaken (home : Mask64) (tid : Tid) (rx : Rx)
  /-- RETURN_REQ (R391): RETURN_REQ asks this unit to give back buckets and starts a give. -/
  | returnReq (home : Mask64) (tid : Tid) (rx : Rx)
  /-- SURPRISE (R393): SURPRISE from the partner makes the survivor take over every bucket and mark ports fence-pending. -/
  | surprise (tid : Tid) (rx : Rx)
  /-- PAIR_LOSS_TIMEOUT (R392): PL_RDYI stays low for PAIR_LOSS_TIME and the partner is judged lost. -/
  | pairLossTimeout
  /-- PAIR_LINK_RESTART (R392): 500 ticks after a pair-link failure the unit raises PL_RDYO and sends LINK_HELLO again. -/
  | pairLinkRestart
  /-- TAKEN_BUCKETS_SERVED (R389): Every live port has acknowledged the HOME_MAP or been reclaimed and the unit serves its newly taken buckets. -/
  | takenBucketsServed
  /-- IDENT (R404): An IDENT request is answered with the hub's identity, mode and epoch. -/
  | ident (f : JopFrame)
  /-- READ (R404): A JOP READ returns an object's value, or its staged copy with STAGED_COPY. -/
  | read (f : JopFrame)
  /-- WRITE (R404): A JOP WRITE is checked in order and applied as its Takes effect column states. -/
  | write (f : JopFrame)
  /-- STAGE (R412): STAGE writes the staged copy of a STAGED object. -/
  | stage (f : JopFrame)
  /-- COMMIT (R414): COMMIT, or a write of the COMMIT object, checks consistency and at one instant increments EPOCH and applies staged values. -/
  | commit (f : JopFrame)
  /-- COMMIT_SWITCH_DONE (R414): COMMIT_PENDING is empty and bucket moves have ended; COMMIT_STATE returns to 0 and event 29 is raised. -/
  | commitSwitchDone
  /-- STAGE_DISCARD (R412): STAGE_DISCARD sets every staged copy back to its value in force. -/
  | stageDiscard (src : Src)
  /-- SUBSCRIBE_CANCEL (R410): SUBSCRIBE with MODE 0 cancels a subscription. -/
  | subscribeCancel (f : JopFrame)
  /-- SUBSCRIBE_PERIODIC (R410): SUBSCRIBE with MODE 1 makes or renews a periodic subscription and sends one NOTIFY. -/
  | subscribePeriodic (f : JopFrame)
  /-- SUBSCRIBE_ON_CHANGE (R410): SUBSCRIBE with MODE 2 makes or renews an on-change subscription and sends one NOTIFY. -/
  | subscribeOnChange (f : JopFrame)
  /-- NOTIFY_PERIOD_EXPIRY (R410): A periodic subscription's PERIOD elapses and a NOTIFY is sent if the object is readable. -/
  | notifyPeriodExpiry (idx : Fin 16)
  /-- NOTIFY_ON_CHANGE (R410): A subscribed value differs from the value last sent after the 10,000-tick gap and a NOTIFY is sent. -/
  | notifyOnChange (idx : Fin 16)
  /-- SUB_LEASE_EXPIRY (R411): A subscription passes SUB_LEASE without renewal and ends. -/
  | subLeaseExpiry (idx : Fin 16)
  /-- JOURNAL_READ (R417): JOURNAL_READ returns up to 25 journal entries from START. -/
  | journalRead (f : JopFrame)
  /-- SEGMENT_READ (R409): A SEGMENT read request opens or continues a snapshot transfer of a DOMAIN object. -/
  | segmentRead (f : JopFrame)
  /-- SEGMENT_WRITE (R409): A SEGMENT write request carries bytes of a DOMAIN value, applied whole at LAST. -/
  | segmentWrite (f : JopFrame)
  /-- SEGMENT_IDLE_TIMEOUT (R409): A segmented transfer idle for 1 s is abandoned. -/
  | segmentIdleTimeout (idx : Fin 4)
  /-- NET_FRAME_DISCARDED (R400): A frame not addressed to the hub, an answer frame, or one arriving to a full queue is discarded and counted. -/
  | netFrameDiscarded (full : Bool)
  /-- OBJECT_WRITE (R427): A write of a register that has no row of its own is checked and applied as its Takes effect column states. -/
  | objectWrite (src : Src) (index : BitVec 16) (sub : Byte) (value : List Byte)
  /-- CAL_INTERVAL_EXPIRY (R371): CAL_INTERVAL passes since a channel's last calibration ended and a background calibration of that channel becomes due. -/
  | calIntervalExpiry (c : Chan)
  /-- PL_RDYI_FALL (R392): The partner's pair-link ready wire falls; the unit abandons symbols in flight, lowers PL_RDYO for 500 ticks, clears its replay buffer and starts counting towards PAIR_LOSS_TIME. -/
  | plRdyiFall
  /-- PL_RDYI_RISE (R91): The partner's pair-link ready wire rises while this unit's PL_RDYO is already high, and the unit sends LINK_HELLO. -/
  | plRdyiRise
  /-- VIOM_RESTORED (R447): VIOM returns within its range after a loss; the field interface restarts as on a power-on of PD1 and NODEID is sampled again. -/
  | viomRestored (nodeId : BitVec 6) (plcaOk : Bool)
  /-- VNVM_RESTORED (R447): VNVM returns within its range; the hub may again program and erase the NVM and the time bound of R372 holds again. -/
  | vnvmRestored
  /-- JOURNAL_PROGRAM_DONE (R372): An NVM program or segment erase of the journal ends; the entry leaves the 64-entry queue and any answer waiting on a full queue is sent. -/
  | journalProgramDone (verified : Bool)
  /-- PRES_BOUNCE (R376): In Bring-up the presence inputs start to disagree, giving PRES_STATE 1, or a disagreement ends with both low, counting one PRES_BOUNCES and giving PRES_STATE 0. -/
  | presBounce (levelA : Bool) (levelB : Bool)
deriving DecidableEq, Repr

end Sys2Proof
end

