-- ==== Sys2Proof/Config.lean ====
section
/-! DEFINITION. What an implementation fixes and the values the spec leaves open. -/

namespace Sys2Proof

/-- The n-th free value: nothing constrains it (assumption 3). -/
opaque Config.freeValue : Nat → Nat

/-- The ten hexadecimal digits of SERIAL, unique to the unit (17 R436). -/
opaque Config.serialDigits : BitVec 40

end Sys2Proof
end

