-- ==== Sys2Proof/Machine/Codes.lean ====
section
/-! DEFINITION. The codes of the block: the byte lanes of lines, CRC-8 and CRC-32 of the links (03 R84, 09 R235), the quad-rail
transition code (03 R57), the (39,32) Hsiao code of the internal arrays (08 R214, R215) and RS(20,16) of the data channels
(07 R195 to R197). -/

namespace Sys2Proof.Machine

/-- Byte i of a line (04 R94). -/
def lineByte (l : Line) (i : Nat) : Byte := l.extractLsb' (8 * i) 8

/-- The bytes of a line in ascending offset. -/
def lineBytes (l : Line) : List Byte := (List.range 64).map (lineByte l)

/-- A little-endian list of bytes as a number (00 R5). -/
def bytesNat : List Byte → Nat
  | [] => 0
  | b :: bs => b.toNat + 256 * bytesNat bs

/-- The n low bytes of a number, least significant first (00 R5). -/
def natBytes : Nat → Nat → List Byte
  | 0, _ => []
  | n + 1, v => BitVec.ofNat 8 v :: natBytes n (v / 256)

/-- A byte mask widened to the bits it covers. -/
def widenMask (m : Mask64) : Line :=
  BitVec.ofNat 512 <|
    (List.range 64).foldl (fun a i => if m.getLsbD i then a + 255 * 2 ^ (8 * i) else a) 0

/-- The bytes of `new` where the mask is set, of `old` elsewhere. -/
def overlay (old new : Line) (m : Mask64) : Line :=
  (old &&& ~~~ (widenMask m)) ||| (new &&& widenMask m)

/-- A mask of `n` bytes from offset `off`. -/
def byteRange (off n : Nat) : Mask64 := BitVec.ofNat 64 ((2 ^ n - 1) * 2 ^ off)

/-- The full mask of a line. -/
def fullMask : Mask64 := BitVec.allOnes 64

/-- One bit of the CRC-8 shift register (03 R84). -/
def crc8Bit (c : Byte) : Byte := if c.getLsbD 7 then (c <<< 1) ^^^ 0x07#8 else c <<< 1

/-- One symbol through the CRC-8 (03 R84). -/
def crc8Step (c s : Byte) : Byte :=
  crc8Bit (crc8Bit (crc8Bit (crc8Bit (crc8Bit (crc8Bit (crc8Bit (crc8Bit (c ^^^ s))))))))

/-- CRC-8 over the symbols before the CRC symbol (03 R84). -/
def crc8 (symbols : List Byte) : Byte := symbols.foldl crc8Step 0#8

/-- `n` bits of the CRC-32 shift register (09 R235). -/
def crc32Bits : Nat → Word → Word
  | 0, c => c
  | n + 1, c => crc32Bits n (if c.getLsbD 31 then (c <<< 1) ^^^ 0x04C11DB7#32 else c <<< 1)

/-- CRC-32 over the symbols before the CRC symbol (09 R235). -/
def crc32 (symbols : List Word) : Word :=
  symbols.foldl (fun c s => crc32Bits 32 (c ^^^ s)) 0xFFFFFFFF#32

/-- The rails one symbol of `groups` quad-rail groups toggles, as a mask: rail 4g+v for value v of group g (03 R57). -/
def railToggles (groups sym : Nat) : Nat :=
  (List.range groups).foldl (fun a g => a + 2 ^ (4 * g + sym / 4 ^ g % 4)) 0

/-- Rail levels after a run of symbols (03 R57, R58). -/
def railsAfter (groups : Nat) (levels : BitVec 64) (symbols : List Nat) : BitVec 64 :=
  symbols.foldl (fun l s => l ^^^ BitVec.ofNat 64 (railToggles groups s)) levels

/-- An acknowledge wire after one toggle for each of `n` symbols (03 R60). -/
def ackAfter (level : Bool) (n : Nat) : Bool := if n % 2 = 1 then !level else level

/-! The Hsiao code of the internal arrays. -/

/-- The columns of data bits 0 to 31 (08 R214). -/
def dataColumns : List (BitVec 7) :=
  [0x07, 0x0B, 0x0D, 0x0E, 0x13, 0x15, 0x16, 0x19, 0x1A, 0x1C, 0x23, 0x25, 0x26, 0x29, 0x2A, 0x2C] ++
  [0x31, 0x32, 0x34, 0x38, 0x43, 0x45, 0x46, 0x49, 0x4A, 0x4C, 0x51, 0x52, 0x54, 0x58, 0x61, 0x62]

/-- The XOR of the columns whose data bits are 1, data bit `i` first. -/
def columnSum : List (BitVec 7) → Nat → Word → BitVec 7
  | [], _, _ => 0
  | c :: cs, i, d => (if d.getLsbD i then c else 0) ^^^ columnSum cs (i + 1) d

/-- The check field of a data word (08 R214). -/
def checkBits (d : Word) : BitVec 7 := columnSum dataColumns 0 d

/-- A data word with its check bits, as the arrays store it (08 R214). -/
def encodeWord (d : Word) : Stored := checkBits d ++ d

/-- The data bits of a stored word. -/
def storedData (w : Stored) : Word := w.extractLsb' 0 32

/-- The check bits of a stored word. -/
def storedCheck (w : Stored) : BitVec 7 := w.extractLsb' 32 7

/-- The syndrome of a stored word (08 R214). -/
def syndrome (w : Stored) : BitVec 7 := storedCheck w ^^^ checkBits (storedData w)

/-- The position of a value in a list, counted from `i`. -/
def positionFrom (x : BitVec 7) : List (BitVec 7) → Nat → Option Nat
  | [], _ => none
  | c :: cs, i => if c = x then some i else positionFrom x cs (i + 1)

/-- What a read word shows (08 R215). -/
inductive WordRead where
  | clean (d : Word)
  | corrected (d : Word) (bit : Nat)
  | uncorrectable
deriving DecidableEq, Repr

/-- The outcome of a stored word by its syndrome (08 R215); `bit` is 0 to 31 for a data bit and 32+j for check bit j. -/
def decodeWord (w : Stored) : WordRead :=
  if syndrome w = 0 then .clean (storedData w)
  else
    match positionFrom (syndrome w) dataColumns 0 with
    | some i => .corrected (storedData w ^^^ BitVec.ofNat 32 (2 ^ i)) i
    | none =>
      match positionFrom (syndrome w) [0x01, 0x02, 0x04, 0x08, 0x10, 0x20, 0x40] 0 with
      | some j => .corrected (storedData w) (32 + j)
      | none => .uncorrectable

/-! RS(20,16) over GF(2^8) with polynomial 0x11D (07 R195). -/

/-- Multiplication by α = 0x02. -/
def gfDouble (a : Byte) : Byte := if a.getLsbD 7 then (a <<< 1) ^^^ 0x1D#8 else a <<< 1

/-- `n` steps of the product of `a` and `b`, from bit `n-1` of `b` down. -/
def gfMulFrom (a b : Byte) : Nat → Byte
  | 0 => 0
  | n + 1 => gfDouble (gfMulFrom a (b >>> 1) n) ^^^ (if b.getLsbD 0 then a else 0)

/-- Multiplication in GF(2^8). -/
def gfMul (a b : Byte) : Byte := gfMulFrom a b 8

/-- α^n. -/
def gfPow2 : Nat → Byte
  | 0 => 1
  | n + 1 => gfDouble (gfPow2 n)

/-- a^n by repeated products. -/
def gfPow (a : Byte) : Nat → Byte
  | 0 => 1
  | n + 1 => gfMul a (gfPow a n)

/-- The inverse, a^254; 0 for 0. -/
def gfInv (a : Byte) : Byte := gfPow a 254

/-- Symbol of chip i in a beat. -/
def chipSym (b : Beat) (i : Nat) : Byte := b.extractLsb' (8 * i) 8

/-- A beat with chip i's symbol changed by XOR. -/
def xorChip (b : Beat) (i : Nat) (e : Byte) : Beat := b ^^^ (BitVec.ofNat 160 (e.toNat * 2 ^ (8 * i)))

/-- Syndrome S_j: the received word at α^j, chip 0 the coefficient of x^19 (07 R195, R197). -/
def rsSyndrome (b : Beat) (j : Nat) : Byte :=
  (List.range 20).foldl (fun a i => gfMul a (gfPow2 j) ^^^ chipSym b i) 0

/-- The four syndromes (07 R197). -/
def rsSyndromes (b : Beat) : List Byte := [rsSyndrome b 0, rsSyndrome b 1, rsSyndrome b 2, rsSyndrome b 3]

/-- One step of the division by g(x), the remainder held as (x^3, x^2, x^1, x^0) (07 R196). -/
def rsDivStep (r : Byte × Byte × Byte × Byte) (d : Byte) : Byte × Byte × Byte × Byte :=
  match r with
  | (a, b, c, e) =>
    let f := a ^^^ d
    (b ^^^ gfMul f 0x0F#8, c ^^^ gfMul f 0x36#8, e ^^^ gfMul f 0x78#8, gfMul f 0x40#8)

/-- The check symbols of 16 data bytes: chips 16 to 19 (07 R196). -/
def rsChecks (d : BitVec 128) : Byte × Byte × Byte × Byte :=
  (List.range 16).foldl (fun r k => rsDivStep r (d.extractLsb' (8 * k) 8)) (0, 0, 0, 0)

/-- A beat with its check symbols (07 R196). -/
def rsEncode (d : BitVec 128) : Beat :=
  match rsChecks d with
  | (a, b, c, e) => e ++ c ++ b ++ a ++ d

/-- What a beat shows: the data and the chips corrected, or uncorrectable (07 R197). -/
inductive BeatRead where
  | clean (d : BitVec 128)
  | corrected (d : BitVec 128) (chips : List Nat)
  | uncorrectable
deriving DecidableEq, Repr

/-- The locator of chip i, α^(19-i). -/
def locator (i : Nat) : Byte := gfPow2 (19 - i)

/-- Remove the effect of an erasure at locator x from a list of syndromes: L_{j+1} + x L_j. -/
def killMark (x : Byte) : List Byte → List Byte
  | a :: b :: rest => (b ^^^ gfMul x a) :: killMark x (b :: rest)
  | _ => []

/-- Each entry is the one before it times x. -/
def geometric (x : Byte) : List Byte → Bool
  | a :: b :: rest => (b == gfMul x a) && geometric x (b :: rest)
  | _ => true

/-- The one unmarked chip whose error explains the reduced syndromes (07 R197). -/
def findChip (marks : List Nat) (l : List Byte) : Option Nat :=
  (List.range 20).reverse.find? (fun i => !(marks.contains i) && geometric (locator i) l)

/-- Magnitudes of the erased chips once the unmarked error is out of the syndromes. -/
def markErrors (marks : List Nat) (s0 s1 : Byte) : List (Nat × Byte) :=
  match marks with
  | [] => []
  | [m] => [(m, s0)]
  | m :: n :: _ =>
    let e := gfMul (s1 ^^^ gfMul s0 (locator m)) (gfInv (locator n ^^^ locator m))
    [(m, s0 ^^^ e), (n, e)]

/-- The erased chips whose symbol was wrong. -/
def brokenChips (errs : List (Nat × Byte)) : List Nat := (errs.filter (fun e => e.2 != 0)).map (·.1)

/-- The decoder of one beat with up to two marked chips (07 R197): with no marks exactly the pseudocode's outcome; with marks an
errors-and-erasures decoder of the table. The chips listed are the ones whose symbol was corrected. -/
def rsDecode (marks : List Nat) (b : Beat) : BeatRead :=
  let s := rsSyndromes b
  if s.all (· == 0) then .clean (b.extractLsb' 0 128)
  else
    let l := marks.foldl (fun l m => killMark (locator m) l) s
    if l.all (· == 0) then
      let errs := markErrors marks (rsSyndrome b 0) (rsSyndrome b 1)
      let b' := errs.foldl (fun b e => xorChip b e.1 e.2) b
      .corrected (b'.extractLsb' 0 128) (brokenChips errs)
    else if l.headD 0 == 0 then .uncorrectable
    else
      match findChip marks l with
      | none => .uncorrectable
      | some i =>
        let den := marks.foldl (fun d m => gfMul d (locator i ^^^ locator m)) 1
        let e := gfMul (l.headD 0) (gfInv den)
        let b1 := xorChip b i e
        let errs := markErrors marks (rsSyndrome b1 0) (rsSyndrome b1 1)
        let b' := errs.foldl (fun b e => xorChip b e.1 e.2) b1
        .corrected (b'.extractLsb' 0 128) (i :: brokenChips errs)

/-- What a burst shows: the line and the chips corrected in any beat, marked ones included, each once; none when a beat is uncorrectable
(07 R197, R198). The flag is true when any beat was corrected. -/
def decodeBurst (marks : List Nat) (r : Burst) : Option (Line × Bool × List Nat) :=
  match rsDecode marks (r.extractLsb' 0 160), rsDecode marks (r.extractLsb' 160 160),
        rsDecode marks (r.extractLsb' 320 160), rsDecode marks (r.extractLsb' 480 160) with
  | .uncorrectable, _, _, _ => none
  | _, .uncorrectable, _, _ => none
  | _, _, .uncorrectable, _ => none
  | _, _, _, .uncorrectable => none
  | b0, b1, b2, b3 =>
    let data := fun (b : BeatRead) => match b with
      | .clean d => d | .corrected d _ => d | .uncorrectable => 0
    let chips := fun (b : BeatRead) => match b with
      | .corrected _ c => c | _ => []
    let fixed := fun (b : BeatRead) => match b with
      | .corrected _ _ => true | _ => false
    some (data b3 ++ data b2 ++ data b1 ++ data b0,
      fixed b0 || fixed b1 || fixed b2 || fixed b3,
      (chips b0 ++ chips b1 ++ chips b2 ++ chips b3).eraseDups)

/-- The burst that stores a line: every beat with its check symbols (07 R190, R196). -/
def encodeBurst (l : Line) : Burst :=
  rsEncode (l.extractLsb' 384 128) ++ rsEncode (l.extractLsb' 256 128) ++
    rsEncode (l.extractLsb' 128 128) ++ rsEncode (l.extractLsb' 0 128)

end Sys2Proof.Machine
end

