-- ==== Sys2Proof/Machine/Dictionary.lean ====
section
/-! DEFINITION. The object dictionary: for every object its type, access class, default, range and reserved bits (17 R420 to R434 and
the object tables of the chapters), and the name of each object that the model uses. -/

namespace Sys2Proof.Machine

/-- Types of objects (17 R421). -/
inductive OType where
  | bool | u8 | u16 | u32 | u64 | i32 | bits32 | str | domain
deriving DecidableEq, Repr

/-- Access classes (17 R424). -/
inductive OAccess where
  | const | ro | rw | wo | w1c | staged
deriving DecidableEq, Repr

/-- The range rule that a value alone decides (the Range column; further rules are judged with the write). -/
inductive Rng where
  | any
  | range (lo hi : Nat)
  | rangeOr (lo hi v : Nat)
  | signed (lo hi : Int)
  | mult (m hi : Nat)
deriving DecidableEq, Repr

/-- A row of the dictionary: indices i0 to i1, subindices s0 to s1. -/
structure ORow where
  i0 : Nat
  i1 : Nat
  s0 : Nat
  s1 : Nat
  ty : OType
  acc : OAccess
  dflt : Nat
  rng : Rng
  keep : Nat
deriving DecidableEq, Repr

/-- No reserved bits. -/
def allOnes64 : Nat := 0xFFFFFFFFFFFFFFFF

/-- Stands for the default b mod 32 of BUCKET_MAP (05 R161), which ORow.default works out. -/
def bucketDefault : Nat := 0x10000000000000000

/-- The length of a value of a type in bytes (17 R421); a STR or DOMAIN has no fixed length. -/
def OType.bytes : OType → Nat
  | .bool => 1 | .u8 => 1 | .u16 => 2 | .u32 => 4 | .i32 => 4 | .bits32 => 4 | .u64 => 8 | .str => 0 | .domain => 0

/-- Is the value inside the range? -/
def Rng.ok : Rng → Nat → Bool
  | .any, _ => true
  | .range lo hi, v => lo ≤ v && v ≤ hi
  | .rangeOr lo hi o, v => v == o || (lo ≤ v && v ≤ hi)
  | .signed lo hi, v =>
    let x : Int := if v < 0x80000000 then (v : Int) else (v : Int) - 0x100000000
    decide (lo ≤ x) && decide (x ≤ hi)
  | .mult m hi, v => v % m == 0 && v ≤ hi

/-- The objects of block 0x1000. -/
def dict10 : List ORow := [
  ⟨0x1000, 0x1000, 0x1, 0x1, .u32, .const, 0x4f4e5a52, .any, allOnes64⟩,
  ⟨0x1000, 0x1000, 0x2, 0x2, .u32, .const, 18482, .any, allOnes64⟩,
  ⟨0x1000, 0x1000, 0x3, 0x3, .u32, .const, 193, .any, allOnes64⟩,
  ⟨0x1000, 0x1000, 0x4, 0x4, .str, .const, 0, .any, allOnes64⟩,
  ⟨0x1000, 0x1000, 0x5, 0x5, .u8, .ro, 0, .any, allOnes64⟩,
  ⟨0x1000, 0x1000, 0x6, 0x6, .bits32, .ro, 0, .any, allOnes64⟩,
  ⟨0x1000, 0x1000, 0x7, 0x7, .u64, .ro, 0, .any, allOnes64⟩,
  ⟨0x1000, 0x1000, 0x8, 0x8, .str, .const, 0, .any, allOnes64⟩,
  ⟨0x1000, 0x1000, 0x9, 0x9, .u16, .const, 256, .any, allOnes64⟩]

/-- The objects of block 0x1100. -/
def dict11 : List ORow := [
  ⟨0x1100, 0x1100, 0x1, 0x1, .u8, .rw, 3, .any, allOnes64⟩,
  ⟨0x1100, 0x1100, 0x2, 0x2, .u8, .ro, 0, .any, allOnes64⟩,
  ⟨0x1100, 0x1100, 0x3, 0x3, .u8, .ro, 0, .any, allOnes64⟩,
  ⟨0x1100, 0x1100, 0x4, 0x4, .u32, .ro, 0, .any, allOnes64⟩,
  ⟨0x1100, 0x1100, 0x5, 0x5, .bits32, .ro, 3, .any, allOnes64⟩,
  ⟨0x1100, 0x1100, 0x6, 0x6, .u8, .ro, 0, .any, allOnes64⟩,
  ⟨0x1100, 0x1100, 0x7, 0x7, .u32, .rw, 0xf4240, .range 100000 100000000, allOnes64⟩,
  ⟨0x1100, 0x1100, 0x8, 0x8, .u32, .rw, 0x989680, .range 1000000 1000000000, allOnes64⟩,
  ⟨0x1100, 0x1100, 0xa, 0xa, .u8, .ro, 0, .any, allOnes64⟩,
  ⟨0x1100, 0x1100, 0xb, 0xb, .i32, .ro, 0, .any, allOnes64⟩]

/-- The objects of block 0x1200. -/
def dict12 : List ORow := [
  ⟨0x1200, 0x1200, 0x1, 0x1, .u32, .rw, 0x186a0, .range 10000 100000000, allOnes64⟩,
  ⟨0x1201, 0x1201, 0x1, 0x10, .i32, .ro, 0, .any, allOnes64⟩,
  ⟨0x1202, 0x1202, 0x1, 0x8, .u32, .ro, 0, .any, allOnes64⟩,
  ⟨0x1203, 0x1203, 0x1, 0x20, .u16, .ro, 0, .any, allOnes64⟩,
  ⟨0x1204, 0x1204, 0x1, 0x30, .u16, .ro, 0, .any, allOnes64⟩,
  ⟨0x1205, 0x1205, 0x1, 0x8, .u16, .ro, 0, .any, allOnes64⟩,
  ⟨0x1206, 0x1206, 0x1, 0x1, .i32, .rw, 11500, .signed (-5500) 13000, allOnes64⟩,
  ⟨0x1206, 0x1206, 0x2, 0x2, .i32, .rw, 13000, .signed 12500 13500, allOnes64⟩,
  ⟨0x1206, 0x1206, 0x3, 0x3, .u16, .rw, 710, .range 660 1000, allOnes64⟩,
  ⟨0x1206, 0x1206, 0x4, 0x4, .u16, .rw, 990, .range 700 1050, allOnes64⟩,
  ⟨0x1206, 0x1206, 0x5, 0x5, .u16, .rw, 0, .rangeOr 500 10000 0, allOnes64⟩,
  ⟨0x1210, 0x1210, 0x1, 0x1, .u32, .rw, 0x4c4b40, .range 100000 100000000, allOnes64⟩,
  ⟨0x1210, 0x1210, 0x2, 0x2, .u16, .rw, 400, .range 50 2000, allOnes64⟩,
  ⟨0x1210, 0x1210, 0x3, 0x3, .u16, .rw, 20, .range 5 100, allOnes64⟩,
  ⟨0x1210, 0x1210, 0x4, 0x4, .u32, .rw, 0xf4240, .range 0 1000000, allOnes64⟩,
  ⟨0x1210, 0x1210, 0x5, 0x5, .u32, .ro, 0, .any, allOnes64⟩,
  ⟨0x1211, 0x1211, 0x1, 0x1, .u16, .rw, 256, .range 32 4096, allOnes64⟩,
  ⟨0x1212, 0x1212, 0x1, 0x1, .u16, .ro, 8192, .any, allOnes64⟩,
  ⟨0x1212, 0x1212, 0x2, 0x2, .u8, .ro, 8, .any, allOnes64⟩,
  ⟨0x1212, 0x1212, 0x3, 0x3, .u32, .ro, 0, .any, allOnes64⟩,
  ⟨0x1212, 0x1212, 0x4, 0x4, .u8, .ro, 0, .any, allOnes64⟩]

/-- The objects of block 0x1300. -/
def dict13 : List ORow := [
  ⟨0x1300, 0x1300, 0x1, 0x1, .u8, .ro, 0, .any, allOnes64⟩,
  ⟨0x1300, 0x1300, 0x2, 0x2, .u64, .ro, 0, .any, allOnes64⟩,
  ⟨0x1300, 0x1300, 0x3, 0x3, .bool, .rw, 1, .any, allOnes64⟩,
  ⟨0x1300, 0x1300, 0x4, 0x4, .u8, .rw, 8, .range 2 64, allOnes64⟩,
  ⟨0x1300, 0x1300, 0x5, 0x5, .u8, .rw, 32, .range 1 255, allOnes64⟩,
  ⟨0x1300, 0x1300, 0x6, 0x6, .bool, .ro, 0, .any, allOnes64⟩,
  ⟨0x1300, 0x1300, 0x7, 0x7, .u32, .ro, 0, .any, allOnes64⟩,
  ⟨0x1300, 0x1300, 0x8, 0x8, .u32, .ro, 0, .any, allOnes64⟩,
  ⟨0x1300, 0x1300, 0x9, 0x9, .u32, .ro, 0, .any, allOnes64⟩,
  ⟨0x1300, 0x1300, 0xa, 0xa, .u32, .ro, 0, .any, allOnes64⟩,
  ⟨0x1300, 0x1300, 0xb, 0xb, .u32, .ro, 0, .any, allOnes64⟩,
  ⟨0x1300, 0x1300, 0x10, 0x10, .bool, .wo, 0, .any, allOnes64⟩,
  ⟨0x1300, 0x1300, 0x11, 0x11, .u8, .ro, 0, .any, allOnes64⟩,
  ⟨0x1300, 0x1300, 0x12, 0x12, .u8, .ro, 0, .any, allOnes64⟩,
  ⟨0x1300, 0x1300, 0x13, 0x13, .u64, .ro, 0, .any, allOnes64⟩,
  ⟨0x1300, 0x1300, 0x14, 0x14, .bits32, .ro, 0, .any, allOnes64⟩,
  ⟨0x1300, 0x1300, 0x15, 0x15, .bool, .wo, 0, .any, allOnes64⟩,
  ⟨0x1300, 0x1300, 0x16, 0x16, .u16, .ro, 0, .any, allOnes64⟩,
  ⟨0x1300, 0x1300, 0x17, 0x17, .u32, .ro, 0, .any, allOnes64⟩,
  ⟨0x1300, 0x1300, 0x20, 0x20, .u64, .rw, 0xffff000000, .mult 16777216 1099511627775, allOnes64⟩,
  ⟨0x1301, 0x1301, 0x1, 0x1, .u32, .ro, 0, .any, allOnes64⟩,
  ⟨0x1301, 0x1301, 0x2, 0x2, .u32, .ro, 0, .any, allOnes64⟩,
  ⟨0x1302, 0x1302, 0x1, 0x1, .u32, .rw, 0xb2d05e00, .range 100000000 4000000000, allOnes64⟩,
  ⟨0x1302, 0x1302, 0x2, 0x2, .u8, .ro, 0, .any, allOnes64⟩,
  ⟨0x1302, 0x1302, 0x3, 0x3, .u32, .ro, 0, .any, allOnes64⟩]

/-- The objects of block 0x1400. -/
def dict14 : List ORow := [
  ⟨0x1400, 0x1400, 0x1, 0x1, .u32, .rw, 0x1e8480, .range 100000 10000000, allOnes64⟩,
  ⟨0x1400, 0x1400, 0x2, 0x2, .u8, .ro, 0, .any, allOnes64⟩,
  ⟨0x1400, 0x1400, 0x3, 0x3, .u16, .rw, 100, .range 10 10000, allOnes64⟩,
  ⟨0x1400, 0x1400, 0x4, 0x4, .u32, .ro, 0, .any, allOnes64⟩,
  ⟨0x1400, 0x1400, 0x5, 0x5, .u32, .ro, 0, .any, allOnes64⟩,
  ⟨0x1400, 0x1400, 0x6, 0x6, .bool, .ro, 0, .any, allOnes64⟩,
  ⟨0x1401, 0x1401, 0x1, 0x1, .bool, .rw, 0, .any, allOnes64⟩,
  ⟨0x1401, 0x1401, 0x2, 0x2, .u8, .rw, 0, .range 0 1, allOnes64⟩,
  ⟨0x1401, 0x1401, 0x3, 0x3, .u64, .rw, 0x5555555555555555, .any, allOnes64⟩,
  ⟨0x1401, 0x1401, 0x4, 0x4, .u8, .rw, 0, .range 0 1, allOnes64⟩,
  ⟨0x1401, 0x1401, 0x5, 0x5, .u8, .ro, 0, .any, allOnes64⟩,
  ⟨0x1401, 0x1401, 0x6, 0x6, .u64, .ro, 0xffffffffffffffff, .any, allOnes64⟩,
  ⟨0x1401, 0x1401, 0x7, 0x7, .u64, .ro, 0, .any, allOnes64⟩,
  ⟨0x1401, 0x1401, 0x8, 0x8, .u32, .ro, 0, .any, allOnes64⟩,
  ⟨0x1401, 0x1401, 0x9, 0x9, .u32, .ro, 0, .any, allOnes64⟩,
  ⟨0x1401, 0x1401, 0xa, 0xa, .u32, .rw, 1000, .range 600 1000000, allOnes64⟩,
  ⟨0x1401, 0x1401, 0xb, 0xb, .u32, .rw, 0xf4240, .range 10000 100000000, allOnes64⟩,
  ⟨0x1401, 0x1401, 0xc, 0xc, .u32, .ro, 0, .any, allOnes64⟩,
  ⟨0x1401, 0x1401, 0xd, 0xd, .u32, .ro, 0, .any, allOnes64⟩,
  ⟨0x1401, 0x1401, 0xe, 0xe, .u32, .ro, 0, .any, allOnes64⟩,
  ⟨0x1401, 0x1401, 0xf, 0xf, .u32, .ro, 0, .any, allOnes64⟩,
  ⟨0x1401, 0x1401, 0x10, 0x10, .u32, .ro, 0, .any, allOnes64⟩,
  ⟨0x1401, 0x1401, 0x11, 0x11, .u32, .ro, 0, .any, allOnes64⟩,
  ⟨0x1402, 0x1402, 0x1, 0x1, .bits32, .rw, 0, .any, allOnes64⟩,
  ⟨0x1402, 0x1402, 0x2, 0x2, .bits32, .rw, 0, .any, 0xff⟩,
  ⟨0x1402, 0x1402, 0x3, 0x3, .bits32, .rw, 0, .any, 0xff⟩,
  ⟨0x1402, 0x1402, 0x4, 0x4, .u64, .rw, 0, .any, 0xffffffffffff⟩,
  ⟨0x1402, 0x1402, 0x5, 0x5, .bits32, .rw, 0, .any, 0xfff⟩,
  ⟨0x1402, 0x1402, 0x6, 0x6, .u32, .ro, 0, .any, allOnes64⟩]

/-- The objects of block 0x2000. -/
def dict20 : List ORow := [
  ⟨0x2000, 0x202f, 0x1, 0x1, .bool, .rw, 1, .any, allOnes64⟩,
  ⟨0x2000, 0x202f, 0x2, 0x2, .u8, .rw, 0, .range 0 1, allOnes64⟩,
  ⟨0x2000, 0x202f, 0x3, 0x3, .bool, .staged, 0, .any, allOnes64⟩,
  ⟨0x2000, 0x202f, 0x4, 0x4, .u32, .ro, 0, .any, allOnes64⟩,
  ⟨0x2000, 0x202f, 0x5, 0x5, .u8, .ro, 0, .any, allOnes64⟩,
  ⟨0x2000, 0x202f, 0x6, 0x6, .u32, .rw, 10000, .range 1000 1000000, allOnes64⟩,
  ⟨0x2000, 0x202f, 0x7, 0x7, .bool, .wo, 0, .any, allOnes64⟩,
  ⟨0x2000, 0x202f, 0x8, 0x8, .u8, .ro, 0, .any, allOnes64⟩,
  ⟨0x2000, 0x202f, 0x9, 0x9, .u32, .ro, 0, .any, allOnes64⟩,
  ⟨0x2000, 0x202f, 0xa, 0xa, .u32, .ro, 0, .any, allOnes64⟩,
  ⟨0x2000, 0x202f, 0xb, 0xb, .u32, .ro, 0, .any, allOnes64⟩,
  ⟨0x2000, 0x202f, 0xc, 0xc, .u32, .ro, 0, .any, allOnes64⟩,
  ⟨0x2000, 0x202f, 0xd, 0xd, .u32, .ro, 0, .any, allOnes64⟩,
  ⟨0x2000, 0x202f, 0xe, 0xe, .u32, .ro, 0, .any, allOnes64⟩,
  ⟨0x2000, 0x202f, 0xf, 0xf, .u32, .ro, 0, .any, allOnes64⟩,
  ⟨0x2000, 0x202f, 0x10, 0x10, .u32, .ro, 0, .any, allOnes64⟩,
  ⟨0x2000, 0x202f, 0x11, 0x11, .u32, .ro, 0, .any, allOnes64⟩,
  ⟨0x2000, 0x202f, 0x12, 0x12, .u32, .ro, 0, .any, allOnes64⟩,
  ⟨0x2000, 0x202f, 0x13, 0x13, .u32, .ro, 0, .any, allOnes64⟩,
  ⟨0x2000, 0x202f, 0x14, 0x14, .u32, .ro, 0, .any, allOnes64⟩]

/-- The objects of block 0x2100. -/
def dict21 : List ORow := [
  ⟨0x2100, 0x2100, 0x1, 0x1, .u64, .rw, 0xffffffffffff, .range 0 281474976710655, allOnes64⟩,
  ⟨0x2101, 0x210f, 0x1, 0x1, .u64, .rw, 0, .range 0 281474976710655, allOnes64⟩,
  ⟨0x2100, 0x210f, 0x2, 0x2, .u8, .staged, 1, .range 0 1, allOnes64⟩,
  ⟨0x2100, 0x210f, 0x3, 0x3, .u64, .staged, 0, .mult 4096 1099511627775, allOnes64⟩,
  ⟨0x2100, 0x210f, 0x4, 0x4, .u64, .staged, 0, .mult 4294967296 0xFF00000000, allOnes64⟩,
  ⟨0x2100, 0x210f, 0x5, 0x5, .u8, .staged, 0, .range 0 3, allOnes64⟩,
  ⟨0x2100, 0x210f, 0x6, 0x6, .bool, .wo, 0, .any, allOnes64⟩,
  ⟨0x2100, 0x210f, 0x7, 0x7, .bool, .ro, 0, .any, allOnes64⟩,
  ⟨0x2100, 0x210f, 0x8, 0x8, .u8, .wo, 0, .range 1 2, allOnes64⟩,
  ⟨0x2100, 0x210f, 0x9, 0x9, .u8, .ro, 0, .any, allOnes64⟩,
  ⟨0x2100, 0x210f, 0xa, 0xa, .u32, .ro, 0, .any, allOnes64⟩,
  ⟨0x2100, 0x210f, 0xb, 0xb, .u32, .ro, 0, .any, allOnes64⟩,
  ⟨0x2100, 0x210f, 0xc, 0xc, .u32, .ro, 0, .any, allOnes64⟩,
  ⟨0x2100, 0x210f, 0xd, 0xd, .bits32, .ro, 0, .any, allOnes64⟩,
  ⟨0x2100, 0x210f, 0xe, 0xe, .u32, .ro, 0, .any, allOnes64⟩,
  ⟨0x2100, 0x210f, 0xf, 0xf, .u32, .ro, 0, .any, allOnes64⟩,
  ⟨0x2100, 0x2100, 0x11, 0x11, .bool, .rw, 0x1, .any, allOnes64⟩,
  ⟨0x2101, 0x210f, 0x11, 0x11, .bool, .rw, 0, .any, allOnes64⟩,
  ⟨0x2130, 0x213f, 0x1, 0x1, .u8, .staged, 2, .range 0 3, allOnes64⟩,
  ⟨0x2130, 0x213f, 0x2, 0x2, .u8, .staged, 16, .range 1 255, allOnes64⟩,
  ⟨0x2130, 0x2130, 0x3, 0x3, .u8, .staged, 0x4, .range 0 52, allOnes64⟩,
  ⟨0x2131, 0x213f, 0x3, 0x3, .u8, .staged, 0, .range 0 52, allOnes64⟩,
  ⟨0x2130, 0x213f, 0x4, 0x4, .u8, .staged, 52, .range 1 52, allOnes64⟩,
  ⟨0x2130, 0x2130, 0x5, 0x5, .u16, .staged, 0x10, .range 0 256, allOnes64⟩,
  ⟨0x2131, 0x213f, 0x5, 0x5, .u16, .staged, 0, .range 0 256, allOnes64⟩,
  ⟨0x2130, 0x213f, 0x6, 0x6, .u16, .staged, 256, .range 1 256, allOnes64⟩,
  ⟨0x2130, 0x2130, 0x7, 0x7, .u16, .staged, 0x10, .range 0 256, allOnes64⟩,
  ⟨0x2131, 0x213f, 0x7, 0x7, .u16, .staged, 0, .range 0 256, allOnes64⟩,
  ⟨0x2130, 0x213f, 0x8, 0x8, .u16, .staged, 256, .range 1 256, allOnes64⟩,
  ⟨0x2130, 0x213f, 0x9, 0x9, .u32, .ro, 0, .any, allOnes64⟩,
  ⟨0x2130, 0x213f, 0xa, 0xa, .u32, .ro, 0, .any, allOnes64⟩,
  ⟨0x2130, 0x213f, 0xb, 0xb, .u32, .ro, 0, .any, allOnes64⟩,
  ⟨0x2130, 0x213f, 0xc, 0xc, .u32, .ro, 0, .any, allOnes64⟩,
  ⟨0x2110, 0x211f, 0x1, 0x1, .u8, .staged, 0, .range 0 1, allOnes64⟩,
  ⟨0x2110, 0x211f, 0x2, 0x2, .u8, .rw, 255, .rangeOr 0 47 255, allOnes64⟩,
  ⟨0x2110, 0x211f, 0x3, 0x3, .u8, .rw, 255, .rangeOr 0 47 255, allOnes64⟩,
  ⟨0x2110, 0x211f, 0x4, 0x4, .u32, .ro, 1023, .any, allOnes64⟩,
  ⟨0x2110, 0x211f, 0x5, 0x5, .u32, .wo, 0, .any, 0x3ff⟩,
  ⟨0x2110, 0x211f, 0x6, 0x6, .u32, .wo, 0, .any, allOnes64⟩,
  ⟨0x2110, 0x211f, 0x7, 0x7, .u8, .ro, 16, .any, allOnes64⟩,
  ⟨0x2110, 0x211f, 0x8, 0x8, .u8, .ro, 0, .any, allOnes64⟩,
  ⟨0x2110, 0x211f, 0x9, 0x9, .u32, .rw, 0x186a0, .rangeOr 1000 100000000 0, allOnes64⟩,
  ⟨0x2110, 0x211f, 0xa, 0xa, .u32, .ro, 0, .any, allOnes64⟩,
  ⟨0x2110, 0x211f, 0xb, 0xb, .bits32, .ro, 0, .any, allOnes64⟩,
  ⟨0x2110, 0x211f, 0xc, 0xc, .u8, .ro, 255, .any, allOnes64⟩,
  ⟨0x2110, 0x211f, 0xd, 0xd, .u32, .ro, 0, .any, allOnes64⟩,
  ⟨0x2110, 0x211f, 0xe, 0xe, .u16, .ro, 1023, .any, allOnes64⟩,
  ⟨0x2110, 0x211f, 0x10, 0x17, .bits32, .w1c, 0, .any, allOnes64⟩,
  ⟨0x2110, 0x211f, 0x18, 0x1f, .bits32, .ro, 0, .any, allOnes64⟩,
  ⟨0x2110, 0x211f, 0x40, 0x47, .bits32, .rw, 0x44444444, .any, 0x7f7f7f7f⟩,
  ⟨0x2110, 0x211f, 0x48, 0x57, .bits32, .rw, 0x48484848, .any, 0x7f7f7f7f⟩,
  ⟨0x2110, 0x211f, 0x58, 0x7f, .bits32, .rw, 0x4C4C4C4C, .any, 0x7f7f7f7f⟩,
  ⟨0x2120, 0x212f, 0x1, 0x1, .bool, .staged, 0, .any, allOnes64⟩,
  ⟨0x2120, 0x212f, 0x11, 0x11, .bool, .staged, 0, .any, allOnes64⟩,
  ⟨0x2120, 0x212f, 0x21, 0x21, .bool, .staged, 0, .any, allOnes64⟩,
  ⟨0x2120, 0x212f, 0x31, 0x31, .bool, .staged, 0, .any, allOnes64⟩,
  ⟨0x2120, 0x212f, 0x2, 0x2, .u64, .staged, 0, .any, allOnes64⟩,
  ⟨0x2120, 0x212f, 0x12, 0x12, .u64, .staged, 0, .any, allOnes64⟩,
  ⟨0x2120, 0x212f, 0x22, 0x22, .u64, .staged, 0, .any, allOnes64⟩,
  ⟨0x2120, 0x212f, 0x32, 0x32, .u64, .staged, 0, .any, allOnes64⟩,
  ⟨0x2120, 0x212f, 0x3, 0x3, .u8, .staged, 6, .range 6 16, allOnes64⟩,
  ⟨0x2120, 0x212f, 0x13, 0x13, .u8, .staged, 6, .range 6 16, allOnes64⟩,
  ⟨0x2120, 0x212f, 0x23, 0x23, .u8, .staged, 6, .range 6 16, allOnes64⟩,
  ⟨0x2120, 0x212f, 0x33, 0x33, .u8, .staged, 6, .range 6 16, allOnes64⟩,
  ⟨0x2120, 0x212f, 0x4, 0x4, .u32, .ro, 0, .any, allOnes64⟩,
  ⟨0x2120, 0x212f, 0x14, 0x14, .u32, .ro, 0, .any, allOnes64⟩,
  ⟨0x2120, 0x212f, 0x24, 0x24, .u32, .ro, 0, .any, allOnes64⟩,
  ⟨0x2120, 0x212f, 0x34, 0x34, .u32, .ro, 0, .any, allOnes64⟩,
  ⟨0x2120, 0x212f, 0x5, 0x5, .u32, .rw, 0, .any, allOnes64⟩,
  ⟨0x2120, 0x212f, 0x15, 0x15, .u32, .rw, 0, .any, allOnes64⟩,
  ⟨0x2120, 0x212f, 0x25, 0x25, .u32, .rw, 0, .any, allOnes64⟩,
  ⟨0x2120, 0x212f, 0x35, 0x35, .u32, .rw, 0, .any, allOnes64⟩,
  ⟨0x2120, 0x212f, 0x6, 0x6, .u16, .rw, 8, .range 1 65535, allOnes64⟩,
  ⟨0x2120, 0x212f, 0x16, 0x16, .u16, .rw, 8, .range 1 65535, allOnes64⟩,
  ⟨0x2120, 0x212f, 0x26, 0x26, .u16, .rw, 8, .range 1 65535, allOnes64⟩,
  ⟨0x2120, 0x212f, 0x36, 0x36, .u16, .rw, 8, .range 1 65535, allOnes64⟩,
  ⟨0x2120, 0x212f, 0x7, 0x7, .u32, .rw, 2000, .range 0 10000000, allOnes64⟩,
  ⟨0x2120, 0x212f, 0x17, 0x17, .u32, .rw, 2000, .range 0 10000000, allOnes64⟩,
  ⟨0x2120, 0x212f, 0x27, 0x27, .u32, .rw, 2000, .range 0 10000000, allOnes64⟩,
  ⟨0x2120, 0x212f, 0x37, 0x37, .u32, .rw, 2000, .range 0 10000000, allOnes64⟩,
  ⟨0x2120, 0x212f, 0x8, 0x8, .u8, .rw, 1, .range 0 16, allOnes64⟩,
  ⟨0x2120, 0x212f, 0x18, 0x18, .u8, .rw, 1, .range 0 16, allOnes64⟩,
  ⟨0x2120, 0x212f, 0x28, 0x28, .u8, .rw, 1, .range 0 16, allOnes64⟩,
  ⟨0x2120, 0x212f, 0x38, 0x38, .u8, .rw, 1, .range 0 16, allOnes64⟩,
  ⟨0x2120, 0x212f, 0x9, 0x9, .u32, .ro, 0, .any, allOnes64⟩,
  ⟨0x2120, 0x212f, 0x19, 0x19, .u32, .ro, 0, .any, allOnes64⟩,
  ⟨0x2120, 0x212f, 0x29, 0x29, .u32, .ro, 0, .any, allOnes64⟩,
  ⟨0x2120, 0x212f, 0x39, 0x39, .u32, .ro, 0, .any, allOnes64⟩,
  ⟨0x2120, 0x212f, 0xa, 0xa, .u8, .ro, 0, .any, allOnes64⟩,
  ⟨0x2120, 0x212f, 0x1a, 0x1a, .u8, .ro, 0, .any, allOnes64⟩,
  ⟨0x2120, 0x212f, 0x2a, 0x2a, .u8, .ro, 0, .any, allOnes64⟩,
  ⟨0x2120, 0x212f, 0x3a, 0x3a, .u8, .ro, 0, .any, allOnes64⟩]

/-- The objects of block 0x2200. -/
def dict22 : List ORow := [
  ⟨0x2200, 0x2200, 0x1, 0x1, .u32, .rw, 200, .range 10 100000, allOnes64⟩,
  ⟨0x2201, 0x2201, 0x1, 0x30, .u8, .ro, 0, .any, allOnes64⟩,
  ⟨0x2202, 0x2202, 0x1, 0x30, .u32, .ro, 0, .any, allOnes64⟩,
  ⟨0x2203, 0x2203, 0x1, 0x30, .u32, .ro, 0, .any, allOnes64⟩,
  ⟨0x2204, 0x2204, 0x1, 0x30, .u32, .ro, 0, .any, allOnes64⟩,
  ⟨0x2205, 0x2205, 0x1, 0x30, .u32, .ro, 0, .any, allOnes64⟩,
  ⟨0x2206, 0x2206, 0x1, 0x30, .u32, .ro, 0, .any, allOnes64⟩,
  ⟨0x2207, 0x2207, 0x1, 0x30, .u32, .ro, 0, .any, allOnes64⟩,
  ⟨0x2208, 0x2208, 0x1, 0x30, .u32, .ro, 0, .any, allOnes64⟩,
  ⟨0x2209, 0x2209, 0x1, 0x30, .bool, .ro, 0, .any, allOnes64⟩,
  ⟨0x2210, 0x2210, 0x1, 0x20, .u8, .staged, bucketDefault, .range 0 31, allOnes64⟩,
  ⟨0x2210, 0x2210, 0x21, 0x40, .u8, .staged, bucketDefault, .range 0 31, allOnes64⟩,
  ⟨0x2211, 0x2211, 0x1, 0x1, .u16, .rw, 256, .range 0 4096, allOnes64⟩,
  ⟨0x2211, 0x2211, 0x2, 0x2, .u8, .rw, 4, .range 1 8, allOnes64⟩,
  ⟨0x2211, 0x2211, 0x3, 0x3, .u32, .rw, 10000, .range 100 1000000, allOnes64⟩,
  ⟨0x2212, 0x2212, 0x1, 0x20, .u8, .ro, 0, .any, allOnes64⟩,
  ⟨0x2213, 0x2213, 0x1, 0x20, .u8, .ro, 0, .any, allOnes64⟩,
  ⟨0x2214, 0x2214, 0x1, 0x20, .u32, .ro, 0, .any, allOnes64⟩,
  ⟨0x2215, 0x2215, 0x1, 0x20, .u32, .ro, 0, .any, allOnes64⟩,
  ⟨0x2216, 0x2216, 0x1, 0x20, .u32, .ro, 0, .any, allOnes64⟩,
  ⟨0x2217, 0x2217, 0x1, 0x20, .u32, .ro, 0, .any, allOnes64⟩,
  ⟨0x2218, 0x2218, 0x1, 0x30, .u16, .ro, 0, .any, allOnes64⟩,
  ⟨0x2219, 0x2219, 0x1, 0x30, .u32, .ro, 0, .any, allOnes64⟩,
  ⟨0x221a, 0x221a, 0x1, 0x30, .u32, .ro, 0, .any, allOnes64⟩,
  ⟨0x221b, 0x221b, 0x1, 0x30, .u32, .ro, 0, .any, allOnes64⟩,
  ⟨0x221c, 0x221c, 0x1, 0x30, .u32, .ro, 0, .any, allOnes64⟩,
  ⟨0x221d, 0x221d, 0x1, 0x30, .u8, .ro, 0, .any, allOnes64⟩,
  ⟨0x221e, 0x221e, 0x1, 0x1, .u32, .ro, 0, .any, allOnes64⟩,
  ⟨0x221e, 0x221e, 0x2, 0x2, .u32, .ro, 0, .any, allOnes64⟩,
  ⟨0x221f, 0x221f, 0x1, 0x1, .u32, .ro, 0, .any, allOnes64⟩,
  ⟨0x221f, 0x221f, 0x2, 0x2, .u32, .ro, 0, .any, allOnes64⟩]

/-- The objects of block 0x2300. -/
def dict23 : List ORow := [
  ⟨0x2300, 0x2300, 0x1, 0x1, .u8, .rw, 0, .range 0 3, allOnes64⟩,
  ⟨0x2300, 0x2300, 0x2, 0x2, .bool, .rw, 1, .any, allOnes64⟩,
  ⟨0x2300, 0x2300, 0x3, 0x3, .u8, .rw, 5, .range 0 7, allOnes64⟩,
  ⟨0x2300, 0x2300, 0x4, 0x4, .u8, .rw, 8, .range 1 255, allOnes64⟩,
  ⟨0x2300, 0x2300, 0x5, 0x5, .u32, .rw, 0x5f5e100, .range 1000000 4000000000, allOnes64⟩,
  ⟨0x2300, 0x2300, 0x6, 0x6, .u8, .ro, 0, .any, allOnes64⟩,
  ⟨0x2301, 0x2301, 0x1, 0x10, .u16, .staged, 65535, .any, allOnes64⟩,
  ⟨0x2302, 0x2302, 0x1, 0x10, .u16, .staged, 0, .any, 0xfff0⟩,
  ⟨0x2303, 0x2303, 0x1, 0x10, .u32, .ro, 0, .any, allOnes64⟩,
  ⟨0x2304, 0x2304, 0x1, 0x20, .bits32, .w1c, 0, .any, 0xffff⟩,
  ⟨0x2305, 0x2305, 0x1, 0x20, .u32, .ro, 0, .any, allOnes64⟩,
  ⟨0x2306, 0x2306, 0x1, 0x20, .u32, .ro, 0, .any, allOnes64⟩,
  ⟨0x2307, 0x2307, 0x1, 0x20, .u32, .ro, 0, .any, allOnes64⟩,
  ⟨0x2308, 0x2308, 0x1, 0x20, .u32, .ro, 0, .any, allOnes64⟩,
  ⟨0x2309, 0x2309, 0x1, 0x20, .u32, .ro, 0, .any, allOnes64⟩,
  ⟨0x230a, 0x230a, 0x1, 0x20, .u32, .ro, 0, .any, allOnes64⟩,
  ⟨0x230b, 0x230b, 0x1, 0x20, .u32, .ro, 0, .any, allOnes64⟩,
  ⟨0x230c, 0x230c, 0x1, 0x20, .u32, .ro, 0, .any, allOnes64⟩,
  ⟨0x230d, 0x230d, 0x1, 0x20, .u32, .ro, 0, .any, allOnes64⟩,
  ⟨0x2310, 0x2310, 0x1, 0x1, .u8, .rw, 0, .any, allOnes64⟩,
  ⟨0x2310, 0x2310, 0x2, 0x2, .u64, .rw, 0, .any, allOnes64⟩,
  ⟨0x2310, 0x2310, 0x3, 0x3, .u64, .rw, 0, .any, allOnes64⟩,
  ⟨0x2310, 0x2310, 0x4, 0x4, .u8, .rw, 0, .any, allOnes64⟩,
  ⟨0x2310, 0x2310, 0x5, 0x5, .bits32, .rw, 0, .any, 0x3⟩,
  ⟨0x2310, 0x2310, 0x6, 0x6, .bool, .wo, 0, .any, allOnes64⟩,
  ⟨0x2310, 0x2310, 0x7, 0x7, .bool, .ro, 0, .any, allOnes64⟩,
  ⟨0x2310, 0x2310, 0x8, 0x8, .bool, .wo, 0, .any, allOnes64⟩,
  ⟨0x2311, 0x2311, 0x1, 0x1, .u8, .ro, 0, .any, allOnes64⟩,
  ⟨0x2311, 0x2311, 0x2, 0x2, .u64, .ro, 0, .any, allOnes64⟩,
  ⟨0x2311, 0x2311, 0x3, 0x3, .u64, .ro, 0, .any, allOnes64⟩,
  ⟨0x2311, 0x2311, 0x4, 0x4, .u64, .ro, 0, .any, allOnes64⟩,
  ⟨0x2311, 0x2311, 0x5, 0x5, .u64, .ro, 0, .any, allOnes64⟩,
  ⟨0x2311, 0x2311, 0x6, 0x6, .u64, .ro, 0, .any, allOnes64⟩,
  ⟨0x2311, 0x2311, 0x7, 0x7, .u32, .ro, 0, .any, allOnes64⟩,
  ⟨0x2312, 0x2312, 0x1, 0x1, .u32, .ro, 0, .any, allOnes64⟩]

/-- The objects of block 0x2400. -/
def dict24 : List ORow := [
  ⟨0x2400, 0x2400, 0x1, 0x1, .bits32, .rw, 255, .any, 0xff⟩,
  ⟨0x2400, 0x2400, 0x2, 0x2, .u8, .rw, 0, .range 0 2, allOnes64⟩,
  ⟨0x2400, 0x2400, 0x3, 0x3, .u8, .rw, 0, .range 0 1, allOnes64⟩,
  ⟨0x2400, 0x2400, 0x4, 0x4, .u8, .rw, 16, .range 1 255, allOnes64⟩,
  ⟨0x2400, 0x2400, 0x5, 0x5, .u32, .rw, 0x36ee80, .range 1000 86400000, allOnes64⟩,
  ⟨0x2400, 0x2400, 0x6, 0x6, .u16, .rw, 500, .range 100 10000, allOnes64⟩,
  ⟨0x2400, 0x2400, 0x7, 0x7, .u32, .ro, 0, .any, allOnes64⟩,
  ⟨0x2401, 0x2401, 0x1, 0x8, .u8, .ro, 0, .any, allOnes64⟩,
  ⟨0x2402, 0x2402, 0x1, 0x8, .u8, .ro, 0, .any, allOnes64⟩,
  ⟨0x2403, 0x2403, 0x1, 0x8, .u8, .rw, 255, .rangeOr 0 19 255, allOnes64⟩,
  ⟨0x2404, 0x2404, 0x1, 0x8, .u8, .rw, 255, .rangeOr 0 19 255, allOnes64⟩,
  ⟨0x2405, 0x2405, 0x1, 0x8, .u32, .ro, 0, .any, allOnes64⟩,
  ⟨0x2406, 0x2406, 0x1, 0x8, .u32, .ro, 0, .any, allOnes64⟩,
  ⟨0x2407, 0x2407, 0x1, 0x8, .u32, .ro, 0, .any, allOnes64⟩,
  ⟨0x2408, 0x2408, 0x1, 0x8, .u32, .ro, 0, .any, allOnes64⟩,
  ⟨0x2409, 0x2409, 0x1, 0x8, .u32, .ro, 0, .any, allOnes64⟩,
  ⟨0x240a, 0x240a, 0x1, 0x8, .u32, .ro, 0, .any, allOnes64⟩,
  ⟨0x240b, 0x240b, 0x1, 0x8, .u16, .ro, 0, .any, allOnes64⟩,
  ⟨0x2410, 0x2417, 0x1, 0x14, .u32, .ro, 0, .any, allOnes64⟩,
  ⟨0x2418, 0x241f, 0x1, 0x14, .u8, .ro, 0, .any, allOnes64⟩,
  ⟨0x2420, 0x2427, 0x1, 0x14, .u8, .ro, 0, .any, allOnes64⟩,
  ⟨0x2428, 0x242f, 0x1, 0x14, .u8, .ro, 0, .any, allOnes64⟩,
  ⟨0x2480, 0x2480, 0x1, 0x1, .bool, .ro, 0, .any, allOnes64⟩,
  ⟨0x2480, 0x2480, 0x2, 0x2, .u8, .rw, 0, .any, allOnes64⟩,
  ⟨0x2480, 0x2480, 0x3, 0x3, .u8, .rw, 255, .any, allOnes64⟩,
  ⟨0x2480, 0x2480, 0x4, 0x4, .u32, .rw, 0, .any, allOnes64⟩,
  ⟨0x2480, 0x2480, 0x5, 0x5, .u32, .rw, 0xffffffff, .any, allOnes64⟩,
  ⟨0x2480, 0x2480, 0x6, 0x6, .bool, .wo, 0, .any, allOnes64⟩,
  ⟨0x2481, 0x2481, 0x1, 0x1, .u32, .rw, 0x1e8480, .rangeOr 10000 4000000000 0, allOnes64⟩,
  ⟨0x2481, 0x2481, 0x2, 0x2, .u32, .rw, 0xf4240, .rangeOr 10000 4000000000 0, allOnes64⟩,
  ⟨0x2481, 0x2481, 0x3, 0x3, .u32, .rw, 0xf4240, .rangeOr 10000 4000000000 0, allOnes64⟩,
  ⟨0x2481, 0x2481, 0x4, 0x4, .u32, .ro, 0, .any, allOnes64⟩,
  ⟨0x2481, 0x2481, 0x5, 0x5, .u32, .ro, 0, .any, allOnes64⟩,
  ⟨0x2481, 0x2481, 0x6, 0x6, .u32, .ro, 0, .any, allOnes64⟩,
  ⟨0x2482, 0x2482, 0x1, 0x1, .u8, .ro, 0, .any, allOnes64⟩,
  ⟨0x2482, 0x2482, 0x2, 0x2, .u32, .ro, 0, .any, allOnes64⟩,
  ⟨0x2482, 0x2482, 0x3, 0x3, .u32, .ro, 0, .any, allOnes64⟩,
  ⟨0x2482, 0x2482, 0x4, 0x4, .u32, .ro, 0, .any, allOnes64⟩,
  ⟨0x2482, 0x2482, 0x5, 0x5, .u32, .ro, 0, .any, allOnes64⟩,
  ⟨0x2482, 0x2482, 0x6, 0x6, .u64, .ro, 0, .any, allOnes64⟩,
  ⟨0x2482, 0x2482, 0x7, 0x7, .u32, .ro, 0, .any, allOnes64⟩,
  ⟨0x2483, 0x2483, 0x1, 0x8, .bits32, .ro, 0, .any, allOnes64⟩,
  ⟨0x2484, 0x2484, 0x1, 0x6, .u32, .ro, 0, .any, allOnes64⟩,
  ⟨0x2485, 0x2485, 0x1, 0x6, .u32, .ro, 0, .any, allOnes64⟩,
  ⟨0x2486, 0x2486, 0x1, 0x1, .u8, .ro, 0, .any, allOnes64⟩,
  ⟨0x2486, 0x2486, 0x2, 0x2, .u32, .ro, 0, .any, allOnes64⟩,
  ⟨0x2486, 0x2486, 0x3, 0x3, .u8, .rw, 24, .range 1 32, allOnes64⟩,
  ⟨0x2486, 0x2486, 0x4, 0x4, .bool, .wo, 0, .any, allOnes64⟩,
  ⟨0x2490, 0x24af, 0x1, 0x1, .bits32, .ro, 0, .any, allOnes64⟩,
  ⟨0x2490, 0x24af, 0x2, 0x2, .u32, .ro, 0, .any, allOnes64⟩,
  ⟨0x2490, 0x24af, 0x3, 0x3, .u32, .ro, 0, .any, allOnes64⟩,
  ⟨0x2490, 0x24af, 0x4, 0x4, .u64, .ro, 0, .any, allOnes64⟩,
  ⟨0x2490, 0x24af, 0x5, 0x5, .u64, .ro, 0, .any, allOnes64⟩]

/-- The objects of block 0x2500. -/
def dict25 : List ORow := [
  ⟨0x2500, 0x2500, 0x1, 0x1, .bits32, .rw, 255, .any, 0xff⟩,
  ⟨0x2500, 0x2500, 0x2, 0x2, .bits32, .rw, 0, .any, 0xf⟩,
  ⟨0x2500, 0x2500, 0x3, 0x3, .bits32, .ro, 0, .any, allOnes64⟩,
  ⟨0x2500, 0x2500, 0x4, 0x4, .u32, .rw, 0xf4240, .range 100000 100000000, allOnes64⟩,
  ⟨0x2501, 0x2501, 0x1, 0x8, .u8, .rw, 0, .range 0 1, allOnes64⟩,
  ⟨0x2502, 0x2502, 0x1, 0x8, .u8, .ro, 0, .any, allOnes64⟩,
  ⟨0x2503, 0x2503, 0x1, 0x8, .u16, .ro, 0, .any, allOnes64⟩,
  ⟨0x2504, 0x2504, 0x1, 0x8, .u16, .ro, 0, .any, allOnes64⟩,
  ⟨0x2505, 0x2505, 0x1, 0x8, .u32, .ro, 0, .any, allOnes64⟩,
  ⟨0x2506, 0x2506, 0x1, 0x8, .u32, .ro, 0, .any, allOnes64⟩,
  ⟨0x2507, 0x2507, 0x1, 0x8, .u32, .ro, 0, .any, allOnes64⟩,
  ⟨0x2508, 0x2508, 0x1, 0x8, .u32, .ro, 0, .any, allOnes64⟩,
  ⟨0x2509, 0x2509, 0x1, 0x8, .u32, .ro, 0, .any, allOnes64⟩,
  ⟨0x250a, 0x250a, 0x1, 0x8, .u32, .ro, 0, .any, allOnes64⟩,
  ⟨0x250b, 0x250b, 0x1, 0x8, .u32, .ro, 0, .any, allOnes64⟩,
  ⟨0x250c, 0x250c, 0x1, 0x8, .u32, .ro, 0, .any, allOnes64⟩,
  ⟨0x2510, 0x2510, 0x1, 0x20, .u64, .staged, 0, .range 0 1099511627775, allOnes64⟩,
  ⟨0x2511, 0x2511, 0x1, 0x20, .u8, .staged, 0, .rangeOr 12 40 0, allOnes64⟩,
  ⟨0x2512, 0x2512, 0x1, 0x20, .u8, .staged, 0, .range 0 7, allOnes64⟩,
  ⟨0x2520, 0x2520, 0x1, 0x1, .u32, .rw, 5000, .range 100 100000000, allOnes64⟩,
  ⟨0x2521, 0x2521, 0x1, 0x10, .bits32, .staged, 255, .any, 0xff⟩,
  ⟨0x2522, 0x2522, 0x1, 0x8, .u8, .ro, 255, .any, allOnes64⟩,
  ⟨0x2523, 0x2523, 0x1, 0x8, .u32, .ro, 0, .any, allOnes64⟩,
  ⟨0x2524, 0x2524, 0x1, 0x8, .u32, .ro, 0, .any, allOnes64⟩,
  ⟨0x2525, 0x2525, 0x1, 0x8, .u32, .ro, 0, .any, allOnes64⟩,
  ⟨0x2526, 0x2526, 0x1, 0x30, .bool, .w1c, 0, .any, allOnes64⟩]

/-- The objects of block 0x2600. -/
def dict26 : List ORow := [
  ⟨0x2600, 0x2600, 0x1, 0x40, .u8, .rw, 0, .range 0 5, allOnes64⟩,
  ⟨0x2601, 0x2601, 0x1, 0x40, .u16, .rw, 10, .any, allOnes64⟩,
  ⟨0x2602, 0x2602, 0x1, 0x40, .bits32, .rw, 0, .any, 0xffff⟩,
  ⟨0x2603, 0x2603, 0x1, 0x2, .bits32, .ro, 0, .any, allOnes64⟩,
  ⟨0x2604, 0x2604, 0x1, 0x40, .u32, .ro, 0, .any, allOnes64⟩]

/-- The objects of block 0x2700. -/
def dict27 : List ORow := [
  ⟨0x2700, 0x270b, 0x1, 0x1, .bool, .rw, 0, .any, allOnes64⟩,
  ⟨0x2700, 0x270b, 0x2, 0x2, .u8, .staged, 0, .range 0 15, allOnes64⟩,
  ⟨0x2700, 0x270b, 0x3, 0x3, .u8, .staged, 0, .range 0 1, allOnes64⟩,
  ⟨0x2700, 0x270b, 0x4, 0x4, .u8, .rw, 0, .range 0 1, allOnes64⟩,
  ⟨0x2700, 0x270b, 0x5, 0x5, .u32, .rw, 256, .mult 4 65532, allOnes64⟩,
  ⟨0x2700, 0x270b, 0x6, 0x6, .u16, .rw, 2048, .range 0 4096, allOnes64⟩,
  ⟨0x2700, 0x270b, 0x7, 0x7, .u32, .ro, 0, .any, allOnes64⟩,
  ⟨0x2700, 0x270b, 0x8, 0x8, .bits32, .ro, 0, .any, allOnes64⟩,
  ⟨0x2700, 0x270b, 0x9, 0x9, .bits32, .ro, 0, .any, allOnes64⟩,
  ⟨0x2700, 0x270b, 0xa, 0xa, .u64, .ro, 0, .any, allOnes64⟩,
  ⟨0x2700, 0x270b, 0xb, 0xb, .u8, .wo, 0, .range 1 4, allOnes64⟩,
  ⟨0x2700, 0x270b, 0xc, 0xc, .domain, .ro, 0, .any, allOnes64⟩,
  ⟨0x2700, 0x270b, 0xd, 0xd, .u16, .ro, 0, .any, allOnes64⟩,
  ⟨0x2700, 0x270b, 0xe, 0xe, .u8, .ro, 0, .any, allOnes64⟩,
  ⟨0x2700, 0x270b, 0x10, 0x10, .u64, .staged, 0, .any, allOnes64⟩,
  ⟨0x2700, 0x270b, 0x11, 0x11, .u8, .staged, 17, .range 17 24, allOnes64⟩,
  ⟨0x2700, 0x270b, 0x12, 0x12, .u64, .staged, 0, .any, allOnes64⟩,
  ⟨0x2700, 0x270b, 0x13, 0x13, .u8, .staged, 6, .range 6 16, allOnes64⟩,
  ⟨0x2700, 0x270b, 0x14, 0x14, .u64, .staged, 0, .mult 64 0xffffffffffffffc0, allOnes64⟩,
  ⟨0x2700, 0x270b, 0x15, 0x15, .u16, .rw, 1, .any, allOnes64⟩,
  ⟨0x2700, 0x270b, 0x16, 0x16, .u32, .ro, 0, .any, allOnes64⟩,
  ⟨0x2700, 0x270b, 0x17, 0x17, .u32, .ro, 0, .any, allOnes64⟩,
  ⟨0x2700, 0x270b, 0x18, 0x18, .u32, .ro, 0, .any, allOnes64⟩,
  ⟨0x2700, 0x270b, 0x19, 0x19, .u32, .ro, 0, .any, allOnes64⟩,
  ⟨0x2700, 0x270b, 0x20, 0x20, .u32, .ro, 0, .any, allOnes64⟩,
  ⟨0x2700, 0x270b, 0x21, 0x21, .u32, .ro, 0, .any, allOnes64⟩,
  ⟨0x2700, 0x270b, 0x22, 0x22, .u32, .ro, 0, .any, allOnes64⟩,
  ⟨0x2700, 0x270b, 0x23, 0x23, .u32, .ro, 0, .any, allOnes64⟩,
  ⟨0x2700, 0x270b, 0x24, 0x24, .u32, .ro, 0, .any, allOnes64⟩,
  ⟨0x2700, 0x270b, 0x25, 0x25, .u32, .ro, 0, .any, allOnes64⟩,
  ⟨0x2700, 0x270b, 0x26, 0x26, .u32, .ro, 0, .any, allOnes64⟩,
  ⟨0x2700, 0x270b, 0x27, 0x27, .u32, .ro, 0, .any, allOnes64⟩,
  ⟨0x2700, 0x270b, 0x28, 0x28, .u32, .ro, 0, .any, allOnes64⟩]

/-- The objects of block 0x2800. -/
def dict28 : List ORow := [
  ⟨0x2800, 0x2800, 0x1, 0x30, .u8, .ro, 0, .any, allOnes64⟩,
  ⟨0x2801, 0x2801, 0x1, 0x30, .bool, .wo, 0, .any, allOnes64⟩,
  ⟨0x2802, 0x2802, 0x1, 0x30, .u32, .ro, 0, .any, allOnes64⟩,
  ⟨0x2803, 0x2803, 0x1, 0x30, .u32, .ro, 0, .any, allOnes64⟩,
  ⟨0x2804, 0x2804, 0x1, 0x30, .u32, .ro, 0, .any, allOnes64⟩,
  ⟨0x2805, 0x2805, 0x1, 0x30, .bits32, .ro, 0, .any, allOnes64⟩,
  ⟨0x2806, 0x2806, 0x1, 0x30, .u64, .ro, 0, .any, allOnes64⟩,
  ⟨0x2807, 0x2807, 0x1, 0x30, .u32, .ro, 0, .any, allOnes64⟩,
  ⟨0x2808, 0x2808, 0x1, 0x30, .u32, .ro, 0, .any, allOnes64⟩,
  ⟨0x2809, 0x2809, 0x1, 0x30, .u32, .ro, 0, .any, allOnes64⟩,
  ⟨0x2810, 0x2810, 0x1, 0x1, .u32, .ro, 0, .any, allOnes64⟩,
  ⟨0x2810, 0x2810, 0x2, 0x2, .u32, .ro, 0, .any, allOnes64⟩,
  ⟨0x2811, 0x2811, 0x1, 0x1, .u8, .ro, 0, .any, allOnes64⟩,
  ⟨0x2811, 0x2811, 0x2, 0x2, .u32, .ro, 0, .any, allOnes64⟩,
  ⟨0x2811, 0x2811, 0x3, 0x3, .bool, .wo, 0, .any, allOnes64⟩,
  ⟨0x2820, 0x283f, 0x1, 0x1, .u64, .ro, 0, .any, allOnes64⟩,
  ⟨0x2820, 0x283f, 0x2, 0x2, .bits32, .ro, 0, .any, allOnes64⟩,
  ⟨0x2820, 0x283f, 0x3, 0x3, .u64, .ro, 0, .any, allOnes64⟩,
  ⟨0x2880, 0x2880, 0x1, 0x1, .u8, .ro, 0, .any, allOnes64⟩,
  ⟨0x2880, 0x2880, 0x2, 0x2, .u64, .ro, 0, .any, allOnes64⟩,
  ⟨0x2880, 0x2880, 0x3, 0x3, .u16, .ro, 65535, .any, allOnes64⟩,
  ⟨0x2880, 0x2880, 0x4, 0x4, .u32, .ro, 0, .any, allOnes64⟩,
  ⟨0x2880, 0x2880, 0x5, 0x5, .bool, .w1c, 0, .any, allOnes64⟩,
  ⟨0x2880, 0x2880, 0x6, 0x6, .u32, .ro, 0, .any, allOnes64⟩,
  ⟨0x2880, 0x2880, 0x7, 0x7, .u32, .rw, 0x186a0, .range 0 1000000, allOnes64⟩,
  ⟨0x2881, 0x2881, 0x1, 0x1, .u32, .rw, 0xf4240, .range 100000 100000000, allOnes64⟩,
  ⟨0x2882, 0x2882, 0x1, 0x1, .u8, .rw, 3, .range 0 15, allOnes64⟩,
  ⟨0x2882, 0x2882, 0x2, 0x2, .u32, .rw, 1000, .range 100 1000000, allOnes64⟩]

/-- The objects of block 0x2F00. -/
def dict2F : List ORow := [
  ⟨0x2f00, 0x2f00, 0x1, 0x1, .u8, .rw, 0, .range 0 5, allOnes64⟩,
  ⟨0x2f00, 0x2f00, 0x2, 0x2, .u8, .rw, 0, .any, allOnes64⟩,
  ⟨0x2f00, 0x2f00, 0x3, 0x3, .u32, .rw, 0, .any, allOnes64⟩,
  ⟨0x2f00, 0x2f00, 0x4, 0x4, .u8, .rw, 1, .range 1 3, allOnes64⟩,
  ⟨0x2f00, 0x2f00, 0x5, 0x5, .u32, .rw, 0, .any, allOnes64⟩,
  ⟨0x2f00, 0x2f00, 0x6, 0x6, .u8, .rw, 0, .range 0 127, allOnes64⟩,
  ⟨0x2f00, 0x2f00, 0x7, 0x7, .bool, .wo, 0, .any, allOnes64⟩,
  ⟨0x2f00, 0x2f00, 0x8, 0x8, .u8, .ro, 0, .any, allOnes64⟩,
  ⟨0x2f00, 0x2f00, 0x9, 0x9, .u8, .ro, 0, .any, allOnes64⟩,
  ⟨0x2f00, 0x2f00, 0xa, 0xa, .u8, .ro, 0, .any, allOnes64⟩,
  ⟨0x2f01, 0x2f01, 0x1, 0x5, .u32, .rw, 0, .any, allOnes64⟩,
  ⟨0x2f01, 0x2f01, 0x6, 0x6, .u32, .ro, 0, .any, allOnes64⟩]

/-- The rows of a block (17 R431). -/
def dictBlock (index : Nat) : List ORow :=
  match index / 256 with
  | 0x10 => dict10
  | 0x11 => dict11
  | 0x12 => dict12
  | 0x13 => dict13
  | 0x14 => dict14
  | 0x20 => dict20
  | 0x21 => dict21
  | 0x22 => dict22
  | 0x23 => dict23
  | 0x24 => dict24
  | 0x25 => dict25
  | 0x26 => dict26
  | 0x27 => dict27
  | 0x28 => dict28
  | 0x2F => dict2F
  | _ => []

/-- The row of an object other than SUB_COUNT. -/
def findRow (index sub : Nat) : Option ORow :=
  (dictBlock index).find? (fun r => r.i0 ≤ index && index ≤ r.i1 && r.s0 ≤ sub && sub ≤ r.s1)

/-- The highest subindex that an index defines; 0 when the index is not defined (17 R433). -/
def subCount (index : Nat) : Nat :=
  (dictBlock index).foldl (fun m r => if r.i0 ≤ index && index ≤ r.i1 then max m r.s1 else m) 0

/-- Is the index defined? -/
def indexDefined (index : Nat) : Bool := 0 < subCount index

/-- The dictionary's row of an object, SUB_COUNT at subindex 0 of every defined index included (17 R432, R433). -/
def lookupRow (index sub : Nat) : Option ORow :=
  if sub = 0 then
    if indexDefined index then some ⟨index, index, 0, 0, .u8, .const, subCount index, .any, allOnes64⟩ else none
  else findRow index sub

/-- The default of an object of a row. -/
def ORow.default (r : ORow) (sub : Nat) : Nat := if r.dflt = bucketDefault then (sub - 1) % 32 else r.dflt

/-- An object's number: index and subindex (17 R420). -/
def okey (index sub : Nat) : Nat := index * 256 + sub

/-- The default of an object by its number. -/
def defaultOf (k : Nat) : Nat :=
  match lookupRow (k / 256) (k % 256) with
  | some r => r.default (k % 256)
  | none => 0

/-- Every STAGED row, in ascending order of index and subindex. -/
def stagedRows : List ORow :=
  (dict10 ++ dict11 ++ dict12 ++ dict13 ++ dict14 ++ dict20 ++ dict21 ++ dict22 ++ dict23 ++ dict24 ++ dict25 ++ dict26 ++ dict27 ++ dict28 ++ dict2F).filter (fun r => r.acc == .staged)

/-! The numbers of the objects, by name. -/

/-- SB_DRAIN_AGE 0x2200:01. -/
def K.sbDrainAge : Nat := okey 0x2200 0x1
/-- SB_OCCUPANCY 0x2201:01–30. -/
def K.sbOccupancy (u : Nat) : Nat := okey 0x2201 (0x1 + u)
/-- SB_FORWARDS 0x2202:01–30. -/
def K.sbForwards (u : Nat) : Nat := okey 0x2202 (0x1 + u)
/-- SB_PARTIAL_WAITS 0x2203:01–30. -/
def K.sbPartialWaits (u : Nat) : Nat := okey 0x2203 (0x1 + u)
/-- SB_FULL_STALLS 0x2204:01–30. -/
def K.sbFullStalls (u : Nat) : Nat := okey 0x2204 (0x1 + u)
/-- SB_AGE_DRAINS 0x2205:01–30. -/
def K.sbAgeDrains (u : Nat) : Nat := okey 0x2205 (0x1 + u)
/-- BARRIERS_OK 0x2206:01–30. -/
def K.barriersOk (u : Nat) : Nat := okey 0x2206 (0x1 + u)
/-- SC_SUCCESS 0x2207:01–30. -/
def K.scSuccess (u : Nat) : Nat := okey 0x2207 (0x1 + u)
/-- SC_FAIL 0x2208:01–30. -/
def K.scFail (u : Nat) : Nat := okey 0x2208 (0x1 + u)
/-- FENCE_PENDING 0x2209:01–30. -/
def K.fencePending (u : Nat) : Nat := okey 0x2209 (0x1 + u)
/-- PORT_ENABLE 0x2000+n:01. -/
def K.portEnable (u : Nat) : Nat := okey (0x2000 + u) 0x1
/-- REACH 0x2000+n:02. -/
def K.reach (u : Nat) : Nat := okey (0x2000 + u) 0x2
/-- EVICT_OFFER_EN 0x2000+n:03. -/
def K.evictOfferEn (u : Nat) : Nat := okey (0x2000 + u) 0x3
/-- L1_GEOMETRY 0x2000+n:04. -/
def K.l1Geometry (u : Nat) : Nat := okey (0x2000 + u) 0x4
/-- PORT_STATE 0x2000+n:05. -/
def K.portState (u : Nat) : Nat := okey (0x2000 + u) 0x5
/-- SNOOP_LIMIT 0x2000+n:06. -/
def K.snoopLimit (u : Nat) : Nat := okey (0x2000 + u) 0x6
/-- WAKE_REQ 0x2000+n:07. -/
def K.wakeReq (u : Nat) : Nat := okey (0x2000 + u) 0x7
/-- EPOCH_NOW 0x2000+n:08. -/
def K.epochNow (u : Nat) : Nat := okey (0x2000 + u) 0x8
/-- AALIVE_GLITCHES 0x2000+n:09. -/
def K.aaliveGlitches (u : Nat) : Nat := okey (0x2000 + u) 0x9
/-- BRINGUP_FAILS 0x2000+n:0A. -/
def K.bringupFails (u : Nat) : Nat := okey (0x2000 + u) 0xa
/-- VERSION_REFUSALS 0x2000+n:0B. -/
def K.versionRefusals (u : Nat) : Nat := okey (0x2000 + u) 0xb
/-- UPWIRE_WAITS 0x2000+n:0C. -/
def K.upwireWaits (u : Nat) : Nat := okey (0x2000 + u) 0xc
/-- CODE_VIOLATIONS 0x2000+n:0D. -/
def K.codeViolations (u : Nat) : Nat := okey (0x2000 + u) 0xd
/-- CRC_FAILURES 0x2000+n:0E. -/
def K.crcFailures (u : Nat) : Nat := okey (0x2000 + u) 0xe
/-- FRAMING_ERRORS 0x2000+n:0F. -/
def K.framingErrors (u : Nat) : Nat := okey (0x2000 + u) 0xf
/-- RESYNCS_UP 0x2000+n:10. -/
def K.resyncsUp (u : Nat) : Nat := okey (0x2000 + u) 0x10
/-- RESYNCS_DOWN 0x2000+n:11. -/
def K.resyncsDown (u : Nat) : Nat := okey (0x2000 + u) 0x11
/-- LINK_FAILS 0x2000+n:12. -/
def K.linkFails (u : Nat) : Nat := okey (0x2000 + u) 0x12
/-- DECODE_ERRORS 0x2000+n:13. -/
def K.decodeErrors (u : Nat) : Nat := okey (0x2000 + u) 0x13
/-- RETRIES_SENT 0x2000+n:14. -/
def K.retriesSent (u : Nat) : Nat := okey (0x2000 + u) 0x14
/-- BUCKET_MAP 0x2210:01–40. -/
def K.bucketMap (u : Nat) : Nat := okey 0x2210 (0x1 + u)
/-- HOLD_WINDOW 0x2211:01. -/
def K.holdWindow : Nat := okey 0x2211 0x1
/-- LINE_QUEUE_DEPTH 0x2211:02. -/
def K.lineQueueDepth : Nat := okey 0x2211 0x2
/-- CREDIT_LIFETIME 0x2211:03. -/
def K.creditLifetime : Nat := okey 0x2211 0x3
/-- SLICE_STATE 0x2212:01–20. -/
def K.sliceState (u : Nat) : Nat := okey 0x2212 (0x1 + u)
/-- TRACKER_PEAK 0x2213:01–20. -/
def K.trackerPeak (u : Nat) : Nat := okey 0x2213 (0x1 + u)
/-- REFUSED_RESOURCE 0x2214:01–20. -/
def K.refusedResource (u : Nat) : Nat := okey 0x2214 (0x1 + u)
/-- REFUSED_CONFLICT 0x2215:01–20. -/
def K.refusedConflict (u : Nat) : Nat := okey 0x2215 (0x1 + u)
/-- CREDITS_ISSUED 0x2216:01–20. -/
def K.creditsIssued (u : Nat) : Nat := okey 0x2216 (0x1 + u)
/-- CREDITS_EXPIRED 0x2217:01–20. -/
def K.creditsExpired (u : Nat) : Nat := okey 0x2217 (0x1 + u)
/-- CAT_ENTRIES 0x2218:01–30. -/
def K.catEntries (u : Nat) : Nat := okey 0x2218 (0x1 + u)
/-- CAPACITY_RECALLS 0x2219:01–30. -/
def K.capacityRecalls (u : Nat) : Nat := okey 0x2219 (0x1 + u)
/-- STALE_SNOOPS 0x221A:01–30. -/
def K.staleSnoops (u : Nat) : Nat := okey 0x221a (0x1 + u)
/-- LINES_POISONED 0x221B:01–30. -/
def K.linesPoisoned (u : Nat) : Nat := okey 0x221b (0x1 + u)
/-- PROTOCOL_ERRORS 0x221C:01–30. -/
def K.protocolErrors (u : Nat) : Nat := okey 0x221c (0x1 + u)
/-- RECLAIM_STATE 0x221D:01–30. -/
def K.reclaimState (u : Nat) : Nat := okey 0x221d (0x1 + u)
/-- CAT_REBUILDS 0x221E:01. -/
def K.catRebuilds : Nat := okey 0x221e 0x1
/-- CAT_LOSSES 0x221E:02. -/
def K.catLosses : Nat := okey 0x221e 0x2
/-- SNOOP_IN_SERVED 0x221F:01. -/
def K.snoopInServed : Nat := okey 0x221f 0x1
/-- SNOOP_IN_DIRTY 0x221F:02. -/
def K.snoopInDirty : Nat := okey 0x221f 0x2
/-- L2_CAPACITY 0x2300:01. -/
def K.l2Capacity : Nat := okey 0x2300 0x1
/-- VICTIM_ALLOC 0x2300:02. -/
def K.victimAlloc : Nat := okey 0x2300 0x2
/-- OFFER_MIN_AGE 0x2300:03. -/
def K.offerMinAge : Nat := okey 0x2300 0x3
/-- WAY_ERR_THRESHOLD 0x2300:04. -/
def K.wayErrThreshold : Nat := okey 0x2300 0x4
/-- WAY_ERR_WINDOW 0x2300:05. -/
def K.wayErrWindow : Nat := okey 0x2300 0x5
/-- L2_CAPACITY_NOW 0x2300:06. -/
def K.l2CapacityNow : Nat := okey 0x2300 0x6
/-- WAY_ALLOC 0x2301:01–10. -/
def K.wayAlloc (u : Nat) : Nat := okey 0x2301 (0x1 + u)
/-- WAY_LOCK 0x2302:01–10. -/
def K.wayLock (u : Nat) : Nat := okey 0x2302 (0x1 + u)
/-- LOCKED_LINES 0x2303:01–10. -/
def K.lockedLines (u : Nat) : Nat := okey 0x2303 (0x1 + u)
/-- WAY_DISABLED 0x2304:01–20. -/
def K.wayDisabled (u : Nat) : Nat := okey 0x2304 (0x1 + u)
/-- HITS 0x2305:01–20. -/
def K.hits (u : Nat) : Nat := okey 0x2305 (0x1 + u)
/-- MISSES 0x2306:01–20. -/
def K.misses (u : Nat) : Nat := okey 0x2306 (0x1 + u)
/-- FILLS_SKIPPED 0x2307:01–20. -/
def K.fillsSkipped (u : Nat) : Nat := okey 0x2307 (0x1 + u)
/-- SET_BLOCK_WAITS 0x2308:01–20. -/
def K.setBlockWaits (u : Nat) : Nat := okey 0x2308 (0x1 + u)
/-- STREAM_UNUSED 0x2309:01–20. -/
def K.streamUnused (u : Nat) : Nat := okey 0x2309 (0x1 + u)
/-- OFFERS_TAKEN 0x230A:01–20. -/
def K.offersTaken (u : Nat) : Nat := okey 0x230a (0x1 + u)
/-- OFFERS_DECLINED 0x230B:01–20. -/
def K.offersDeclined (u : Nat) : Nat := okey 0x230b (0x1 + u)
/-- VICTIM_ALLOCS 0x230C:01–20. -/
def K.victimAllocs (u : Nat) : Nat := okey 0x230c (0x1 + u)
/-- REPAIRS 0x230D:01–20. -/
def K.repairs (u : Nat) : Nat := okey 0x230d (0x1 + u)
/-- MAINT_OP 0x2310:01. -/
def K.maintOp : Nat := okey 0x2310 0x1
/-- MAINT_BASE 0x2310:02. -/
def K.maintBase : Nat := okey 0x2310 0x2
/-- MAINT_LENGTH 0x2310:03. -/
def K.maintLength : Nat := okey 0x2310 0x3
/-- MAINT_PART 0x2310:04. -/
def K.maintPart : Nat := okey 0x2310 0x4
/-- MAINT_FLAGS 0x2310:05. -/
def K.maintFlags : Nat := okey 0x2310 0x5
/-- MAINT_START 0x2310:06. -/
def K.maintStart : Nat := okey 0x2310 0x6
/-- MAINT_BUSY 0x2310:07. -/
def K.maintBusy : Nat := okey 0x2310 0x7
/-- MAINT_ABORT 0x2310:08. -/
def K.maintAbort : Nat := okey 0x2310 0x8
/-- MAINT_STATUS 0x2311:01. -/
def K.maintStatus : Nat := okey 0x2311 0x1
/-- LINES_VISITED 0x2311:02. -/
def K.linesVisited : Nat := okey 0x2311 0x2
/-- LINES_AFFECTED 0x2311:03. -/
def K.linesAffected : Nat := okey 0x2311 0x3
/-- DIRTY_WRITTEN 0x2311:04. -/
def K.dirtyWritten : Nat := okey 0x2311 0x4
/-- LINES_SKIPPED 0x2311:05. -/
def K.linesSkipped : Nat := okey 0x2311 0x5
/-- MAINT_ELAPSED 0x2311:06. -/
def K.maintElapsed : Nat := okey 0x2311 0x6
/-- MAINT_SEQ 0x2311:07. -/
def K.maintSeq : Nat := okey 0x2311 0x7
/-- RESET_INVAL_TIME 0x2312:01. -/
def K.resetInvalTime : Nat := okey 0x2312 0x1
/-- DC_ENABLE 0x2400:01. -/
def K.dcEnable : Nat := okey 0x2400 0x1
/-- DC_RATE 0x2400:02. -/
def K.dcRate : Nat := okey 0x2400 0x2
/-- DC_DENSITY 0x2400:03. -/
def K.dcDensity : Nat := okey 0x2400 0x3
/-- MARK_THRESHOLD 0x2400:04. -/
def K.markThreshold : Nat := okey 0x2400 0x4
/-- MARK_WINDOW 0x2400:05. -/
def K.markWindow : Nat := okey 0x2400 0x5
/-- MERGE_TIMEOUT 0x2400:06. -/
def K.mergeTimeout : Nat := okey 0x2400 0x6
/-- DC_CLOCK_HZ 0x2400:07. -/
def K.dcClockHz : Nat := okey 0x2400 0x7
/-- DC_STATE 0x2401:01–08. -/
def K.dcState (u : Nat) : Nat := okey 0x2401 (0x1 + u)
/-- DC_READ_LATENCY 0x2402:01–08. -/
def K.dcReadLatency (u : Nat) : Nat := okey 0x2402 (0x1 + u)
/-- DC_MARK_A 0x2403:01–08. -/
def K.dcMarkA (u : Nat) : Nat := okey 0x2403 (0x1 + u)
/-- DC_MARK_B 0x2404:01–08. -/
def K.dcMarkB (u : Nat) : Nat := okey 0x2404 (0x1 + u)
/-- LINES_CORRECTED 0x2405:01–08. -/
def K.linesCorrected (u : Nat) : Nat := okey 0x2405 (0x1 + u)
/-- LINES_UNCORRECTABLE 0x2406:01–08. -/
def K.linesUncorrectable (u : Nat) : Nat := okey 0x2406 (0x1 + u)
/-- MERGE_RMW 0x2407:01–08. -/
def K.mergeRmw (u : Nat) : Nat := okey 0x2407 (0x1 + u)
/-- MERGE_FORCED 0x2408:01–08. -/
def K.mergeForced (u : Nat) : Nat := okey 0x2408 (0x1 + u)
/-- CAL_RUNS 0x2409:01–08. -/
def K.calRuns (u : Nat) : Nat := okey 0x2409 (0x1 + u)
/-- CAL_STALL 0x240A:01–08. -/
def K.calStall (u : Nat) : Nat := okey 0x240a (0x1 + u)
/-- CAL_LONGEST 0x240B:01–08. -/
def K.calLongest (u : Nat) : Nat := okey 0x240b (0x1 + u)
/-- CHIP_CORRECTIONS 0x2410–0x2417:01–14. -/
def K.chipCorrections (u k : Nat) : Nat := okey (0x2410 + u) (0x1 + k)
/-- CHIP_READ_DELAY 0x2418–0x241F:01–14. -/
def K.chipReadDelay (u k : Nat) : Nat := okey (0x2418 + u) (0x1 + k)
/-- CHIP_WRITE_DELAY 0x2420–0x2427:01–14. -/
def K.chipWriteDelay (u k : Nat) : Nat := okey (0x2420 + u) (0x1 + k)
/-- CHIP_EYE 0x2428–0x242F:01–14. -/
def K.chipEye (u k : Nat) : Nat := okey (0x2428 + u) (0x1 + k)
/-- CONS_BUSY 0x2480:01. -/
def K.consBusy : Nat := okey 0x2480 0x1
/-- SCRUB_TARGET 0x2480:02. -/
def K.scrubTarget : Nat := okey 0x2480 0x2
/-- SCRUB_UNIT 0x2480:03. -/
def K.scrubUnit : Nat := okey 0x2480 0x3
/-- SCRUB_FIRST 0x2480:04. -/
def K.scrubFirst : Nat := okey 0x2480 0x4
/-- SCRUB_LAST 0x2480:05. -/
def K.scrubLast : Nat := okey 0x2480 0x5
/-- SCRUB_START 0x2480:06. -/
def K.scrubStart : Nat := okey 0x2480 0x6
/-- PATROL_DC_INTERVAL 0x2481:01. -/
def K.patrolDcInterval : Nat := okey 0x2481 0x1
/-- PATROL_TAG_INTERVAL 0x2481:02. -/
def K.patrolTagInterval : Nat := okey 0x2481 0x2
/-- PATROL_CAT_INTERVAL 0x2481:03. -/
def K.patrolCatInterval : Nat := okey 0x2481 0x3
/-- PATROL_PASSES_DC 0x2481:04. -/
def K.patrolPassesDc : Nat := okey 0x2481 0x4
/-- PATROL_PASSES_TAG 0x2481:05. -/
def K.patrolPassesTag : Nat := okey 0x2481 0x5
/-- PATROL_PASSES_CAT 0x2481:06. -/
def K.patrolPassesCat : Nat := okey 0x2481 0x6
/-- SCRUB_STATUS 0x2482:01. -/
def K.scrubStatus : Nat := okey 0x2482 0x1
/-- ROWS_VISITED 0x2482:02. -/
def K.rowsVisited : Nat := okey 0x2482 0x2
/-- SCRUB_CE 0x2482:03. -/
def K.scrubCe : Nat := okey 0x2482 0x3
/-- SCRUB_UE_REPAIRED 0x2482:04. -/
def K.scrubUeRepaired : Nat := okey 0x2482 0x4
/-- SCRUB_UE_UNREPAIRED 0x2482:05. -/
def K.scrubUeUnrepaired : Nat := okey 0x2482 0x5
/-- SCRUB_ELAPSED 0x2482:06. -/
def K.scrubElapsed : Nat := okey 0x2482 0x6
/-- SCRUB_SEQ 0x2482:07. -/
def K.scrubSeq : Nat := okey 0x2482 0x7
/-- CHIPS_IMPLICATED 0x2483:01–08. -/
def K.chipsImplicated (u : Nat) : Nat := okey 0x2483 (0x1 + u)
/-- ARRAY_CE 0x2484:01–06. -/
def K.arrayCe (u : Nat) : Nat := okey 0x2484 (0x1 + u)
/-- ARRAY_UE 0x2485:01–06. -/
def K.arrayUe (u : Nat) : Nat := okey 0x2485 (0x1 + u)
/-- CE_LOG_USED 0x2486:01. -/
def K.ceLogUsed : Nat := okey 0x2486 0x1
/-- CE_UNLOGGED 0x2486:02. -/
def K.ceUnlogged : Nat := okey 0x2486 0x2
/-- CE_LOG_THRESHOLD 0x2486:03. -/
def K.ceLogThreshold : Nat := okey 0x2486 0x3
/-- CE_LOG_CLEAR 0x2486:04. -/
def K.ceLogClear : Nat := okey 0x2486 0x4
/-- DIAG_ARRAY 0x2F00:01. -/
def K.diagArray : Nat := okey 0x2f00 0x1
/-- DIAG_UNIT 0x2F00:02. -/
def K.diagUnit : Nat := okey 0x2f00 0x2
/-- DIAG_ADDR 0x2F00:03. -/
def K.diagAddr : Nat := okey 0x2f00 0x3
/-- DIAG_OP 0x2F00:04. -/
def K.diagOp : Nat := okey 0x2f00 0x4
/-- DIAG_DATA 0x2F00:05. -/
def K.diagData : Nat := okey 0x2f00 0x5
/-- DIAG_CHECK 0x2F00:06. -/
def K.diagCheck : Nat := okey 0x2f00 0x6
/-- DIAG_GO 0x2F00:07. -/
def K.diagGo : Nat := okey 0x2f00 0x7
/-- DIAG_RESULT 0x2F00:08. -/
def K.diagResult : Nat := okey 0x2f00 0x8
/-- DIAG_SYNDROME 0x2F00:09. -/
def K.diagSyndrome : Nat := okey 0x2f00 0x9
/-- DIAG_BIT 0x2F00:0A. -/
def K.diagBit : Nat := okey 0x2f00 0xa
/-- DIAG_BEAT 0x2F01:01–05. -/
def K.diagBeat (u : Nat) : Nat := okey 0x2f01 (0x1 + u)
/-- DIAG_RS_SYNDROME 0x2F01:06. -/
def K.diagRsSyndrome : Nat := okey 0x2f01 0x6
/-- ML_ENABLE 0x2500:01. -/
def K.mlEnable : Nat := okey 0x2500 0x1
/-- ML_DUAL 0x2500:02. -/
def K.mlDual : Nat := okey 0x2500 0x2
/-- ML_INTERLEAVE_NOW 0x2500:03. -/
def K.mlInterleaveNow : Nat := okey 0x2500 0x3
/-- ML_DOWN_LIMIT 0x2500:04. -/
def K.mlDownLimit : Nat := okey 0x2500 0x4
/-- ML_REACH 0x2501:01–08. -/
def K.mlReach (u : Nat) : Nat := okey 0x2501 (0x1 + u)
/-- ML_STATE 0x2502:01–08. -/
def K.mlState (u : Nat) : Nat := okey 0x2502 (0x1 + u)
/-- ML_TAGS 0x2503:01–08. -/
def K.mlTags (u : Nat) : Nat := okey 0x2503 (0x1 + u)
/-- ML_TAGS_PEAK 0x2504:01–08. -/
def K.mlTagsPeak (u : Nat) : Nat := okey 0x2504 (0x1 + u)
/-- ML_CODE_VIOLATIONS 0x2505:01–08. -/
def K.mlCodeViolations (u : Nat) : Nat := okey 0x2505 (0x1 + u)
/-- ML_CRC_FAILURES 0x2506:01–08. -/
def K.mlCrcFailures (u : Nat) : Nat := okey 0x2506 (0x1 + u)
/-- ML_FRAMING_ERRORS 0x2507:01–08. -/
def K.mlFramingErrors (u : Nat) : Nat := okey 0x2507 (0x1 + u)
/-- ML_RESYNCS 0x2508:01–08. -/
def K.mlResyncs (u : Nat) : Nat := okey 0x2508 (0x1 + u)
/-- ML_LINK_FAILS 0x2509:01–08. -/
def K.mlLinkFails (u : Nat) : Nat := okey 0x2509 (0x1 + u)
/-- ML_REISSUED 0x250A:01–08. -/
def K.mlReissued (u : Nat) : Nat := okey 0x250a (0x1 + u)
/-- ML_ERR_ANSWERS 0x250B:01–08. -/
def K.mlErrAnswers (u : Nat) : Nat := okey 0x250b (0x1 + u)
/-- ML_DOWN_EXPIRIES 0x250C:01–08. -/
def K.mlDownExpiries (u : Nat) : Nat := okey 0x250c (0x1 + u)
/-- DR_BASE 0x2510:01–20. -/
def K.drBase (u : Nat) : Nat := okey 0x2510 (0x1 + u)
/-- DR_SIZE 0x2511:01–20. -/
def K.drSize (u : Nat) : Nat := okey 0x2511 (0x1 + u)
/-- DR_LINK 0x2512:01–20. -/
def K.drLink (u : Nat) : Nat := okey 0x2512 (0x1 + u)
/-- LOAN_LIMIT 0x2520:01. -/
def K.loanLimit : Nat := okey 0x2520 0x1
/-- LOAN_LINKS 0x2521:01–10. -/
def K.loanLinks (u : Nat) : Nat := okey 0x2521 (0x1 + u)
/-- LOAN_OWNER 0x2522:01–08. -/
def K.loanOwner (u : Nat) : Nat := okey 0x2522 (0x1 + u)
/-- LOANS_GRANTED 0x2523:01–08. -/
def K.loansGranted (u : Nat) : Nat := okey 0x2523 (0x1 + u)
/-- LOANS_BROKEN 0x2524:01–08. -/
def K.loansBroken (u : Nat) : Nat := okey 0x2524 (0x1 + u)
/-- LOAN_LONGEST 0x2525:01–08. -/
def K.loanLongest (u : Nat) : Nat := okey 0x2525 (0x1 + u)
/-- LOAN_FLAG 0x2526:01–30. -/
def K.loanFlag (u : Nat) : Nat := okey 0x2526 (0x1 + u)
/-- MEMBERS 0x2100+p:01. -/
def K.members (u : Nat) : Nat := okey (0x2100 + u) 0x1
/-- TT_MODE 0x2100+p:02. -/
def K.ttMode (u : Nat) : Nat := okey (0x2100 + u) 0x2
/-- TT_BASE 0x2100+p:03. -/
def K.ttBase (u : Nat) : Nat := okey (0x2100 + u) 0x3
/-- FLAT_BASE 0x2100+p:04. -/
def K.flatBase (u : Nat) : Nat := okey (0x2100 + u) 0x4
/-- MT_DEFAULT 0x2100+p:05. -/
def K.mtDefault (u : Nat) : Nat := okey (0x2100 + u) 0x5
/-- TC_INVAL 0x2100+p:06. -/
def K.tcInval (u : Nat) : Nat := okey (0x2100 + u) 0x6
/-- TC_INVAL_BUSY 0x2100+p:07. -/
def K.tcInvalBusy (u : Nat) : Nat := okey (0x2100 + u) 0x7
/-- PART_RESET 0x2100+p:08. -/
def K.partReset (u : Nat) : Nat := okey (0x2100 + u) 0x8
/-- RESET_STATE 0x2100+p:09. -/
def K.resetState (u : Nat) : Nat := okey (0x2100 + u) 0x9
/-- RESETS_DONE 0x2100+p:0A. -/
def K.resetsDone (u : Nat) : Nat := okey (0x2100 + u) 0xa
/-- FAULT_COUNT 0x2100+p:0B. -/
def K.faultCount (u : Nat) : Nat := okey (0x2100 + u) 0xb
/-- FAULT_PA 0x2100+p:0C. -/
def K.faultPa (u : Nat) : Nat := okey (0x2100 + u) 0xc
/-- FAULT_INFO 0x2100+p:0D. -/
def K.faultInfo (u : Nat) : Nat := okey (0x2100 + u) 0xd
/-- TC_MISSES 0x2100+p:0E. -/
def K.tcMisses (u : Nat) : Nat := okey (0x2100 + u) 0xe
/-- LINES_RECALLED 0x2100+p:0F. -/
def K.linesRecalled (u : Nat) : Nat := okey (0x2100 + u) 0xf
/-- SUPERVISOR 0x2100+p:11. -/
def K.supervisor (u : Nat) : Nat := okey (0x2100 + u) 0x11
/-- QOS_CLASS 0x2130+p:01. -/
def K.qosClass (u : Nat) : Nat := okey (0x2130 + u) 0x1
/-- QOS_WEIGHT 0x2130+p:02. -/
def K.qosWeight (u : Nat) : Nat := okey (0x2130 + u) 0x2
/-- SLICE_SHARE 0x2130+p:03. -/
def K.sliceShare (u : Nat) : Nat := okey (0x2130 + u) 0x3
/-- SLICE_CAP 0x2130+p:04. -/
def K.sliceCap (u : Nat) : Nat := okey (0x2130 + u) 0x4
/-- ARCH_SHARE 0x2130+p:05. -/
def K.archShare (u : Nat) : Nat := okey (0x2130 + u) 0x5
/-- ARCH_CAP 0x2130+p:06. -/
def K.archCap (u : Nat) : Nat := okey (0x2130 + u) 0x6
/-- DC_SHARE 0x2130+p:07. -/
def K.dcShare (u : Nat) : Nat := okey (0x2130 + u) 0x7
/-- DC_CAP 0x2130+p:08. -/
def K.dcCap (u : Nat) : Nat := okey (0x2130 + u) 0x8
/-- THROTTLED 0x2130+p:09. -/
def K.throttled (u : Nat) : Nat := okey (0x2130 + u) 0x9
/-- REFUSED_QOS 0x2130+p:0A. -/
def K.refusedQos (u : Nat) : Nat := okey (0x2130 + u) 0xa
/-- REFUSED_RESOURCE 0x2130+p:0B. -/
def K.qosRefusedResource (u : Nat) : Nat := okey (0x2130 + u) 0xb
/-- REFUSED_CONFLICT 0x2130+p:0C. -/
def K.qosRefusedConflict (u : Nat) : Nat := okey (0x2130 + u) 0xc
/-- MODE 0x2110+p:01. -/
def K.intMode (u : Nat) : Nat := okey (0x2110 + u) 0x1
/-- DELIVERY_PORT 0x2110+p:02. -/
def K.deliveryPort (u : Nat) : Nat := okey (0x2110 + u) 0x2
/-- FALLBACK_PORT 0x2110+p:03. -/
def K.fallbackPort (u : Nat) : Nat := okey (0x2110 + u) 0x3
/-- CLAIM 0x2110+p:04. -/
def K.claim (u : Nat) : Nat := okey (0x2110 + u) 0x4
/-- EOI 0x2110+p:05. -/
def K.eoi (u : Nat) : Nat := okey (0x2110 + u) 0x5
/-- DOORBELL 0x2110+p:06. -/
def K.doorbell (u : Nat) : Nat := okey (0x2110 + u) 0x6
/-- RUNNING_PRI 0x2110+p:07. -/
def K.runningPri (u : Nat) : Nat := okey (0x2110 + u) 0x7
/-- STACK_DEPTH 0x2110+p:08. -/
def K.stackDepth (u : Nat) : Nat := okey (0x2110 + u) 0x8
/-- ALLWAIT_GRACE 0x2110+p:09. -/
def K.allwaitGrace (u : Nat) : Nat := okey (0x2110 + u) 0x9
/-- EOI_MISMATCHES 0x2110+p:0A. -/
def K.eoiMismatches (u : Nat) : Nat := okey (0x2110 + u) 0xa
/-- EOI_LAST_BAD 0x2110+p:0B. -/
def K.eoiLastBad (u : Nat) : Nat := okey (0x2110 + u) 0xb
/-- IRQ_PORT 0x2110+p:0C. -/
def K.irqPort (u : Nat) : Nat := okey (0x2110 + u) 0xc
/-- CLAIMS 0x2110+p:0D. -/
def K.claims (u : Nat) : Nat := okey (0x2110 + u) 0xd
/-- STACK_TOP 0x2110+p:0E. -/
def K.stackTop (u : Nat) : Nat := okey (0x2110 + u) 0xe
/-- PENDING 0x2110+p:10–17. -/
def K.pending (p k : Nat) : Nat := okey (0x2110 + p) (0x10 + k)
/-- ACTIVE 0x2110+p:18–1F. -/
def K.active (p k : Nat) : Nat := okey (0x2110 + p) (0x18 + k)
/-- INTID_CFG 0x2110+p:40–7F. -/
def K.intidCfg (p k : Nat) : Nat := okey (0x2110 + p) (0x40 + k)
/-- LEDGER_ENABLE 0x2120+p:L1. -/
def K.ledgerEnable (p l : Nat) : Nat := okey (0x2120 + p) (0x10 * l + 0x1)
/-- LEDGER_BASE 0x2120+p:L2. -/
def K.ledgerBase (p l : Nat) : Nat := okey (0x2120 + p) (0x10 * l + 0x2)
/-- LEDGER_SIZE_LOG2 0x2120+p:L3. -/
def K.ledgerSizeLog2 (p l : Nat) : Nat := okey (0x2120 + p) (0x10 * l + 0x3)
/-- LEDGER_HEAD 0x2120+p:L4. -/
def K.ledgerHead (p l : Nat) : Nat := okey (0x2120 + p) (0x10 * l + 0x4)
/-- LEDGER_TAIL 0x2120+p:L5. -/
def K.ledgerTail (p l : Nat) : Nat := okey (0x2120 + p) (0x10 * l + 0x5)
/-- MOD_COUNT 0x2120+p:L6. -/
def K.modCount (p l : Nat) : Nat := okey (0x2120 + p) (0x10 * l + 0x6)
/-- MOD_TIME 0x2120+p:L7. -/
def K.modTime (p l : Nat) : Nat := okey (0x2120 + p) (0x10 * l + 0x7)
/-- MOD_BYPASS_PRI 0x2120+p:L8. -/
def K.modBypassPri (p l : Nat) : Nat := okey (0x2120 + p) (0x10 * l + 0x8)
/-- LEDGER_DROPPED 0x2120+p:L9. -/
def K.ledgerDropped (p l : Nat) : Nat := okey (0x2120 + p) (0x10 * l + 0x9)
/-- LEDGER_STATE 0x2120+p:LA. -/
def K.ledgerState (p l : Nat) : Nat := okey (0x2120 + p) (0x10 * l + 0xa)
/-- EVIN_MODE 0x2600:01–40. -/
def K.evinMode (u : Nat) : Nat := okey 0x2600 (0x1 + u)
/-- EVIN_FILTER 0x2601:01–40. -/
def K.evinFilter (u : Nat) : Nat := okey 0x2601 (0x1 + u)
/-- EVIN_ROUTE 0x2602:01–40. -/
def K.evinRoute (u : Nat) : Nat := okey 0x2602 (0x1 + u)
/-- EVIN_LEVEL 0x2603:01–02. -/
def K.evinLevel (u : Nat) : Nat := okey 0x2603 (0x1 + u)
/-- EVIN_COUNT 0x2604:01–40. -/
def K.evinCount (u : Nat) : Nat := okey 0x2604 (0x1 + u)
/-- ACC_ENABLE 0x2700+c:01. -/
def K.accEnable (u : Nat) : Nat := okey (0x2700 + u) 0x1
/-- ACC_OWNER 0x2700+c:02. -/
def K.accOwner (u : Nat) : Nat := okey (0x2700 + u) 0x2
/-- ACC_MODE 0x2700+c:03. -/
def K.accMode (u : Nat) : Nat := okey (0x2700 + u) 0x3
/-- FULL_POLICY 0x2700+c:04. -/
def K.fullPolicy (u : Nat) : Nat := okey (0x2700 + u) 0x4
/-- CUT_THROUGH 0x2700+c:05. -/
def K.cutThrough (u : Nat) : Nat := okey (0x2700 + u) 0x5
/-- THRESH_WORDS 0x2700+c:06. -/
def K.threshWords (u : Nat) : Nat := okey (0x2700 + u) 0x6
/-- ACC_DATA 0x2700+c:07. -/
def K.accData (u : Nat) : Nat := okey (0x2700 + u) 0x7
/-- ACC_WSTAT 0x2700+c:08. -/
def K.accWstat (u : Nat) : Nat := okey (0x2700 + u) 0x8
/-- ACC_PKT_INFO 0x2700+c:09. -/
def K.accPktInfo (u : Nat) : Nat := okey (0x2700 + u) 0x9
/-- ACC_PKT_TIME 0x2700+c:0A. -/
def K.accPktTime (u : Nat) : Nat := okey (0x2700 + u) 0xa
/-- ACC_CMD 0x2700+c:0B. -/
def K.accCmd (u : Nat) : Nat := okey (0x2700 + u) 0xb
/-- ACC_BLOCK 0x2700+c:0C. -/
def K.accBlock (u : Nat) : Nat := okey (0x2700 + u) 0xc
/-- ACC_LEVEL 0x2700+c:0D. -/
def K.accLevel (u : Nat) : Nat := okey (0x2700 + u) 0xd
/-- ACC_STATE 0x2700+c:0E. -/
def K.accState (u : Nat) : Nat := okey (0x2700 + u) 0xe
/-- DRAIN_DATA_BASE 0x2700+c:10. -/
def K.drainDataBase (u : Nat) : Nat := okey (0x2700 + u) 0x10
/-- DRAIN_DATA_SIZE_LOG2 0x2700+c:11. -/
def K.drainDataSizeLog2 (u : Nat) : Nat := okey (0x2700 + u) 0x11
/-- DRAIN_DESC_BASE 0x2700+c:12. -/
def K.drainDescBase (u : Nat) : Nat := okey (0x2700 + u) 0x12
/-- DRAIN_DESC_SIZE_LOG2 0x2700+c:13. -/
def K.drainDescSizeLog2 (u : Nat) : Nat := okey (0x2700 + u) 0x13
/-- DRAIN_CTRL_BASE 0x2700+c:14. -/
def K.drainCtrlBase (u : Nat) : Nat := okey (0x2700 + u) 0x14
/-- THRESH_DESC 0x2700+c:15. -/
def K.threshDesc (u : Nat) : Nat := okey (0x2700 + u) 0x15
/-- DATA_HEAD 0x2700+c:16. -/
def K.dataHead (u : Nat) : Nat := okey (0x2700 + u) 0x16
/-- DESC_HEAD 0x2700+c:17. -/
def K.descHead (u : Nat) : Nat := okey (0x2700 + u) 0x17
/-- DATA_TAIL_SEEN 0x2700+c:18. -/
def K.dataTailSeen (u : Nat) : Nat := okey (0x2700 + u) 0x18
/-- DESC_TAIL_SEEN 0x2700+c:19. -/
def K.descTailSeen (u : Nat) : Nat := okey (0x2700 + u) 0x19
/-- PACKETS 0x2700+c:20. -/
def K.packets (u : Nat) : Nat := okey (0x2700 + u) 0x20
/-- STALLS 0x2700+c:21. -/
def K.stalls (u : Nat) : Nat := okey (0x2700 + u) 0x21
/-- PACKETS_TRUNCATED 0x2700+c:22. -/
def K.packetsTruncated (u : Nat) : Nat := okey (0x2700 + u) 0x22
/-- PACKETS_DROPPED 0x2700+c:23. -/
def K.packetsDropped (u : Nat) : Nat := okey (0x2700 + u) 0x23
/-- BYTES_DROPPED 0x2700+c:24. -/
def K.bytesDropped (u : Nat) : Nat := okey (0x2700 + u) 0x24
/-- STRAY_BYTES 0x2700+c:25. -/
def K.strayBytes (u : Nat) : Nat := okey (0x2700 + u) 0x25
/-- FLUSHES 0x2700+c:26. -/
def K.flushes (u : Nat) : Nat := okey (0x2700 + u) 0x26
/-- CTRL_ERRORS 0x2700+c:27. -/
def K.ctrlErrors (u : Nat) : Nat := okey (0x2700 + u) 0x27
/-- RING_WRITE_ERRORS 0x2700+c:28. -/
def K.ringWriteErrors (u : Nat) : Nat := okey (0x2700 + u) 0x28
/-- PORT_FENCE_STATE 0x2800:01–30. -/
def K.portFenceState (u : Nat) : Nat := okey 0x2800 (0x1 + u)
/-- HELD_ACK 0x2801:01–30. -/
def K.heldAck (u : Nat) : Nat := okey 0x2801 (0x1 + u)
/-- LOSSES 0x2802:01–30. -/
def K.losses (u : Nat) : Nat := okey 0x2802 (0x1 + u)
/-- FENCE_DISCARDS 0x2803:01–30. -/
def K.fenceDiscards (u : Nat) : Nat := okey 0x2803 (0x1 + u)
/-- HELD_REFUSALS 0x2804:01–30. -/
def K.heldRefusals (u : Nat) : Nat := okey 0x2804 (0x1 + u)
/-- LOSS_CAUSE 0x2805:01–30. -/
def K.lossCause (u : Nat) : Nat := okey 0x2805 (0x1 + u)
/-- FIRST_LOSS_TIME 0x2806:01–30. -/
def K.firstLossTime (u : Nat) : Nat := okey 0x2806 (0x1 + u)
/-- DEVICE_ERRORS 0x2807:01–30. -/
def K.deviceErrors (u : Nat) : Nat := okey 0x2807 (0x1 + u)
/-- POISON_ANSWERS 0x2808:01–30. -/
def K.poisonAnswers (u : Nat) : Nat := okey 0x2808 (0x1 + u)
/-- PERM_FAULTS 0x2809:01–30. -/
def K.permFaults (u : Nat) : Nat := okey 0x2809 (0x1 + u)
/-- REFETCH_FAILS 0x2810:01. -/
def K.refetchFails : Nat := okey 0x2810 0x1
/-- WRITE_RETRIES 0x2810:02. -/
def K.writeRetries : Nat := okey 0x2810 0x2
/-- LL_NEXT 0x2811:01. -/
def K.llNext : Nat := okey 0x2811 0x1
/-- LL_TOTAL 0x2811:02. -/
def K.llTotal : Nat := okey 0x2811 0x2
/-- LL_CLEAR 0x2811:03. -/
def K.llClear : Nat := okey 0x2811 0x3
/-- FATAL_CAUSE 0x2880:01. -/
def K.fatalCause : Nat := okey 0x2880 0x1
/-- FATAL_TIME 0x2880:02. -/
def K.fatalTime : Nat := okey 0x2880 0x2
/-- FATAL_UNIT 0x2880:03. -/
def K.fatalUnit : Nat := okey 0x2880 0x3
/-- FATAL_DETAIL 0x2880:04. -/
def K.fatalDetail : Nat := okey 0x2880 0x4
/-- FATAL_VALID 0x2880:05. -/
def K.fatalValid : Nat := okey 0x2880 0x5
/-- FATAL_COUNT 0x2880:06. -/
def K.fatalCount : Nat := okey 0x2880 0x6
/-- FATAL_FLUSH_TIME 0x2880:07. -/
def K.fatalFlushTime : Nat := okey 0x2880 0x7
/-- STALL_LIMIT 0x2881:01. -/
def K.stallLimit : Nat := okey 0x2881 0x1
/-- WRITE_RETRY_LIMIT 0x2882:01. -/
def K.writeRetryLimit : Nat := okey 0x2882 0x1
/-- WRITE_RETRY_GAP 0x2882:02. -/
def K.writeRetryGap : Nat := okey 0x2882 0x2
/-- MODE_REQ 0x1100:01. -/
def K.modeReq : Nat := okey 0x1100 0x1
/-- MODE_RESULT 0x1100:02. -/
def K.modeResult : Nat := okey 0x1100 0x2
/-- MODE_PREV 0x1100:03. -/
def K.modePrev : Nat := okey 0x1100 0x3
/-- TRANSITION_TIME 0x1100:04. -/
def K.transitionTime : Nat := okey 0x1100 0x4
/-- DOMAIN_STATE 0x1100:05. -/
def K.domainState : Nat := okey 0x1100 0x5
/-- RESET_CAUSE 0x1100:06. -/
def K.resetCause : Nat := okey 0x1100 0x6
/-- LINK_WAIT 0x1100:07. -/
def K.linkWait : Nat := okey 0x1100 0x7
/-- DRAIN_LIMIT 0x1100:08. -/
def K.drainLimit : Nat := okey 0x1100 0x8
/-- TB_STATE 0x1100:0A. -/
def K.tbState : Nat := okey 0x1100 0xa
/-- TB_OFFSET 0x1100:0B. -/
def K.tbOffset : Nat := okey 0x1100 0xb
/-- TELEM_PERIOD 0x1200:01. -/
def K.telemPeriod : Nat := okey 0x1200 0x1
/-- TEMP 0x1201:01–10. -/
def K.temp (u : Nat) : Nat := okey 0x1201 (0x1 + u)
/-- VOLT 0x1202:01–08. -/
def K.volt (u : Nat) : Nat := okey 0x1202 (0x1 + u)
/-- RATE_MON 0x1203:01–20. -/
def K.rateMon (u : Nat) : Nat := okey 0x1203 (0x1 + u)
/-- PORT_RATE 0x1204:01–30. -/
def K.portRate (u : Nat) : Nat := okey 0x1204 (0x1 + u)
/-- ML_RATE 0x1205:01–08. -/
def K.mlRate (u : Nat) : Nat := okey 0x1205 (0x1 + u)
/-- TEMP_WARN 0x1206:01. -/
def K.tempWarn : Nat := okey 0x1206 0x1
/-- TEMP_TRIP 0x1206:02. -/
def K.tempTrip : Nat := okey 0x1206 0x2
/-- VCORE_WARN_LO 0x1206:03. -/
def K.vcoreWarnLo : Nat := okey 0x1206 0x3
/-- VCORE_WARN_HI 0x1206:04. -/
def K.vcoreWarnHi : Nat := okey 0x1206 0x4
/-- RATE_WARN 0x1206:05. -/
def K.rateWarn : Nat := okey 0x1206 0x5
/-- CAL_INTERVAL 0x1210:01. -/
def K.calInterval : Nat := okey 0x1210 0x1
/-- CAL_TEMP_DELTA 0x1210:02. -/
def K.calTempDelta : Nat := okey 0x1210 0x2
/-- CAL_VOLT_DELTA 0x1210:03. -/
def K.calVoltDelta : Nat := okey 0x1210 0x3
/-- CAL_DEFER_MAX 0x1210:04. -/
def K.calDeferMax : Nat := okey 0x1210 0x4
/-- CAL_FORCED 0x1210:05. -/
def K.calForced : Nat := okey 0x1210 0x5
/-- CONS_MIN_SHARE 0x1211:01. -/
def K.consMinShare : Nat := okey 0x1211 0x1
/-- JOURNAL_CAPACITY 0x1212:01. -/
def K.journalCapacity : Nat := okey 0x1212 0x1
/-- NVM_SPARES 0x1212:02. -/
def K.nvmSpares : Nat := okey 0x1212 0x2
/-- NVM_MAX_ERASES 0x1212:03. -/
def K.nvmMaxErases : Nat := okey 0x1212 0x3
/-- JOURNAL_QUEUE 0x1212:04. -/
def K.journalQueue : Nat := okey 0x1212 0x4
/-- PRES_DISC_TIME 0x1400:01. -/
def K.presDiscTime : Nat := okey 0x1400 0x1
/-- PRES_STATE 0x1400:02. -/
def K.presState : Nat := okey 0x1400 0x2
/-- PRES_B_FILTER 0x1400:03. -/
def K.presBFilter : Nat := okey 0x1400 0x3
/-- PRES_BOUNCES 0x1400:04. -/
def K.presBounces : Nat := okey 0x1400 0x4
/-- PRES_B_GLITCHES 0x1400:05. -/
def K.presBGlitches : Nat := okey 0x1400 0x5
/-- PARK_RDY_NOW 0x1400:06. -/
def K.parkRdyNow : Nat := okey 0x1400 0x6
/-- PAIR_ENABLE 0x1401:01. -/
def K.pairEnable : Nat := okey 0x1401 0x1
/-- PAIR_ROLE 0x1401:02. -/
def K.pairRole : Nat := okey 0x1401 0x2
/-- PAIR_MASK 0x1401:03. -/
def K.pairMask : Nat := okey 0x1401 0x3
/-- PAIR_REACH 0x1401:04. -/
def K.pairReach : Nat := okey 0x1401 0x4
/-- PAIR_STATE 0x1401:05. -/
def K.pairState : Nat := okey 0x1401 0x5
/-- HOME_NOW 0x1401:06. -/
def K.homeNow : Nat := okey 0x1401 0x6
/-- PARTNER_HOME 0x1401:07. -/
def K.partnerHome : Nat := okey 0x1401 0x7
/-- HANDOVERS 0x1401:08. -/
def K.handovers : Nat := okey 0x1401 0x8
/-- TAKEOVERS 0x1401:09. -/
def K.takeovers : Nat := okey 0x1401 0x9
/-- PAIR_LOSS_TIME 0x1401:0A. -/
def K.pairLossTime : Nat := okey 0x1401 0xa
/-- ORPHAN_LIMIT 0x1401:0B. -/
def K.orphanLimit : Nat := okey 0x1401 0xb
/-- ORPHAN_WB 0x1401:0C. -/
def K.orphanWb : Nat := okey 0x1401 0xc
/-- ORPHAN_LOST 0x1401:0D. -/
def K.orphanLost : Nat := okey 0x1401 0xd
/-- PL_CODE_VIOLATIONS 0x1401:0E. -/
def K.plCodeViolations : Nat := okey 0x1401 0xe
/-- PL_CRC_FAILURES 0x1401:0F. -/
def K.plCrcFailures : Nat := okey 0x1401 0xf
/-- PL_RESYNCS 0x1401:10. -/
def K.plResyncs : Nat := okey 0x1401 0x10
/-- PL_LINK_FAILS 0x1401:11. -/
def K.plLinkFails : Nat := okey 0x1401 0x11
/-- FENCE_SLICE 0x1402:01. -/
def K.fenceSlice : Nat := okey 0x1402 0x1
/-- FENCE_DC 0x1402:02. -/
def K.fenceDc : Nat := okey 0x1402 0x2
/-- FENCE_ML 0x1402:03. -/
def K.fenceMl : Nat := okey 0x1402 0x3
/-- FENCE_PORT 0x1402:04. -/
def K.fencePort : Nat := okey 0x1402 0x4
/-- FENCE_ACC 0x1402:05. -/
def K.fenceAcc : Nat := okey 0x1402 0x5
/-- FENCES 0x1402:06. -/
def K.fences : Nat := okey 0x1402 0x6
/-- NODE_ID 0x1300:01. -/
def K.nodeId : Nat := okey 0x1300 0x1
/-- MAC_ADDRESS 0x1300:02. -/
def K.macAddress : Nat := okey 0x1300 0x2
/-- PLCA_ENABLE 0x1300:03. -/
def K.plcaEnable : Nat := okey 0x1300 0x3
/-- PLCA_NODE_COUNT 0x1300:04. -/
def K.plcaNodeCount : Nat := okey 0x1300 0x4
/-- PLCA_TO_TIMER 0x1300:05. -/
def K.plcaToTimer : Nat := okey 0x1300 0x5
/-- PLCA_STATUS 0x1300:06. -/
def K.plcaStatus : Nat := okey 0x1300 0x6
/-- FRAMES_RX 0x1300:07. -/
def K.framesRx : Nat := okey 0x1300 0x7
/-- FRAMES_TX 0x1300:08. -/
def K.framesTx : Nat := okey 0x1300 0x8
/-- NET_DISCARDED 0x1300:09. -/
def K.netDiscarded : Nat := okey 0x1300 0x9
/-- REQUESTS_DROPPED 0x1300:0A. -/
def K.requestsDropped : Nat := okey 0x1300 0xa
/-- DUPLICATES 0x1300:0B. -/
def K.duplicates : Nat := okey 0x1300 0xb
/-- COMMIT 0x1300:10. -/
def K.commitObj : Nat := okey 0x1300 0x10
/-- EPOCH 0x1300:11. -/
def K.epoch : Nat := okey 0x1300 0x11
/-- COMMIT_STATE 0x1300:12. -/
def K.commitState : Nat := okey 0x1300 0x12
/-- COMMIT_PENDING 0x1300:13. -/
def K.commitPending : Nat := okey 0x1300 0x13
/-- COMMIT_ERROR 0x1300:14. -/
def K.commitError : Nat := okey 0x1300 0x14
/-- STAGE_DISCARD 0x1300:15. -/
def K.stageDiscard : Nat := okey 0x1300 0x15
/-- STAGED_DIFFER 0x1300:16. -/
def K.stagedDiffer : Nat := okey 0x1300 0x16
/-- COMMITS 0x1300:17. -/
def K.commits : Nat := okey 0x1300 0x17
/-- CONSOLE_BASE 0x1300:20. -/
def K.consoleBase : Nat := okey 0x1300 0x20
/-- JOURNAL_NEXT 0x1301:01. -/
def K.journalNext : Nat := okey 0x1301 0x1
/-- JOURNAL_OLDEST 0x1301:02. -/
def K.journalOldest : Nat := okey 0x1301 0x2
/-- SUB_LEASE 0x1302:01. -/
def K.subLease : Nat := okey 0x1302 0x1
/-- SUB_ACTIVE 0x1302:02. -/
def K.subActive : Nat := okey 0x1302 0x2
/-- NOTIFY_SENT 0x1302:03. -/
def K.notifySent : Nat := okey 0x1302 0x3
/-- VENDOR_ID 0x1000:01. -/
def K.vendorId : Nat := okey 0x1000 0x1
/-- PRODUCT 0x1000:02. -/
def K.product : Nat := okey 0x1000 0x2
/-- REVISION 0x1000:03. -/
def K.revision : Nat := okey 0x1000 0x3
/-- SERIAL 0x1000:04. -/
def K.serial : Nat := okey 0x1000 0x4
/-- MODE_NOW 0x1000:05. -/
def K.modeNow : Nat := okey 0x1000 0x5
/-- HUB_STATUS 0x1000:06. -/
def K.hubStatus : Nat := okey 0x1000 0x6
/-- DEVICE_TIME 0x1000:07. -/
def K.deviceTime : Nat := okey 0x1000 0x7
/-- ORDERING_CODE 0x1000:08. -/
def K.orderingCode : Nat := okey 0x1000 0x8
/-- DICT_VERSION 0x1000:09. -/
def K.dictVersion : Nat := okey 0x1000 0x9
/-- ceWhere of entry e of the correctable-error log (08 R218). -/
def K.ceWhere (e : Nat) : Nat := okey (0x2490 + e) 1
/-- ceAddr of entry e of the correctable-error log (08 R218). -/
def K.ceAddr (e : Nat) : Nat := okey (0x2490 + e) 2
/-- ceCount of entry e of the correctable-error log (08 R218). -/
def K.ceCount (e : Nat) : Nat := okey (0x2490 + e) 3
/-- ceFirst of entry e of the correctable-error log (08 R218). -/
def K.ceFirst (e : Nat) : Nat := okey (0x2490 + e) 4
/-- ceLast of entry e of the correctable-error log (08 R218). -/
def K.ceLast (e : Nat) : Nat := okey (0x2490 + e) 5
/-- llAddr of entry e of the line-loss log (13 R346). -/
def K.llAddr (e : Nat) : Nat := okey (0x2820 + e) 1
/-- llInfo of entry e of the line-loss log (13 R346). -/
def K.llInfo (e : Nat) : Nat := okey (0x2820 + e) 2
/-- llTime of entry e of the line-loss log (13 R346). -/
def K.llTime (e : Nat) : Nat := okey (0x2820 + e) 3

end Sys2Proof.Machine
end

