-- ==== Sys2Proof/Machine/State.lean ====
section
/-! DEFINITION. The state of the hub as plain data, its outcomes and its reset state. Numbers that the spec counts or compares are
Nat; masks, words and wire levels are bit vectors. Sparse tables list only the units or addresses that differ from their default. -/

namespace Sys2Proof.Machine

/-- A sparse table: rising keys, no entry equal to the table's default (`tget`, `tset` of Ops). -/
abbrev Tab (α : Type) := List (Nat × α)

/-- The twelve operating modes (14 R355). -/
inductive Mode where
  | off | standby | bringup | configure | run | degraded | retain | park | drain | sole | diagnostic | faultHold
deriving DecidableEq, Repr

/-- A mode transition in progress (14 R356, R361, R362, R364; 15 R381; 13 R348). -/
inductive Transition where
  | none
  | powering            -- from Configure to the working mode: domains coming on (R361 step 3)
  | calibrating         -- from Configure to the working mode: calibration and link wait (R361 steps 4 and 5)
  | diagPowering        -- from Configure to Diagnostic: domains coming on (R361 step 3)
  | diagCalibrating     -- from Configure to Diagnostic: calibration (R361 step 4)
  | toPark              -- quiescing for Park (R362)
  | toRetain            -- quiescing for Retain (R362)
  | retainExit          -- full calibration on the way out of Retain (R364)
  | drainAck            -- Drain, waiting for HOME_MAP_ACK (R381 step 2)
  | drainRecall         -- Drain, recalling every entry (R381 steps 3 and 4)
  | drainGive           -- Drain, waiting for RANGE_TAKEN (R381 step 5)
  | toFaultHold         -- flushing for Fault-hold (R348 step 3)
deriving DecidableEq, Repr

/-- Memory types (02 R19). -/
inductive MemType where
  | wb | nc | devS | devB
deriving DecidableEq, Repr

/-- Down messages of a port (04 R98). -/
inductive DownOp where
  | snoop | homeMap | dataResp | grantResp | rdata | complete | sleepAck | sleepNack
deriving DecidableEq, Repr

/-- A down message with its fields; a field the opcode or status does not carry is 0 (04 R92, R96, R98). -/
structure DownMsg where
  op : DownOp
  tid : Nat := 0
  epoch : Nat := 0
  status : Nat := 0
  bit4 : Bool := false
  token : Option Nat := none
  grant : Nat := 0
  size : Nat := 0
  addr : Nat := 0
  inval : Bool := false
  gen : Nat := 0
  mask : Mask64 := 0
  reason : Nat := 0
  data : Line := 0
deriving DecidableEq, Repr

/-- Out packets of an Archive link (09 R237). -/
inductive ArchOp where
  | rdLine | wrLine | wrMasked | devRd | devWr | lockRelease | siData | siDone
deriving DecidableEq, Repr

/-- An out packet with its fields (09 R236, R237). -/
structure ArchPkt where
  op : ArchOp
  tag : Nat := 0
  addr : Nat := 0
  size : Nat := 0
  status : Nat := 0
  poison : Bool := false
  locked : Bool := false
  strict : Bool := false
  mask : Mask64 := 0
  data : Line := 0
deriving DecidableEq, Repr

/-- Messages of the pair link (15 R386). -/
inductive PairOp where
  | hello | give | taken | returnReq | surprise
deriving DecidableEq, Repr

/-- A message of the pair link with its fields (15 R386). -/
structure PairMsg where
  op : PairOp
  state : Nat := 0
  home : Mask64 := 0
  mask : Mask64 := 0
deriving DecidableEq, Repr

/-- A numbered message of a link (03 R80, 09 R234). -/
inductive WireMsg where
  | down (m : DownMsg)
  | arch (m : ArchPkt)
  | pair (m : PairMsg)
deriving DecidableEq, Repr

/-- A link-layer message (03 R77). -/
inductive LinkMsg where
  | ack (k : Nat) | resync (k : Nat) | ready | hello (flags : Nat)
deriving DecidableEq, Repr

/-- What the hub sends or answers in one step. -/
inductive Out where
  | msg (l : LinkId) (m : WireMsg)
  | link (l : LinkId) (m : LinkMsg)
  | answer (mac : BitVec 48) (op : Nat) (seq : BitVec 16) (status : Nat) (payload : List Byte)
  | notify (mac : BitVec 48) (seq : Nat) (payload : List Byte)
  | objStatus (src : Src) (key : Nat) (status : Nat) (value : List Byte)
  | chanRead (c : Nat) (ba : Nat)
  | chanWrite (c : Nat) (ba : Nat) (beats : List (Nat × Beat))   -- the beats with DCn_BEN high, check symbols included (07 R192, R196)
deriving DecidableEq, Repr

/-- The life of a link at the hub's end (03 R75 to R79, 09 R232, 15 R392). -/
inductive LinkPhase where
  | down      -- ready wire low
  | hello     -- ready wire high, LINK_HELLO exchange not ended
  | refused   -- the far end's LINK_HELLO is refused; the ready wire falls 100 ticks later (R79)
  | up        -- exchange ended
  | leaving   -- exchange ended, DESCRIBE illegal; the ready wire falls 100 ticks later (R110)
deriving DecidableEq, Repr

/-- The hub's end of one link: message numbers, replay buffer, window, resynchronisation and rail levels (03 R57 to R91, 09 R230,
R234). `near` is the reach this bring-up announces, `short` what both ends announced; `txSent` counts the numbered messages sent, up to
one round of numbers; `unacked` counts the symbols launched whose acknowledges no later launch has shown to have arrived (assumption 9). -/
structure LinkEnd where
  phase : LinkPhase := .down
  helloSent : Bool := false
  helloSeen : Bool := false
  near : Bool := false
  short : Bool := false
  txNext : Nat := 0
  txSent : Nat := 0
  unacked : Nat := 0
  replay : List WireMsg := []
  txQueue : List WireMsg := []
  rxNext : Nat := 0
  rxUnacked : Nat := 0
  rxResync : Bool := false
  txResync : Option Nat := none
  resyncsIn : List Nat := []
  resyncsOut : List Nat := []
  backoff : Bool := false
  barred : Bool := false
  railsOut : BitVec 64 := 0
  railsIn : BitVec 64 := 0
  ackOut : Bool := false
  ackIn : Bool := false
deriving DecidableEq, Repr

/-- What 0x2000+n:05 PORT_STATE shows (04 R129); a port in Run that holds a WAIT_EVENT shows 5 waiting. -/
inductive PortMode where
  | down | bringup | awaitDescribe | run | sleeping
deriving DecidableEq, Repr

/-- Fence states (13 R340). -/
inductive Fence where
  | normal | pending | held
deriving DecidableEq, Repr

/-- An entry of a store buffer (02 R28): its place among the 16; `id` is the place of its first store in the port's order of receipt. -/
structure SbEntry where
  slot : Nat
  id : Nat
  line : Nat
  mask : Mask64
  data : Line
  isOpen : Bool
  part : Nat
  epoch : Nat
deriving DecidableEq, Repr

/-- Requests that a port translates (04 R106). -/
inductive ReqOp where
  | readShared | readOwn | upgrade | readUnc | putPartial | putLine | zeroLine | loadReserve | storeCond
  | writeback   -- only on the orphan path (04 R107)
deriving DecidableEq, Repr

/-- States of a catalogue entry (05 R135). -/
inductive CatState where
  | free | shared | em | owned
deriving DecidableEq, Repr

/-- A request a port has taken and not yet passed on (04 R114). -/
structure Req where
  op : ReqOp
  tid : Nat
  pa : Nat
  size : Nat := 0
  stream : Bool := false
  locked : Bool := false
  token : Option Nat := none
  mask : Mask64 := 0
  data : Line := 0
  seq : Nat := 0
  epoch : Nat := 0
  stalled : Bool := false
  /-- the unit was home for its line when it arrived (04, corners of R127) -/
  mine : Bool := false
  /-- a STORE_COND that arrived before the COMP_ACK of the port's LOAD_RESERVE (04, corners of R115) -/
  early : Bool := false
  /-- a load behind a partial overlap: its line and the store-buffer entries that it waits for (02 R33) -/
  behind : Option (Nat × List Nat) := none
  /-- what a walk of its own found: the system address, the type code and WRITE (10 R266) -/
  found : Option (Nat × Nat × Bool) := none
deriving DecidableEq, Repr

/-- What an earlier access is, for barriers (02 R34). -/
inductive AccKey where
  | load (tid : Nat)
  | store (id : Nat)
  | dev (id : Nat)
  | wb (line : Nat)
deriving DecidableEq, Repr

/-- An access that has not reached both completion points (02 R34). -/
structure Access where
  seq : Nat
  key : AccKey
  near : Bool := false     -- the PORT and PARTITION completion point is reached
deriving DecidableEq, Repr

/-- Barrier scopes (02 R35). -/
inductive Scope where
  | port | partition | system
deriving DecidableEq, Repr

/-- A barrier not yet over; an answered PORT barrier stays until every access before it has reached both completion points (02 R35, R51). -/
structure Barrier where
  seq : Nat
  tid : Nat
  scope : Scope
  answered : Bool
deriving DecidableEq, Repr

/-- A snoop that a transaction owes a port: the kind (true: SNP_INVAL), the partition address of the port's copy, whether the catalogue
records the port for the line (05 R136), the state it was recorded in, and whether dirty data it brings is written to memory before
the transaction goes on (05 R139, R159). -/
structure Owed where
  port : Nat
  inval : Bool
  pa : Nat
  recorded : Bool := true
  st : CatState := .free
  writes : Bool := false
deriving DecidableEq, Repr

/-- A SNOOP sent to a port and not yet answered, or waiting for one of the 8 places (04 R112). -/
structure SnoopOut where
  tid : Nat
  txn : Nat
  line : Nat
  owed : Owed
deriving DecidableEq, Repr

/-- An error report that waits for the store-buffer entries it drains (02 R31). -/
structure OwedError where
  msg : DownMsg
  entries : List Nat
  retires : Bool := true    -- false for a request whose TID another outstanding request has (04 R105)
  now : Bool := false       -- the answer carries the port's epoch at the moment it leaves (04 R103)
  txn : Option Nat := none  -- the transaction whose block lasts until the report has been sent (05 R143)
deriving DecidableEq, Repr

/-- Why a HOME_MAP was sent (04 R110, 15 R381, R391, R393). -/
inductive MapWhy where
  | bringup | give | take
deriving DecidableEq, Repr

/-- A HOME_MAP not yet acknowledged (04 R127). -/
structure MapOut where
  tid : Nat
  mask : Mask64
  why : MapWhy
deriving DecidableEq, Repr

/-- The stage of a dead port's reclamation (05 R156). -/
inductive Reclaim where
  | idle | draining | poisoning
deriving DecidableEq, Repr

/-- A table walk in progress (10 R266). -/
structure Walk where
  req : Req
  addr : Nat                -- the system address of the entry being read
  second : Bool := false    -- the level-2 read is in progress
  install : Bool := true    -- cleared by TC_INVAL and by an epoch switch (R271)
  txn : Option Nat := none  -- none while slice admission refuses it (R267)
deriving DecidableEq, Repr

/-- A snoop answer with data, held behind a PORT barrier (02 R36). -/
structure HeldData where
  seq : Nat
  tid : Nat
  code : Nat
  data : Line
deriving DecidableEq, Repr

/-- One port (02, 03, 04, 05). The link layer of the port is in `State.links`. -/
structure PortSt where
  mode : PortMode := .down
  alive : Bool := false
  areq : Bool := false
  agnt : Bool := false
  wake : Bool := false
  epoch : Nat := 0
  seq : Nat := 0
  nextTid : Nat := 0
  /-- requests not yet answered, with the epoch each was received under; 0xFFF is the untagged one -/
  outstanding : List (Nat × Nat) := []
  owedErrors : List OwedError := []
  reservation : Option Nat := none
  fence : Fence := .normal
  /-- while fence-pending: stores received after this place are discarded (02 R51 step 2) -/
  discardAfter : Option Nat := none
  sb : List SbEntry := []
  waiting : List Req := []
  walk : Option Walk := none
  accesses : List Access := []
  barriers : List Barrier := []
  held : List HeldData := []
  waitEvent : Option Nat := none
  sleepTid : Option Nat := none
  loanTarget : Option Nat := none
  loanFresh : Bool := true
  map : Option MapOut := none
  /-- a HOME_MAP that waits until the one outstanding has been acknowledged (04 R112) -/
  mapNext : Option MapWhy := none
  mapAcked : Mask64 := 0
  mapGen : Nat := 0
  snoops : List SnoopOut := []
  snoopQueue : List SnoopOut := []
  tcOrder : List Nat := []
  l1 : Option (Nat × Nat × Nat × Nat) := none
  resetHold : Bool := false
  /-- requests received or not yet admitted since step 1 of a partition reset, with the opcode that answers each (10 R274) -/
  resetReqs : List (Nat × DownOp) := []
  resetBars : List Nat := []
  reclaim : Reclaim := .idle
  lostLines : Nat := 0
  timeHi : Nat := 0
deriving DecidableEq, Repr

/-- What a transaction at a home slice is (05 R143, R148, R155, R156; 10 R266; 11 R306; 12 R327 to R330; 06 R179; 08 R223). -/
inductive TxnKind where
  | readShared | readOwn | upgrade | zeroLine | loadReserve | storeCond | readUnc
  | drain | writeback | orphan | evictOffer
  | siRead | siReadInval | siWrite
  | recallCapacity | recallCat | recallMaint | recallReset | recallDrain | recallGive
  | poison | walk | ledger | ringLine | descriptor | ctrlRead
  | maintInval | maintPreload | maintUnlock | scrubRow | patrolRow | repair
deriving DecidableEq, Repr

/-- Which tracker entry a transaction holds (05 R140). -/
inductive Entry where
  | waiting              -- none yet: it waits in its buffer until an entry is free
  | general
  | credit (c : Nat)
  | reserved
  | borrowed             -- one of the 52, used by a request that may use the reserved four
deriving DecidableEq, Repr

/-- Where a transaction stands. -/
inductive Phase where
  | queued       -- admitted, waiting for the line
  | snooping     -- snoops are owed
  | lookup       -- ready for its L2 lookup, its set is blocked
  | missed       -- a burst was lost or uncorrectable: it goes to memory once its set is free (06 R171; 07 R200, R201)
  | chanRead     -- waits for a data-channel burst
  | memRead      -- waits for RD_RESP
  | memWrite     -- waits for WR_ACK
  | retryGap     -- waits for WRITE_RETRY_GAP (13 R344)
  | granted      -- a grant waits for COMP_ACK and the end of the hold window
  | poisonWait   -- waits for its set to look up the last memory value of a lost line (06 R171)
  | poisonRead   -- the last memory value of a lost line is being read (05 R156 step 6)
  | poisonWrite  -- the poison write waits for WR_ACK
  | afterWrite   -- SNP_INVALs after the memory write are owed (15 R388)
  | answering    -- its error report waits for the drain it started (02 R31, 05 R143)
  | done         -- result ready for the engine that asked
deriving DecidableEq, Repr

/-- A transaction at a home slice, from admission to its end (05 R140, R143). `port` is 48 when no port issued it. -/
structure Txn where
  id : Nat
  kind : TxnKind
  line : Nat
  slice : Nat
  port : Nat := 48
  tid : Nat := 0
  pa : Nat := 0
  part : Nat := 0
  epoch : Nat := 0
  entry : Entry := .general
  size : Nat := 0
  stream : Bool := false
  mask : Mask64 := 0
  data : Line := 0
  phase : Phase := .queued
  owed : List Owed := []              -- snoops still to be sent
  asked : List Nat := []              -- ports whose answers are awaited
  askedDirty : List Nat := []         -- those of them that were recorded EM or O when they were asked
  wbFrom : List Nat := []             -- ports whose announced WRITEBACK is awaited (04 R121)
  dirty : Bool := false               -- dirty data was collected
  stale : Bool := false               -- the EM holder answered NOT_HELD
  filled : Bool := false               -- data is present in `data`
  poisoned : Bool := false
  grant : Nat := 0
  ackIn : Bool := false
  windowOver : Bool := false
  throttled : Bool := false
  waited : Bool := false              -- counted in SET_BLOCK_WAITS
  way : Nat := 16
  blocksSet : Bool := false
  repairing : Bool := false
  retries : Nat := 0
  limit : Nat := 0
  refused : Bool := false
  fills : Bool := true
  aux : Nat := 0                      -- link and tag of a SNOOP_IN, entry id of a drain, channel of an engine write
  after : List Owed := []             -- SNP_INVALs owed after the memory write (15 R388)
  lost : Option (Nat × Nat) := none   -- the line is lost at this port, with the cause of its log entry (05 R158, 13 R346)
  tagSave : Nat := 0                  -- tag word of a line under repair (06 R178)
  gone : Bool := false                -- the link of its port has fallen: no grant and no answer is sent (13 R343)
  wbData : Option Line := none        -- data of an announced WRITEBACK, which memory holds by now (04 R121)
  poison : Line := 0                  -- what a poison write carries (05 R156 step 6)
  heldAt : Option Nat := none         -- place of a WRITEBACK held behind a PORT barrier (02 R36)
  told : Bool := false                -- COMPLETE of this WRITEBACK has been sent (04 R118)
deriving DecidableEq, Repr

/-- A retry credit in use (05 R142). -/
structure Credit where
  slice : Nat
  credit : Nat
  port : Nat
  line : Nat
  expired : Bool := false
deriving DecidableEq, Repr

/-- Who made an Archive request (09 R244). -/
inductive ArchWho where
  | txn (id : Nat)
  | dev (port tid id : Nat)
deriving DecidableEq, Repr

/-- An Archive request, waiting or outstanding (09 R237, R244). -/
structure ArchReq where
  who : ArchWho
  pkt : ArchPkt
  part : Nat
  reserved : Bool := false
  waited : Bool := false
  seq : Nat := 0
  live : Bool := true       -- the port that issued it is still up
  again : Option Nat := none  -- the failed link whose failure ended its first issue (09 R250)
deriving DecidableEq, Repr

/-- A device read whose answer waits for earlier reads of its port (02 R26, 09 R246). -/
structure DevOrder where
  port : Nat
  tid : Nat
  id : Nat
  answer : Option DownMsg := none
deriving DecidableEq, Repr

/-- 0x2502 ML_STATE (09 R259). -/
inductive MlState where
  | notEnabled | bringup | serving | down | fenced | off
deriving DecidableEq, Repr

/-- One Archive link above its link layer (09). -/
structure MlSt where
  state : MlState := .notEnabled
  rdyi : Bool := false
  describable : Bool := false
  tags : Nat := 0
  siMax : Nat := 0
  dual : Bool := false
  outstanding : List (Nat × ArchReq) := []
  waiting : List ArchReq := []
  devOrder : List DevOrder := []
  issued : List Nat := []
  deficits : Tab Nat := []
  expired : Bool := false
  si : List Nat := []
  owner : Option Nat := none
  lastOwner : Nat := 47
  ending : Option Nat := none        -- a tenure that ends, with its LOCK_RELEASE cause, waiting for its accesses (09 R256 to R258)
  tenant : Nat := 48                 -- the port of the tenure that ends
  away : Bool := false               -- fenced and not serving since: the dual partner carries its traffic (09 R241, 15 R395)
  grantTime : Nat := 0
deriving DecidableEq, Repr

/-- 0x2401 DC_STATE without the power state (07 R212). -/
inductive ChanState where
  | notEnabled | calibrating | serving | fenced
deriving DecidableEq, Repr

/-- Why a burst is read (07 R191, R206, R209); nobody takes the burst of an `unused` read any more. -/
inductive ReadWhy where
  | txn (id : Nat)
  | merge
  | unused
deriving DecidableEq, Repr

/-- A merge-buffer entry (07 R204), with the slot mark of the write that opened it; `flushing` while its read-modify-write goes on, `due`
when its trigger fell due during a calibration hold (R210). -/
structure MergeEntry where
  ba : Nat
  mask : Mask64
  data : Line
  line : Nat
  flushing : Bool := false
  due : Bool := false
  who : Nat := 16
deriving DecidableEq, Repr

/-- What a channel command does: a burst read or written, or bytes for the merge buffer (07 R191, R192, R204). -/
inductive ChanOp where
  | read (why : ReadWhy)
  | write (mask : Mask64) (data : Line)
  | store (line : Nat) (mask : Mask64) (data : Line)
deriving DecidableEq, Repr

/-- A command in a channel's queue (07 R194, R210; 14 R370): `who` is its slot mark (a partition, 16 the reserved class, 17 the
Conservator), `passed` how many later commands overtook it, `rmw` that it belongs to a read-modify-write, `fills` the line whose fill it
writes (06 R171 step 4). -/
structure ChanCmd where
  ba : Nat
  op : ChanOp
  who : Nat
  passed : Nat := 0
  rmw : Bool := false
  fills : Option Nat := none
deriving DecidableEq, Repr

/-- One data channel (07, 14 R370, R371). -/
structure ChanSt where
  state : ChanState := .notEnabled
  dllen : Bool := false              -- the level of DCn_DLLEN (07 R187, R208)
  reads : List (Nat × ReadWhy) := []
  queue : List ChanCmd := []
  issued : List Nat := []            -- slot marks of the last 256 slots, newest first (10 R281)
  deficits : Tab Nat := []           -- deficit round-robin of its slots (10 R283)
  sinceCons : Nat := 4096            -- slots since the Conservator's last one, at most 4,096 (14 R370)
  merge : List MergeEntry := []
  hold : Bool := false
  calDue : Bool := false
  calFinds : Option CalResult := none -- what the calibration finds whose hold waits for commands in flight (07 R209 step 1)
  calP : Nat := 0
  refTime : Nat := 0
  refTemp : Nat := 0
  refVolt : Nat := 0
deriving DecidableEq, Repr

/-- A ledger record on its way to memory (11 R304, R305). -/
structure LedgerRec where
  index : Nat
  pri : Nat
  data : BitVec 128
  txn : Option Nat := none    -- its transaction at its home slice, once it has one
deriving DecidableEq, Repr

/-- One ledger beside its objects (11 R307). -/
structure LedgerSt where
  state : Nat := 1            -- 1 empty, 2 moderating, 3 signalling (R307)
  count : Nat := 0            -- records written since the window opened
  limit : Nat := 8            -- MOD_COUNT of the open window
  overflow : Bool := false    -- OVERFLOW is owed to the next record (R306)
  full : Bool := false        -- event 14 was raised in this episode (R306)
  next : Nat := 0             -- index of the next record to be formed
  recs : List LedgerRec := []
deriving DecidableEq, Repr

/-- One interrupt controller (11 R294, R297). `info` holds DETAIL, port and device time of the occurrence that set an INTID pending, for
the records of R311. -/
structure CtlSt where
  pending : BitVec 256 := 0
  info : List (Nat × Nat × Nat × Nat) := []
  active : BitVec 256 := 0
  stack : List (Nat × Nat) := []
deriving DecidableEq, Repr

/-- A packet record of an accession channel (12 R320). -/
structure PktRec where
  first : Nat
  len : Nat
  truncated : Bool
  complete : Bool
  time : Nat
  cut : Nat
deriving DecidableEq, Repr

/-- The auto-drain of one packet (12 R327, R328): `pkt` is its record as the engine last saw it, `moved` counts its lines sent, `ended`
lists those that have ended. -/
structure DrainJob where
  pkt : Option PktRec := none
  moved : Nat := 0
  ended : List Nat := []
  error : Bool := false
  described : Bool := false
deriving DecidableEq, Repr

/-- The values of a channel's STAGED objects that its engine uses: those of the latest commit whose flush has taken effect (12 R331). -/
structure AccCfg where
  owner : Nat := 0
  mode : Nat := 0
  dataBase : Nat := 0
  dataLog : Nat := 17
  descBase : Nat := 0
  descLog : Nat := 6
  ctrlBase : Nat := 0
deriving DecidableEq, Repr

/-- One accession channel (12 R317 to R331). Positions are free-running word counts. -/
structure AccSt where
  active : Bool := false
  sampled : Bool := false     -- REQ has been sampled low since activation (R317)
  req : Bool := false
  ack : Bool := false
  frame : Bool := false
  waitByte : Option Byte := none
  w : Nat := 0
  r : Nat := 0
  f : Nat := 0
  m : Option Nat := none
  buf : Tab Word := []
  pkts : List PktRec := []
  inPacket : Bool := false
  discarding : Bool := false
  lossRaised : Bool := false
  flushPending : Bool := false
  armedWords : Bool := true
  armedDesc : Bool := true
  wstat : Nat := 0
  job : DrainJob := {}
  cfg : AccCfg := {}
  applyCfg : Bool := false
  polling : Bool := false     -- the control line has been read and the room still lacks (R330)
deriving DecidableEq, Repr

/-- One of the L2 range operations in progress (06 R179 to R182). -/
structure Job where
  op : Nat
  next : Nat                  -- the next line to issue
  last : Nat                  -- one past the last line
  part : Nat
  flags : Nat
  visited : Nat := 0
  affected : Nat := 0
  dirty : Nat := 0
  skipped : Nat := 0
  start : Nat := 0
  aborted : Bool := false
deriving DecidableEq, Repr

/-- A scrub pass in progress (08 R222 to R224). -/
structure Scrub where
  target : Nat
  units : List Nat            -- units still to visit, the first one in progress
  first : Nat
  row : Nat
  last : Nat
  visited : Nat := 0
  ce : Nat := 0
  repaired : Nat := 0
  unrepaired : Nat := 0
  unread : Bool := false
  chips : Tab Nat := []               -- chips implicated, by channel
  start : Nat := 0
  aborted : Bool := false
deriving DecidableEq, Repr

/-- A subscription (16 R410). -/
structure Subscription where
  id : Nat
  mac : BitVec 48
  key : Nat
  onChange : Bool
  period : Nat
  lastValue : Nat
  lastTime : Nat
  seq : Nat
deriving DecidableEq, Repr

/-- An open segmented transfer (16 R409). -/
structure Segment where
  mac : BitVec 48
  key : Nat
  write : Bool
  offset : Nat
  data : List Byte
deriving DecidableEq, Repr

/-- A journal entry (16 R416). -/
structure JEntry where
  seq : Nat
  time : Nat
  key : Nat
  kind : Nat
  src : Src
  hubEntry : Bool := false
  length : Nat
  old : Nat
  new : Nat
deriving DecidableEq, Repr

/-- Why the answer of an accepted write waits: its journal entry, named by its SEQ, found the queue full (14 R372), or a TC_INVAL of this
partition runs (10 R271). -/
inductive WriteWait where
  | no
  | journal (seq : Nat)
  | tc (p : Nat)
deriving DecidableEq, Repr

/-- The answer of a write that waits: the status of a register write of a source, or the COMPLETE of a port's console access (10 R271,
14 R372). -/
inductive DueAnswer where
  | status (src : Src) (key : Nat)
  | complete (port tid : Nat)
deriving DecidableEq, Repr

/-- Is this the answer of an access of port n? -/
def DueAnswer.isOf (a : DueAnswer) (n : Nat) : Bool :=
  match a with
  | .status _ _ => false
  | .complete m _ => m == n

/-- An answer that waits before it leaves (16 R402). -/
structure Waiting where
  mac : BitVec 48
  op : Nat
  seq : BitVec 16
  status : Nat
  payload : List Byte
  wait : WriteWait
deriving DecidableEq, Repr

/-- An answer kept for a repeated request (16 R403). -/
structure Kept where
  mac : BitVec 48
  seq : BitVec 16
  op : Nat
  status : Nat
  payload : List Byte
  time : Nat
deriving DecidableEq, Repr

/-- A request frame waiting its turn, with its opcode (16 R402). -/
structure Queued where
  op : Nat
  frame : JopFrame
deriving DecidableEq, Repr

/-- The field interface (16). -/
structure JopSt where
  up : Bool := false
  waiting : Option Waiting := none
  queue : List Queued := []
  kept : List Kept := []
  subs : List Subscription := []
  segs : List Segment := []
deriving DecidableEq, Repr

/-- The journal NVM: what reset and loss of power keep (13 R350, 14 R372, 16 R415), and in `queue` the entries in PD1 that wait for it. -/
structure NvmSt where
  entries : List (Nat × JEntry) := []  -- by place in the ring, latest first
  damaged : Tab Nat := []             -- places whose write was interrupted, with the metadata word left there (18 R447)
  queue : List JEntry := []
  next : Nat := 0                     -- next SEQ
  place : Nat := 0                    -- next place
  segs : List Nat := List.range 64    -- the ring's segments in its order
  spares : List Nat := [64, 65, 66, 67, 68, 69, 70, 71]
  erases : Tab Nat := []              -- erase counts by segment
  bad : List Nat := []                -- segments with a program that failed to verify, retired when the ring reaches them
  erased : Bool := false              -- the segment at `place` has been erased for this lap
  fatalCause : Nat := 0
  fatalTime : Nat := 0
  fatalUnit : Nat := 0xFFFF
  fatalDetail : Nat := 0
  fatalValid : Bool := false
  fatalCount : Nat := 0
deriving DecidableEq, Repr

/-- The pair as this unit sees it (15 R384 to R393). -/
structure PairSt where
  state : Nat := 0                    -- 0x1401:05 PAIR_STATE
  rdyi : Bool := false                -- the level of PL_RDYI
  partnerHome : Mask64 := 0
  partnerMode : Nat := 0
  greeted : Bool := false             -- PAIR_HELLO has come since the latest link bring-up
  told : Option (Nat × Mask64) := none -- mode and home set of the latest PAIR_HELLO sent since then (R386)
  giving : Mask64 := 0                -- steps 1 and 2 of R391 run for these buckets
  recalling : Bool := false           -- step 2 has begun
  given : Mask64 := 0                 -- RANGE_GIVE sent, RANGE_TAKEN not yet received
  taking : Mask64 := 0                -- taken, not yet served (R389)
  lost : Bool := false                -- the partner is judged lost (R392)
deriving DecidableEq, Repr

/-- Values fixed at the entry to the working mode (14 R361 step 2); before the first one, the defaults of their objects. -/
structure InForce where
  /-- port to 1 + partition, 0 for none; a port not listed is in VP0 -/
  members : Tab Nat := []
  supervisor : Nat := 0
  l2cap : Nat := 0
  dcEnable : Nat := 0xFF
  dcRate : Nat := 0
  mlEnable : Nat := 0xFF
  mlDual : Nat := 0
  interleave : Nat := 0
  console : Nat := 0xFFFF000000
deriving DecidableEq, Repr

/-- A partition reset in progress (10 R274). -/
structure PartReset where
  part : Nat
  immediate : Bool
  stores : Bool := false              -- step 3: stores are completing
deriving DecidableEq, Repr

/-- The registers a port selects at a console page (10 R278). -/
structure ConsoleRegs where
  sel : Nat := 0
  len : Nat := 0
  status : Nat := 0
  data0 : Nat := 0
  data1 : Nat := 0
deriving DecidableEq, Repr

/-- The hub. -/
structure State where
  /-- commands waiting, first in first out (the model's queue) -/
  pending : List Instr := []
  /-- what the last step sent or answered (the model's record) -/
  sent : List Out := []
  /-- how many free values have been taken (the model's own counter) -/
  freeCtr : Nat := 0
  mode : Mode := .off
  trans : Transition := .none
  transStart : Nat := 0
  domains : BitVec 12 := 0
  deviceTime : Nat := 0
  nstby : Bool := false
  presA : Bool := false
  presB : Bool := false
  presLatched : Bool := false
  presFault : Bool := false
  /-- the levels of APn_IRQ (03 R73, 11 R301) -/
  irqPins : Mask64 := 0
  /-- the level of PARK_RDY (15 R382) -/
  parkRdy : Bool := false
  /-- nFAULT is driven low (15 R377, R378; 13 R348) -/
  nfaultLow : Bool := false
  viom : Bool := true
  vnvm : Bool := true
  drained : Bool := false
  /-- the fatal record of this entry to Fault-hold has been written (13 R350) -/
  fatalKept : Bool := false
  /-- LINK_WAIT elapsed while the calibration of 14 R361 step 4 still ran -/
  linkWaited : Bool := false
  tbState : Nat := 0
  clkTrimmed : Bool := false
  missAll : Bool := false
  /-- sensors at or above TEMP_TRIP at the latest update (14 R369) -/
  hot : List Nat := []
  warned : List Nat := []
  nodeId : BitVec 6 := 0
  plcaOk : Bool := false
  plcaOn : Bool := false
  plcaNodes : Nat := 8
  plcaTimer : Nat := 32
  objs : Tab Nat := []
  staged : Tab Nat := []
  oldBound : Tab Nat := []
  inForce : InForce := {}
  epoch : Nat := 0
  commitState : Bool := false
  commitPending : BitVec 64 := 0
  arrays : Tab Stored := []
  /-- ports to be reclaimed for a lost catalogue entry (05 R160) -/
  doomed : List Nat := []
  /-- catalogue entries counted as lost and not yet reclaimed: port, set and way (05 R160) -/
  lostEntries : List (Nat × Nat × Nat) := []
  links : Tab LinkEnd := []
  ports : Tab PortSt := []
  consoles : Tab ConsoleRegs := []
  bucketMap : Tab Nat := []
  moving : List (Nat × Nat) := []
  txns : List Txn := []
  nextTxn : Nat := 0
  credits : List Credit := []
  mls : Tab MlSt := []
  chans : Tab ChanSt := []
  /-- PD10 has been on since the hub reset: until then DC_STATE keeps its default (07 R212, 17 R429) -/
  chansUsed : Bool := false
  chipErrs : Tab Nat := []
  wayErrs : Tab Nat := []
  ctls : Tab CtlSt := []
  ledgers : Tab LedgerSt := []
  evinLevel : BitVec 64 := 0
  /-- level-mode pins that are asserted (11 R292) -/
  evinAsserted : BitVec 64 := 0
  accs : Tab AccSt := []
  job : Option Job := none
  scrub : Option Scrub := none
  ceArm : Bool := true
  ceUnlogArm : Bool := true
  patrolDc : Nat := 0
  patrolTag : Nat := 0
  patrolCat : Nat := 0
  resets : List PartReset := []
  tcInval : List Nat := []
  /-- answers of writes that wait for the journal queue or a TC_INVAL (10 R271, 14 R372) -/
  due : List (DueAnswer × WriteWait) := []
  pair : PairSt := {}
  homeNow : Mask64 := BitVec.allOnes 64
  jop : JopSt := {}
  nvm : NvmSt := {}
deriving DecidableEq, Repr

/-- Why the machine stops with a fault. -/
inductive Fault where
  /-- Raised by a command whose operands are not a value of the event it names (WellFormed says which): a telemetry update
  without one value for each sensor and monitor. Safe: no such event exists, so the hardware never goes on from it. -/
  | illFormed (what : String)
deriving DecidableEq, Repr

/-- Why a command has no meaning. -/
inductive Refusal where
  /-- Raised by the arm of a row that has no meaning in this model, by its mnemonic. Safe: the model stops. -/
  | notModelled (mnemonic : String)
deriving DecidableEq, Repr

/-- The hub before power: Off, every pin high-impedance, every object at its default (14 R355, R356). -/
def State.reset : State := {}

end Sys2Proof.Machine
end

