-- ==== Sys2Proof/Machine/Ops.lean ====
section
/-! DEFINITION. The named operations over the state: sparse tables, units, objects, the journal, interrupts and events, modes and
domains, losses, hub reset and entry to Fault-hold. Every command's effect is built from them. -/

namespace Sys2Proof.Machine

/-! Sparse tables. -/

/-- The value at a key, `d` where the key is not listed. -/
def tget {α : Type} (d : α) : Tab α → Nat → α
  | [], _ => d
  | (k', v) :: t, k => if k = k' then v else tget d t k

/-- Place a value at a key, keeping the keys rising. -/
def tput {α : Type} (v : α) (k : Nat) : Tab α → Tab α
  | [] => [(k, v)]
  | (k', v') :: t => if k < k' then (k, v) :: (k', v') :: t else if k = k' then (k, v) :: t else (k', v') :: tput v k t

/-- Remove a key. -/
def tdel {α : Type} (k : Nat) : Tab α → Tab α
  | [] => []
  | (k', v') :: t => if k = k' then tdel k t else (k', v') :: tdel k t

/-- Store a value; the default is stored by leaving the key out. -/
def tset {α : Type} [DecidableEq α] (d : α) (t : Tab α) (k : Nat) (v : α) : Tab α :=
  if v = d then tdel k t else tput v k t

/-- The canonical form: keys strictly rising. -/
def Tab.rising {α : Type} : Tab α → Bool
  | [] => true
  | [_] => true
  | (k, _) :: (k', v') :: t => decide (k < k') && Tab.rising ((k', v') :: t)

/-! Units of the hub. -/

/-- One port. -/
def State.port (s : State) (n : Nat) : PortSt := tget {} s.ports n

/-- Replace one port. -/
def State.setPort (s : State) (n : Nat) (p : PortSt) : State := { s with ports := tset {} s.ports n p }

/-- Change one port. -/
def State.modPort (s : State) (n : Nat) (f : PortSt → PortSt) : State := s.setPort n (f (s.port n))

/-- The place of a link: ports 0 to 47, Archive links 48 to 55, the pair link 56. -/
def linkNum : LinkId → Nat
  | .port n => n.val | .arch k => 48 + k.val | .pair => 56

/-- The link of port n. -/
def portLink (n : Nat) : LinkId := .port (Fin.ofNat 48 n)

/-- Archive link k. -/
def archLink (k : Nat) : LinkId := .arch (Fin.ofNat 8 k)

/-- One link's end. -/
def State.link (s : State) (l : LinkId) : LinkEnd := tget {} s.links (linkNum l)

/-- Replace one link's end. -/
def State.setLink (s : State) (l : LinkId) (e : LinkEnd) : State := { s with links := tset {} s.links (linkNum l) e }

/-- Change one link's end. -/
def State.modLink (s : State) (l : LinkId) (f : LinkEnd → LinkEnd) : State := s.setLink l (f (s.link l))

/-- Is the ready wire of the link high at the hub's end (APn_PRDY, MLn_RDYO, PL_RDYO)? -/
def State.ready (s : State) (l : LinkId) : Bool := (s.link l).phase != .down

/-- APn_PRDY. -/
def State.prdy (s : State) (n : Nat) : Bool := s.ready (portLink n)

/-- One Archive link above its link layer. -/
def State.ml (s : State) (k : Nat) : MlSt := tget {} s.mls k

/-- Change one Archive link. -/
def State.modMl (s : State) (k : Nat) (f : MlSt → MlSt) : State := { s with mls := tset {} s.mls k (f (s.ml k)) }

/-- One data channel. -/
def State.chan (s : State) (c : Nat) : ChanSt := tget {} s.chans c

/-- Change one data channel. -/
def State.modChan (s : State) (c : Nat) (f : ChanSt → ChanSt) : State := { s with chans := tset {} s.chans c (f (s.chan c)) }

/-- One interrupt controller. -/
def State.ctl (s : State) (p : Nat) : CtlSt := tget {} s.ctls p

/-- Change one interrupt controller. -/
def State.modCtl (s : State) (p : Nat) (f : CtlSt → CtlSt) : State := { s with ctls := tset {} s.ctls p (f (s.ctl p)) }

/-- Ledger l of partition p. -/
def State.ledger (s : State) (p l : Nat) : LedgerSt := tget {} s.ledgers (4 * p + l)

/-- Change a ledger. -/
def State.modLedger (s : State) (p l : Nat) (f : LedgerSt → LedgerSt) : State :=
  { s with ledgers := tset {} s.ledgers (4 * p + l) (f (s.ledger p l)) }

/-- One accession channel. -/
def State.acc (s : State) (c : Nat) : AccSt := tget {} s.accs c

/-- Change one accession channel. -/
def State.modAcc (s : State) (c : Nat) (f : AccSt → AccSt) : State := { s with accs := tset {} s.accs c (f (s.acc c)) }

/-! Objects. -/

/-- The value held by an object, by its number (17 R424, R429). -/
def State.obj (s : State) (k : Nat) : Nat := tget (defaultOf k) s.objs k

/-- Store an object's value. -/
def State.setObj (s : State) (k v : Nat) : State := { s with objs := tset (defaultOf k) s.objs k v }

/-- Add to a U32 counter modulo 2^32. -/
def State.addObj (s : State) (k n : Nat) : State := s.setObj k ((s.obj k + n) % 0x100000000)

/-- Count one. -/
def State.bump (s : State) (k : Nat) : State := s.addObj k 1

/-- Is bit i of an object set? -/
def State.objBit (s : State) (k i : Nat) : Bool := (s.obj k).testBit i

/-- Set bit i of an object. -/
def State.setObjBit (s : State) (k i : Nat) (b : Bool) : State :=
  let v := s.obj k
  if v.testBit i = b then s else s.setObj k (if b then v + 2 ^ i else v - 2 ^ i)

/-- The value of a port-bound object under an epoch: the one that the commit in progress replaced while the epoch is not the
present one (16 R414). -/
def State.objAt (s : State) (epoch k : Nat) : Nat :=
  if epoch = s.epoch then s.obj k else tget (s.obj k) s.oldBound k

/-- A free value: the hub's own choice where the spec states none. -/
def State.free (s : State) : State × Nat := ({ s with freeCtr := s.freeCtr + 1 }, Config.freeValue s.freeCtr)

/-- Record what the hub sends or answers. -/
def State.emit (s : State) (o : Out) : State := { s with sent := s.sent ++ [o] }

/-! Domains, modes and membership. -/

/-- Is domain d powered (14 R352)? -/
def State.pd (s : State) (d : Nat) : Bool := s.domains.getLsbD d

/-- The domain of a port (14 R352). -/
def portDomain (n : Nat) : Nat := 7 + n / 16

/-- The domain of a home slice: groups A to D of eight slices (14 R352, 05 R132). -/
def sliceDomain (h : Nat) : Nat := 3 + h / 8

/-- The mode codes of R355. -/
def Mode.code : Mode → Nat
  | .off => 0 | .standby => 1 | .bringup => 2 | .configure => 3 | .run => 4 | .degraded => 5 | .retain => 6 | .park => 7
  | .drain => 8 | .sole => 9 | .diagnostic => 10 | .faultHold => 11

/-- Run, Degraded and Sole. -/
def Mode.serving : Mode → Bool
  | .run | .degraded | .sole => true
  | .off | .standby | .bringup | .configure | .retain | .park | .drain | .diagnostic | .faultHold => false

/-- The modes in which APn_PRDY may rise (03 R75). -/
def Mode.ports : Mode → Bool
  | .run | .degraded | .sole | .retain | .park | .drain => true
  | .off | .standby | .bringup | .configure | .diagnostic | .faultHold => false

/-- Is port n a member of partition p, by the membership in force (10 R262)? -/
def State.memberOf (s : State) (n : Nat) : Option Nat :=
  match tget 1 s.inForce.members n with
  | 0 => none
  | q + 1 => some q

/-- The partition of port n; VP0 where it belongs to none. -/
def State.partOf (s : State) (n : Nat) : Nat := (s.memberOf n).getD 0

/-- The member ports of a partition in ascending order. -/
def State.membersOf (s : State) (p : Nat) : List Nat := (List.range 48).filter (fun n => s.memberOf n == some p)

/-- Is any unit fenced (15 R394)? -/
def State.fenced (s : State) : Bool :=
  s.obj K.fenceSlice != 0 || s.obj K.fenceDc != 0 || s.obj K.fenceMl != 0 || s.obj K.fencePort != 0 || s.obj K.fenceAcc != 0

/-- Every bucket. -/
def allBuckets : Mask64 := BitVec.allOnes 64

/-- This unit's half of the buckets (15 R384). -/
def State.ownHalf (s : State) : Mask64 :=
  let m : Mask64 := BitVec.ofNat 64 (s.obj K.pairMask)
  if s.obj K.pairRole = 0 then m else ~~~ m

/-- The working mode: Sole when this unit serves its partner's range, otherwise Degraded when any unit is fenced, otherwise Run
(14 R355). -/
def State.workingMode (s : State) : Mode :=
  let home := if s.pair.lost then s.homeNow ||| s.pair.taking else s.homeNow
  if s.obj K.pairEnable = 1 && (home &&& ~~~ s.ownHalf) != 0 then .sole
  else if s.fenced then .degraded else .run

/-! The journal (16 R415, R416; 14 R372). -/

/-- What an object reads as for the journal: STR and DOMAIN values are given whole elsewhere. -/
def State.journalEntry (s : State) (key kind : Nat) (src : Src) (hub : Bool) (length old new : Nat) : JEntry :=
  { seq := s.nvm.next, time := s.deviceTime, key := key, kind := kind, src := src, hubEntry := hub, length := length,
    old := old % 2 ^ 64, new := new % 2 ^ 64 }

/-- Is the journal queue full (14 R372)? -/
def State.journalFull (s : State) : Bool := 64 ≤ s.nvm.queue.length

/-- Is the wait of an answer over: its journal entry is among the 64 of the queue, or written, or the TC_INVAL has ended? -/
def State.waitEnded (s : State) : WriteWait → Bool
  | .no => true
  | .journal seq => !((s.nvm.queue.drop 64).any (fun e => e.seq == seq))
  | .tc p => !(s.tcInval.contains p)

/-- Put an entry in the queue; its SEQ is taken at once. Entries beyond the 64 of the queue are those of writes whose answers wait (14
R372; DEDUCED, assumption 82). -/
def State.journal (s : State) (key kind : Nat) (src : Src) (hub : Bool) (length old new : Nat) : State :=
  { s with nvm := { s.nvm with
      queue := s.nvm.queue ++ [s.journalEntry key kind src hub length old new]
      next := (s.nvm.next + 1) % 0x100000000 } }

/-- An entry that the hub's own rules require (16 R415). -/
def State.journalHub (s : State) (key old new : Nat) : State := s.journal key 4 (.net 0) true 8 old new

/-! Interrupt controllers and ledgers (11). -/

/-- The configuration byte of an INTID; of INTID 7, which reads 0x40 by default, only the LEDGER field takes writes (11 R290). -/
def State.intCfg (s : State) (p i : Nat) : Nat :=
  let b := s.obj (K.intidCfg p (i / 4)) / 256 ^ (i % 4) % 256
  if i = 7 then 0x40 + b / 16 % 4 * 16 else b

/-- PRIORITY of an INTID. -/
def State.intPri (s : State) (p i : Nat) : Nat := s.intCfg p i % 16

/-- ENABLE of an INTID. -/
def State.intEnabled (s : State) (p i : Nat) : Bool := (s.intCfg p i).testBit 6

/-- LEDGER of an INTID. -/
def State.intLedger (s : State) (p i : Nat) : Nat := s.intCfg p i / 16 % 4

/-- Is the partition in LEDGER mode (11 R311)? -/
def State.ledgerMode (s : State) (p : Nat) : Bool := s.obj (K.intMode p) == 1

/-- Records held by a ledger, HEAD − TAIL (11 R305). -/
def State.ledgerHeld (s : State) (p l : Nat) : Nat :=
  (s.obj (K.ledgerHead p l) + 0x100000000 - s.obj (K.ledgerTail p l)) % 0x100000000

/-- The capacity of a ledger in records (11 R303). -/
def State.ledgerSize (s : State) (p l : Nat) : Nat := 2 ^ s.obj (K.ledgerSizeLog2 p l)

/-- The record of an occurrence (11 R304). -/
def ledgerRecord (intid pri : Nat) (overflow phase : Bool) (ledger port detail time : Nat) : BitVec 128 :=
  BitVec.ofNat 128 (intid + pri * 2 ^ 8 + overflow.toNat * 2 ^ 12 + phase.toNat * 2 ^ 13 + ledger * 2 ^ 14 + port * 2 ^ 16 +
    detail % 2 ^ 32 * 2 ^ 32 + time % 2 ^ 64 * 2 ^ 64)

/-- The ledger that takes an INTID's records: the one its LEDGER field names, or ledger 0 when that one is not enabled (R302). -/
def State.recordLedger (s : State) (p i : Nat) : Nat :=
  if s.obj (K.ledgerEnable p (s.intLedger p i)) = 1 then s.intLedger p i else 0

/-- Form the record of an occurrence at a device time, or drop it when the ring is full (11 R302, R305, R306). The flag says that event 14
is owed. -/
def State.formRecord (s : State) (p i pri detail port time : Nat) : State × Bool :=
  let l := s.recordLedger p i
  let g := s.ledger p l
  let size := s.ledgerSize p l
  let waiting := (g.next + 0x100000000 - s.obj (K.ledgerTail p l)) % 0x100000000
  if size ≤ waiting then
    ((s.bump (K.ledgerDropped p l)).modLedger p l (fun g => { g with overflow := true, full := true }), !g.full)
  else
    let phase := (g.next / size) % 2 == 0
    let r : LedgerRec := { index := g.next, pri := pri, data := ledgerRecord i pri g.overflow phase l port detail time }
    (s.modLedger p l (fun g =>
      { g with overflow := false, full := false, next := (g.next + 1) % 0x100000000, recs := g.recs ++ [r] }), false)

/-- One occurrence of an INTID in one controller, without the event 14 of a full ledger. PD2 holds the controllers: while it is
off nothing occurs (14 R352, 11 R289). An occurrence while the INTID is pending merges into the one before (11 R294). -/
def State.occurOnly (s : State) (p i pri detail port : Nat) (time : Nat := s.deviceTime) : State × Bool :=
  if !s.pd 2 then (s, false)
  else if s.ledgerMode p then
    if s.intEnabled p i then s.formRecord p i pri detail port time else (s, false)
  else
    (s.modCtl p (fun c => { c with
      pending := c.pending ||| BitVec.ofNat 256 (2 ^ i)
      info := if c.pending.getLsbD i then c.info else tput (detail, port, time) i c.info }), false)

/-- One occurrence of an INTID in one controller (11 R294, R302); a ledger's first drop raises event 14 in the supervisor (R306). -/
def State.occurPri (s : State) (p i pri detail port : Nat) (time : Nat := s.deviceTime) : State :=
  match s.occurOnly p i pri detail port time with
  | (s', false) => s'
  | (s', true) =>
    (s'.occurOnly s'.inForce.supervisor 14 (s'.intPri s'.inForce.supervisor 14) (p + 16 * s.recordLedger p i) 63).1

/-- One occurrence at the priority of its configuration. -/
def State.occur (s : State) (p i detail port : Nat) : State := s.occurPri p i (s.intPri p i) detail port

/-- Raise a device event in the supervisor (11 R288). -/
def State.raiseS (s : State) (i detail : Nat) (port : Nat := 63) : State := s.occur s.inForce.supervisor i detail port

/-- Raise a device event in a partition and in the supervisor, once when they are the same (11 R287). -/
def State.raisePS (s : State) (p i detail : Nat) (port : Nat := 63) : State :=
  let s := s.occur p i detail port
  if p = s.inForce.supervisor then s else s.raiseS i detail port

/-! Losses (13). -/

/-- The cause bits of LOSS_CAUSE (13 R339). -/
inductive Loss where
  | refused | devB | expired | home
deriving DecidableEq, Repr

/-- The bit of a loss cause. -/
def Loss.bit : Loss → Nat
  | .refused => 0 | .devB => 1 | .expired => 2 | .home => 3

/-- The first PORT barrier received after a place (02 R51 step 2). -/
def PortSt.barrierAfter (p : PortSt) (seq : Nat) : Option Nat :=
  (p.barriers.filter (fun b => b.scope == .port && seq < b.seq)).foldl (fun m b =>
    match m with
    | some x => some (min x b.seq)
    | none => some b.seq) p.discardAfter

/-- Is the request a posted DEV-B write of a port that came after place b? -/
def ArchReq.postedAfter (r : ArchReq) (n b : Nat) : Bool :=
  r.pkt.op == .devWr && !r.pkt.strict && (match r.who with
    | .txn _ => false
    | .dev m _ id => m == n && b < id)

/-- Discard the DEV-B writes of a port after place b that have not been issued (02 R51 step 2; 13 R338): stores as well. -/
def State.discardPosted (s : State) (n b : Nat) : State :=
  let gone := s.mls.flatMap (fun x => x.2.waiting.filter (fun r => r.postedAfter n b))
  let ids := gone.filterMap (fun r => match r.who with
    | .txn _ => none
    | .dev _ _ id => some id)
  let s := (List.range 8).foldl (fun s k => s.modMl k (fun m => { m with
    waiting := m.waiting.filter (fun r => !(r.postedAfter n b)) })) s
  let s := s.modPort n (fun p => { p with accesses := p.accesses.filter (fun a => !(ids.any (fun i => a.key == .dev i))) })
  s.addObj (K.fenceDiscards n) gone.length

/-- Discard the stores of a port that came after a PORT barrier following the lost store and are not yet visible (02 R51 step 2). -/
def State.discardStores (s : State) (n : Nat) : State :=
  match (s.port n).discardAfter with
  | none => s
  | some b =>
    let owns := fun (i : Nat) => s.txns.any (fun t => t.kind == .drain && t.port == n && t.aux == i && t.phase != .queued)
    let gone := ((s.port n).sb.filter (fun e => b < e.id && !owns e.id)).map (·.id)
    let lost := (s.port n).accesses.filter (fun a => match a.key with
      | .store i => gone.contains i
      | .load _ | .dev _ | .wb _ => false)
    let s := s.modPort n (fun p => { p with
      sb := p.sb.filter (fun e => !(gone.contains e.id))
      accesses := p.accesses.filter (fun a => !(lost.contains a)) })
    let s := { s with txns := s.txns.filter (fun (t : Txn) => !(t.kind == TxnKind.drain && t.port == n && gone.contains t.aux)) }
    (s.addObj (K.fenceDiscards n) lost.length).discardPosted n b

/-- A loss for a port: it becomes fence-pending, the cause and the time are recorded, one LOSSES is counted and event 16 is raised
when the port becomes fence-pending; `seq` is the lost store's place, where it is known (13 R339, R340; 02 R51, R54). -/
def State.loss (s : State) (n : Nat) (c : Loss) (seq : Option Nat := none) : State :=
  let s := s.setObjBit (K.lossCause n) c.bit true
  let s := if s.obj (K.firstLossTime n) = 0 then s.setObj (K.firstLossTime n) s.deviceTime else s
  let s := s.bump (K.losses n)
  let s := match seq with
    | some q => if (s.port n).fence = Fence.held then s
        else (s.modPort n (fun p => { p with discardAfter := p.barrierAfter q })).discardStores n
    | none => s
  match (s.port n).fence with
  | .normal => (s.modPort n (fun p => { p with fence := .pending })).raisePS (s.partOf n) 16 n n
  | .pending => s
  | .held => s

/-- Write an entry of the line-loss log (13 R346). -/
def State.logLoss (s : State) (line cause port part : Nat) : State :=
  let e := s.obj K.llNext
  let s := s.setObj (K.llAddr e) (line * 64)
  let s := s.setObj (K.llInfo e) (cause + port * 2 ^ 4 + part * 2 ^ 10 + 2 ^ 31)
  let s := s.setObj (K.llTime e) s.deviceTime
  (s.setObj K.llNext ((e + 1) % 32)).bump K.llTotal

/-! Modes. -/

/-- Is the hub on its way to Fault-hold or in it (13 R348)? Nothing is admitted, accepted or answered then. -/
def State.dead (s : State) : Bool := s.mode == .faultHold || s.trans == .toFaultHold


/-- The domains of a mode (14 R353, R355). -/
def State.fullDomains (s : State) : BitVec 12 :=
  let group := fun (g : Nat) => (List.range 16).any (fun i =>
    s.obj (K.portEnable (16 * g + i)) == 1 && (s.memberOf (16 * g + i)).isSome)
  BitVec.ofNat 12 (0x87F + (if group 0 then 0x80 else 0) + (if group 1 then 0x100 else 0) + (if group 2 then 0x200 else 0) +
    (if s.inForce.dcEnable = 0 then 0 else 0x400))

/-- The modes that power "all" domains (14 R355). -/
def Mode.powersAll : Mode → Bool
  | .run | .degraded | .sole | .park | .retain | .drain => true
  | .off | .standby | .bringup | .configure | .diagnostic | .faultHold => false

/-- At a mode transition PD7, PD8 and PD9 are switched as their ports are enabled and members (14 R353); a group that goes off keeps no
translation cache (R352). -/
def State.switchGroups (s : State) : State :=
  if !s.mode.powersAll then s
  else
    let want := s.fullDomains
    let off := (List.range 3).filter (fun g => s.pd (7 + g) && !want.getLsbD (7 + g))
    let s : State := { s with domains := (s.domains &&& 0xC7F) ||| (want &&& 0x380) }
    let gone := fun (n : Nat) => off.contains (n / 16)
    ((List.range 48).filter gone).foldl (fun s n => s.modPort n (fun p => { p with tcOrder := [] }))
      { s with arrays := s.arrays.filter (fun x => !(x.1 / 2 ^ 24 == 3 && gone (x.1 / 2 ^ 16 % 256))) }

/-- The mode changes (14 R355, R357): the mode before, the time of the transition, MODE_RESULT and event 0. -/
def State.enterMode (s : State) (m : Mode) (result : Nat := 2) : State :=
  let old := s.mode
  let s := s.setObj K.modePrev old.code
  let s := s.setObj K.transitionTime ((s.deviceTime - s.transStart) % 0x100000000)
  let s := s.setObj K.modeResult (if s.obj K.modeResult = 1 ∨ result ≠ 2 then result else s.obj K.modeResult)
  let s := ({ s with mode := m, trans := .none, jop := { s.jop with segs := [] } } : State).switchGroups
  s.raiseS 0 (m.code + old.code * 256)

/-- Fencing, a return of a unit or a hand-over changes one working mode into another: no quiesce, and a transition in progress goes on
(14 R355, R356). -/
def State.toWorking (s : State) : State :=
  let m := s.workingMode
  if !s.mode.serving || m == s.mode || s.dead then s
  else
    let old := s.mode
    let s := s.setObj K.modePrev old.code
    let s := if s.trans = .none then s.setObj K.transitionTime 0 else s
    ({ s with mode := m, jop := { s.jop with segs := [] } } : State).switchGroups.raiseS 0 (m.code + old.code * 256)

/-- A path is abandoned without a change of mode (14 R361). -/
def State.abandon (s : State) (result : Nat) : State :=
  { s.setObj K.modeResult result with trans := .none }

/-- A transition starts. -/
def State.beginTransition (s : State) (t : Transition) : State := { s with trans := t, transStart := s.deviceTime }

/-- What a return of every domain except PD0 to its reset state leaves: PD0's own state, the pins' levels, the journal NVM with
the fatal record, and the model's queue (14 R352, R358; 13 R350; 16 R415). Entries already queued for the NVM are in PD1 and are
gone. -/
def State.cleared (s : State) : State :=
  { pending := s.pending, sent := s.sent, freeCtr := s.freeCtr, deviceTime := s.deviceTime,
    mode := .standby, domains := 1, nstby := s.nstby, presA := s.presA, presB := s.presB,
    viom := s.viom, vnvm := s.vnvm, tbState := s.tbState, clkTrimmed := s.clkTrimmed,
    nvm := { s.nvm with queue := [] }, pair := { rdyi := s.pair.rdyi } }

/-- A hub reset (14 R358): into Standby, RESET_CAUSE recorded. -/
def State.hubReset (s : State) (cause : Nat) : State := s.cleared.setObj K.resetCause cause

/-- Entry to Standby without a hub reset: every domain but PD0 is off and holds no state; RESET_CAUSE stays (14 R352, R355). -/
def State.toStandby (s : State) : State :=
  let old := s.mode
  (s.cleared.setObj K.resetCause (s.obj K.resetCause)).setObj K.modePrev old.code

/-- A fatal cause is detected (13 R347, R348 steps 1 and 2, R350). The fatal record is written once for each entry; a further cause
is only counted, and only once that record has been written. Modes with PD1 off and Fault-hold itself make no entry. -/
def State.fatal (s : State) (cause unit detail : Nat) (record : Bool := true) : State :=
  if !s.pd 1 then s
  else if s.mode = .faultHold ∨ s.trans = .toFaultHold then
    if s.fatalKept then { s with nvm := { s.nvm with fatalCount := min 0xFFFFFFFF (s.nvm.fatalCount + 1) } } else s
  else
    let s : State := { s.beginTransition .toFaultHold with fatalKept := record }
    if record then
      let s := { s with nvm := { s.nvm with
        fatalCause := cause, fatalTime := s.deviceTime, fatalUnit := unit, fatalDetail := detail,
        fatalValid := true, fatalCount := min 0xFFFFFFFF (s.nvm.fatalCount + 1) } }
      s.journalHub K.fatalCause 0 cause
    else s

end Sys2Proof.Machine
end

