-- ==== Sys2Proof/Machine/Operands.lean ====
section
/-! DEFINITION. The layouts of the messages of every link as symbols (03 R77, 04 R92 to R101, 09 R234 to R237, 15 R386), the check
of a received message, and the fields of request headers. -/

namespace Sys2Proof.Machine

/-! Messages received on a Vitrine link. -/

/-- Header of a tagged request: opcode, TID, ATTR and the token that ATTR bit 7 announces (04 R92, R99). -/
def taggedHeader (op : Byte) (h : Hdr) : List Byte :=
  [op, h.tid.extractLsb' 0 8, (h.tid.extractLsb' 8 4).setWidth 8, h.attr] ++ (if h.attr.getLsbD 7 then [h.token] else [])

/-- Header of an untagged request (04 R93). -/
def untaggedHeader (op : Byte) (h : Hdr) : List Byte :=
  [op, h.attr] ++ (if h.attr.getLsbD 7 then [h.token] else [])

/-- Header of a message that carries a TID and no ATTR (04 R99). -/
def plainHeader (op : Byte) (tid : Tid) (sym3 : Byte) : List Byte :=
  [op, tid.extractLsb' 0 8, (tid.extractLsb' 8 4).setWidth 8, sym3]

/-- An address, least significant symbol first (04 R94). -/
def addrSymbols (a : Word) : List Byte := natBytes 4 a.toNat

/-- The data bytes of a masked store, in ascending offset of the set mask bits (04 R94). -/
def maskedBytes (mask : Byte) (data : BitVec 64) : List Byte :=
  ((List.range 8).filter mask.getLsbD).map (fun i => data.extractLsb' (8 * i) 8)

/-- A link-layer message of a Vitrine link (03 R77). -/
def linkSymbols : LinkMsg → List Byte
  | .ack k => [0xF8, BitVec.ofNat 8 k]
  | .resync k => [0xF9, BitVec.ofNat 8 k]
  | .ready => [0xFA, 0]
  | .hello f => [0xFB, 1, BitVec.ofNat 8 f]

/-! Messages sent on a Vitrine link. -/

/-- Opcode of a down message (04 R98). -/
def DownOp.code : DownOp → Nat
  | .snoop => 0x40 | .homeMap => 0x41 | .dataResp => 0x80 | .grantResp => 0x81 | .rdata => 0x82 | .complete => 0x83
  | .sleepAck => 0x84 | .sleepNack => 0x85

/-- Symbol 3 of a down message: ATTR of a hub request, STATUS of a response (04 R92, R96, R98). -/
def DownMsg.symbol3 (m : DownMsg) : Nat :=
  match m.op with
  | .snoop => m.inval.toNat
  | .homeMap => m.gen % 16
  | .dataResp | .grantResp | .rdata | .complete | .sleepAck | .sleepNack => m.status + m.bit4.toNat * 16

/-- The fields of a down message: those of its opcode with status OK or OK_THROTTLED, one token with a RETRY status, none
otherwise (04 R96). -/
def DownMsg.fields (m : DownMsg) : List Byte :=
  match m.op with
  | .snoop => natBytes 4 m.addr
  | .homeMap => natBytes 8 m.mask.toNat
  | .dataResp | .grantResp | .rdata | .complete | .sleepAck | .sleepNack =>
    if 2 ≤ m.status && m.status ≤ 4 then [BitVec.ofNat 8 (m.token.getD 0)]
    else if 5 ≤ m.status then []
    else
      match m.op with
      | .dataResp => BitVec.ofNat 8 m.grant :: lineBytes m.data
      | .grantResp => [BitVec.ofNat 8 m.grant]
      | .rdata => (List.range (2 ^ m.size)).map (lineByte m.data)
      | .sleepNack => [BitVec.ofNat 8 m.reason]
      | .snoop | .homeMap | .complete | .sleepAck => []

/-- A down message before its CRC (04 R92). -/
def DownMsg.symbols (m : DownMsg) : List Byte :=
  [BitVec.ofNat 8 m.op.code, BitVec.ofNat 8 m.tid, BitVec.ofNat 8 (m.tid / 256 + m.epoch * 16), BitVec.ofNat 8 m.symbol3] ++ m.fields

/-- Opcode of a pair message (15 R386). -/
def PairOp.code : PairOp → Nat
  | .hello => 0x50 | .give => 0x51 | .taken => 0x52 | .returnReq => 0x53 | .surprise => 0x54

/-- A pair message with its TID, before its CRC (15 R386). -/
def PairMsg.symbols (m : PairMsg) (tid : Tid) : List Byte :=
  plainHeader (BitVec.ofNat 8 m.op.code) tid 0 ++
    match m.op with
    | .hello => BitVec.ofNat 8 m.state :: (natBytes 8 m.home.toNat ++ natBytes 8 m.mask.toNat)
    | .give | .taken | .returnReq => natBytes 8 m.home.toNat
    | .surprise => []

/-! Packets of an Archive link. -/

/-- Opcode of an out packet (09 R237). -/
def ArchOp.code : ArchOp → Nat
  | .rdLine => 1 | .wrLine => 2 | .wrMasked => 3 | .devRd => 4 | .devWr => 5 | .lockRelease => 6 | .siData => 0x10 | .siDone => 0x11

/-- The 16 data symbols of a line (09 R237). -/
def lineWords (d : Line) : List Word := (List.range 16).map (fun i => d.extractLsb' (32 * i) 32)

/-- The header of a packet (09 R236). -/
def packetHeader (op tag field addrHi : Nat) (poison locked strict : Bool) : Word :=
  BitVec.ofNat 32 (op + tag * 2 ^ 8 + field * 2 ^ 16 + poison.toNat * 2 ^ 20 + locked.toNat * 2 ^ 21 + strict.toNat * 2 ^ 22 +
    addrHi * 2 ^ 24)

/-- The two enable symbols of a mask. -/
def maskWords (m : Mask64) : List Word := [m.extractLsb' 0 32, m.extractLsb' 32 32]

/-- An out packet before its CRC (09 R236, R237). -/
def ArchPkt.symbols (p : ArchPkt) : List Word :=
  let hi := p.addr / 2 ^ 32 % 256
  let lo := BitVec.ofNat 32 p.addr
  match p.op with
  | .rdLine => [packetHeader 1 p.tag 0 hi false false false, lo]
  | .wrLine => packetHeader 2 p.tag 0 hi p.poison false false :: lo :: lineWords p.data
  | .wrMasked =>
    packetHeader 3 p.tag 0 hi p.poison false false :: lo :: (maskWords p.mask ++ lineWords (p.data &&& widenMask p.mask))
  | .devRd => [packetHeader 4 p.tag p.size hi false p.locked p.strict, lo]
  | .devWr =>
    if p.size = 3 then
      packetHeader 5 p.tag 3 hi false p.locked p.strict :: lo :: BitVec.ofNat 32 (p.mask.toNat % 256) :: (lineWords p.data).take 2
    else packetHeader 5 p.tag 6 hi false p.locked p.strict :: lo :: (maskWords p.mask ++ lineWords p.data)
  | .lockRelease => [packetHeader 6 0 p.status 0 false false false]
  | .siData =>
    packetHeader 0x10 p.tag p.status 0 p.poison false false :: (if p.status = 0 then lineWords p.data else [])
  | .siDone => [packetHeader 0x11 p.tag p.status 0 false false false]

/-- A link-layer message of an Archive link (09 R234). -/
def linkWord : LinkMsg → Word
  | .ack k => BitVec.ofNat 32 (0xF8 + k * 256)
  | .resync k => BitVec.ofNat 32 (0xF9 + k * 256)
  | .ready => 0xFA
  | .hello f => BitVec.ofNat 32 (0xFB + f * 2 ^ 16 + 2 ^ 24)

/-! What a link carries as symbols, CRC included: 8-bit symbols as numbers on Vitrine links, 32-bit symbols on Archive links. -/

/-- Does the link use 32-bit symbols (09 R230)? -/
def isArch : LinkId → Bool
  | .port _ => false | .arch _ => true | .pair => false

/-- Vitrine symbols with their CRC-8. -/
def withCrc8 (l : List Byte) : List Nat := (l ++ [crc8 l]).map BitVec.toNat

/-- Archive symbols with their CRC-32. -/
def withCrc32 (l : List Word) : List Nat := (l ++ [crc32 l]).map BitVec.toNat

/-- A numbered message as its link sends it; `tid` is the TID of a pair message. -/
def WireMsg.wire (m : WireMsg) (tid : Nat) : List Nat :=
  match m with
  | .down d => withCrc8 d.symbols
  | .pair p => withCrc8 (p.symbols (BitVec.ofNat 12 tid))
  | .arch a => withCrc32 a.symbols

/-- A link-layer message as its link sends it. -/
def linkWire (l : LinkId) (m : LinkMsg) : List Nat :=
  if isArch l then withCrc32 [linkWord m] else withCrc8 (linkSymbols m)

/-- What a received message is (03 R82 to R84, 09 R234, R235). -/
inductive RxState where
  | good | badCrc | framing
deriving DecidableEq, Repr

/-- The check of a message on a Vitrine link. -/
def rx8 (body : List Byte) : Rx → RxState
  | .framing => .framing
  | .crc c => if c = (crc8 body).setWidth 32 then .good else .badCrc

/-- The check of a message on an Archive link. -/
def rx32 (body : List Word) : Rx → RxState
  | .framing => .framing
  | .crc c => if c = crc32 body then .good else .badCrc

/-! Fields of requests. -/

/-- TOKEN of ATTR (04 R95). -/
def hHasToken (h : Hdr) : Bool := h.attr.getLsbD 7

/-- LOCKED of ATTR. -/
def hLocked (h : Hdr) : Bool := h.attr.getLsbD 6

/-- STREAM of ATTR. -/
def hStream (h : Hdr) : Bool := h.attr.getLsbD 5

/-- SIZE of a READ_UNC, ATTR[2:0] (04 R98). -/
def hSize3 (h : Hdr) : Nat := (h.attr.extractLsb' 0 3).toNat

/-- SIZE of a STORE_COND, ATTR[1:0] (04 R98). -/
def hSize2 (h : Hdr) : Nat := (h.attr.extractLsb' 0 2).toNat

/-- The token of a request, where it carries one (04 R97). -/
def hTokenOf (h : Hdr) : Option Nat := if h.attr.getLsbD 7 then some h.token.toNat else none

/-- A line at bytes `off` onwards taken from `n` bytes of data. -/
def shiftIn (data : Nat) (off : Nat) : Line := BitVec.ofNat 512 (data * 2 ^ (8 * off))

/-- The bytes of a line from an offset on, moved to offset 0. -/
def shiftOut (l : Line) (off : Nat) : Line := l >>> (8 * off)

end Sys2Proof.Machine
end

