-- ==== Sys2Proof/Machine/Send.lean ====
section
/-! DEFINITION. The sending side of every link: launching symbols, the replay buffer, LINK_ACK (03 R57 to R61, R80, R85, R86;
09 R234). -/

namespace Sys2Proof.Machine

/-- Messages a replay buffer holds (03 R85, 09 R234). -/
def replayDepth (l : LinkId) : Nat := if isArch l then 16 else 8

/-- Message numbers count modulo this (03 R80, 09 R234). -/
def numberMod (l : LinkId) : Nat := if isArch l then 32 else 16

/-- Delivered messages that call for a LINK_ACK at once (03 R86, 09 R234). -/
def ackBatch (l : LinkId) : Nat := if isArch l then 8 else 4

/-- Quad-rail groups of a direction: 4 on a Vitrine link, 16 on an Archive link (03 R57, 09 R230). -/
def groupsOf (l : LinkId) : Nat := if isArch l then 16 else 4

/-- Has the LINK_HELLO exchange ended at this end (03 R78)? -/
def LinkEnd.ended (e : LinkEnd) : Bool := e.phase == .up || e.phase == .leaving

/-- W, the symbols that may be unacknowledged: 4, or 8 on an Archive link, once both ends have announced short reach; otherwise 1 (03
R61, R67; 09 R230). -/
def LinkEnd.window (e : LinkEnd) (l : LinkId) : Nat := if e.ended && e.short then (if isArch l then 8 else 4) else 1

/-- Launch symbols on the outgoing rails, each only while fewer than W are unacknowledged (03 R57, R60, R61): all but the last W have been
acknowledged by the far end. -/
def State.launch (s : State) (l : LinkId) (syms : List Nat) : State :=
  s.modLink l (fun e =>
    let left := min (e.window l) (e.unacked + syms.length)
    { e with
      railsOut := railsAfter (groupsOf l) e.railsOut syms, ackIn := ackAfter e.ackIn (e.unacked + syms.length - left), unacked := left })

/-- Capture symbols: the incoming rails and the hub's acknowledges of them (03 R58, R60). -/
def State.capture (s : State) (l : LinkId) (syms : List Nat) : State :=
  s.modLink l (fun e =>
    { e with railsIn := railsAfter (groupsOf l) e.railsIn syms, ackOut := ackAfter e.ackOut syms.length })

/-- The far end's symbols up to a code violation or framing error: the row does not say how many were captured and acknowledged before
it, nor on which rails the receiver had moved its references, so both are free (03 R58, R60, R81, R82; assumption 80). -/
def State.captureSome (s : State) (l : LinkId) : State :=
  let n := s.free.2
  s.free.1.modLink l (fun e =>
    { e with railsIn := BitVec.ofNat 64 (n / 2 % 2 ^ (4 * groupsOf l)), ackOut := ackAfter e.ackOut n })

/-- The ready wire falls: every symbol in flight and the link layer's state go; what bars the next bring-up stays (03 R69, R76, R78,
R79). -/
def LinkEnd.lowered (e : LinkEnd) : LinkEnd := { phase := .down, backoff := e.backoff, barred := e.barred }

/-- Send a link-layer message (03 R77): never numbered, never held. -/
def State.sendLink (s : State) (l : LinkId) (m : LinkMsg) : State :=
  (s.launch l (linkWire l m)).emit (.link l m)

/-- Put a numbered message on the wire and in the replay buffer (03 R80, R85). -/
def State.transmit (s : State) (l : LinkId) (m : WireMsg) : State :=
  let s := s.launch l (m.wire (s.link l).txNext)
  let s := s.modLink l (fun e => { e with
    replay := e.replay ++ [m], txNext := (e.txNext + 1) % numberMod l, txSent := min (numberMod l) (e.txSent + 1) })
  s.emit (.msg l m)

/-- May the sender start a numbered message now (03 R85, R88)? -/
def LinkEnd.canSend (e : LinkEnd) (l : LinkId) : Bool :=
  e.phase == .up && e.txResync.isNone && e.replay.length < replayDepth l

/-- Send a numbered message, or let it wait for the replay buffer; on a link that is not up it is not sent (03 R69, R85). -/
def State.send (s : State) (l : LinkId) (m : WireMsg) : State :=
  let e := s.link l
  if e.phase ≠ .up then s
  else if e.canSend l && e.txQueue.isEmpty then s.transmit l m
  else s.setLink l { e with txQueue := e.txQueue ++ [m] }

/-- Send waiting messages while the replay buffer has room; `n` bounds how many. -/
def State.drainTx (s : State) (l : LinkId) : Nat → State
  | 0 => s
  | n + 1 =>
    let e := s.link l
    match e.txQueue with
    | [] => s
    | m :: rest => if e.canSend l then ((s.setLink l { e with txQueue := rest }).transmit l m).drainTx l n else s

/-- Send what the replay buffer has room for. -/
def State.pumpTx (s : State) (l : LinkId) : State := s.drainTx l (s.link l).txQueue.length

/-- Send a down message to a port. -/
def State.down (s : State) (n : Nat) (m : DownMsg) : State := s.send (portLink n) (.down m)

/-- Send LINK_ACK for the newest message delivered (03 R86, R88 step 7). DESIGN CHOICE (assumption 80): with none delivered yet, the number
before the first, 15 (31 on an Archive link). -/
def State.sendAck (s : State) (l : LinkId) : State :=
  (s.modLink l (fun e => { e with rxUnacked := 0 })).sendLink l (.ack (((s.link l).rxNext + numberMod l - 1) % numberMod l))

/-- A numbered message has been delivered: the count and the LINK_ACK that 4 (or 8) unacknowledged deliveries call for (03 R86); a
sender that waits for LINK_READY launches nothing (R88). -/
def State.delivered (s : State) (l : LinkId) : State :=
  let s := s.modLink l (fun e => { e with rxNext := (e.rxNext + 1) % numberMod l, rxUnacked := e.rxUnacked + 1 })
  if ackBatch l ≤ (s.link l).rxUnacked && (s.link l).txResync.isNone then s.sendAck l else s

end Sys2Proof.Machine
end

