-- ==== Sys2Proof/Machine/Catalogue.lean ====
section
/-! DEFINITION. The protected arrays (08 R213 to R219) and the catalogue of copies (05 R134 to R138, R159, R160). -/

namespace Sys2Proof.Machine

/-! Array words. -/

/-- The place of a word: array, unit and word address (08 R213). -/
def akey (a u w : Nat) : Nat := a * 2 ^ 24 + u * 2 ^ 16 + w

/-- What a word that nothing has written holds: an encoded 0; in the journal metadata all ones (08 R213, R457). -/
def arrayDefault (k : Nat) : Stored := if k / 2 ^ 24 = 4 then BitVec.allOnes 39 else 0

/-- A stored word. -/
def State.word (s : State) (a u w : Nat) : Stored := tget (arrayDefault (akey a u w)) s.arrays (akey a u w)

/-- Store data and check bits as given. -/
def State.setRaw (s : State) (a u w : Nat) (v : Stored) : State :=
  { s with arrays := tset (arrayDefault (akey a u w)) s.arrays (akey a u w) v }

/-- Store a data word with its check bits. -/
def State.setWord (s : State) (a u w : Nat) (d : Word) : State := s.setRaw a u w (encodeWord d)

/-- Is entry e of the correctable-error log the entry of this key (08 R218)? -/
def State.ceMatches (s : State) (e a u addr : Nat) : Bool :=
  let w := s.obj (K.ceWhere e)
  w.testBit 0 && w / 2 % 16 == a && w / 32 % 64 == u && s.obj (K.ceAddr e) == addr

/-- Event 18 where a trigger of R219 is met. -/
def State.ceJudge (s : State) : State :=
  let s := if s.ceArm && s.obj K.ceLogThreshold ≤ s.obj K.ceLogUsed then
      { s.raiseS 18 (s.obj K.ceLogUsed % 256) with ceArm := false } else s
  if s.ceUnlogArm && s.obj K.ceUnlogged != 0 then { s.raiseS 18 (s.obj K.ceLogUsed % 256) with ceUnlogArm := false } else s

/-- Report a correctable word or line to the log (08 R218): `field` is the corrected bit or chip. -/
def State.reportCe (s : State) (a u addr field : Nat) : State :=
  let s := s.bump (K.arrayCe a)
  let place := fun (e : Nat) (c first : Nat) (s : State) =>
    let s := s.setObj (K.ceWhere e) (1 + a * 2 + u * 32 + field * 2 ^ 11)
    let s := s.setObj (K.ceAddr e) addr
    let s := s.setObj (K.ceCount e) c
    let s := s.setObj (K.ceFirst e) first
    s.setObj (K.ceLast e) s.deviceTime
  match (List.range 32).find? (fun e => s.ceMatches e a u addr) with
  | some e => (place e (min 0xFFFFFFFF (s.obj (K.ceCount e) + 1)) (s.obj (K.ceFirst e)) s).ceJudge
  | none =>
    match (List.range 32).find? (fun e => !(s.objBit (K.ceWhere e) 0)) with
    | some e => (place e 1 s.deviceTime (s.setObj K.ceLogUsed (s.obj K.ceLogUsed + 1))).ceJudge
    | none => (s.bump K.ceUnlogged).ceJudge

/-- Read a word in operation (08 R217): a correctable word is corrected, written back, counted and reported; an uncorrectable one is
counted and answers none. -/
def State.readWord (s : State) (a u w : Nat) : State × Option Word :=
  match decodeWord (s.word a u w) with
  | .clean d => (s, some d)
  | .corrected d bit => ((s.setWord a u w d).reportCe a u w bit, some d)
  | .uncorrectable => (s.bump (K.arrayUe a), none)

/-! The catalogue. -/

/-- The bucket of a line (05 R130). -/
def bucketOf (line : Nat) : Nat := line % 64

/-- STATE codes of a catalogue entry. -/
def CatState.code : CatState → Nat
  | .free => 0 | .shared => 1 | .em => 2 | .owned => 3

/-- A STATE field. -/
def catStateOf : Nat → CatState
  | 0 => .free | 1 => .shared | 2 => .em | _ => .owned

/-- A catalogue entry as read. -/
structure CatEntry where
  port : Nat
  set : Nat
  way : Nat
  line : Nat
  st : CatState
  rank : Nat
  ppage : Nat
deriving DecidableEq, Repr

/-- The partition address under which the entry's port holds the line (05 R135). -/
def CatEntry.pa (e : CatEntry) : Nat := e.ppage * 4096 + e.line % 64 * 64

/-- Word address of an entry (08 R213). -/
def catAddr (set way : Nat) : Nat := (set * 4 + way) * 4

/-- An entry from its match and snoop words. -/
def entryOf (n set way : Nat) (w0 w1 : Word) (st : CatState) : CatEntry :=
  { port := n, set := set, way := way, line := (w0.extractLsb' 0 28).toNat * 64 + set % 64, st := st,
    rank := (w0.extractLsb' 30 2).toNat, ppage := (w1.extractLsb' 0 20).toNat }

/-- Write an entry; a free entry is all zero (05 R135). -/
def State.writeEntry (s : State) (e : CatEntry) : State :=
  let w0 : Word := BitVec.ofNat 32 (e.line / 64 + e.st.code * 2 ^ 28 + e.rank * 2 ^ 30)
  let w1 : Word := BitVec.ofNat 32 (e.ppage + e.st.code * 2 ^ 20)
  let a := catAddr e.set e.way
  ((s.setWord 1 e.port a w0).setWord 1 e.port (a + 1) w1).setWord 1 e.port (a + 2) (w0 ^^^ w1)

/-- Free an entry. -/
def State.freeEntry (s : State) (n set way : Nat) : State :=
  let a := catAddr set way
  ((s.setWord 1 n a 0).setWord 1 n (a + 1) 0).setWord 1 n (a + 2) 0

/-- What the three words of an entry show (05 R159, R160). -/
inductive CatRead where
  | free
  | good (e : CatEntry)
  | rebuilt (e : CatEntry)     -- to be recalled and freed
  | lost
deriving DecidableEq, Repr

/-- Judge the words of an entry (05 R159, R160): none stands for an uncorrectable word. Where the two STATE copies differ, the entry
counts in the state that loses most, EM or O before S. DEDUCED (assumption 84). -/
def judgeEntry (n set way : Nat) (w0 w1 w2 : Option Word) : CatRead :=
  let st := fun (a b : Word) => (catStateOf (a.extractLsb' 28 2).toNat, catStateOf (b.extractLsb' 20 2).toNat)
  let decide := fun (a b : Word) (fixed : Bool) =>
    match st a b with
    | (.free, .free) => if fixed then .rebuilt (entryOf n set way a b .free) else .free
    | (x, y) =>
      let dirty := fun (z : CatState) => z = .em ∨ z = .owned
      let held := if dirty x then x else if dirty y then y else if x = .free then y else x
      if x = y ∧ !fixed then .good (entryOf n set way a b x) else .rebuilt (entryOf n set way a b held)
  match w0, w1, w2 with
  | some a, some b, some _ => decide a b false
  | none, some b, some p => decide (b ^^^ p) b true
  | some a, none, some p => decide a (a ^^^ p) true
  | some a, some b, none => decide a b true
  | _, _, _ => .lost

/-- Read one entry, correcting what SEC-DED corrects. Words that nothing has written are free. -/
def State.readEntry (s : State) (n set way : Nat) : State × CatRead :=
  let a := catAddr set way
  if s.word 1 n a = 0 ∧ s.word 1 n (a + 1) = 0 ∧ s.word 1 n (a + 2) = 0 then (s, .free)
  else
    match s.readWord 1 n a with
    | (s, w0) =>
      match s.readWord 1 n (a + 1) with
      | (s, w1) =>
        match s.readWord 1 n (a + 2) with
        | (s, w2) => (s, judgeEntry n set way w0 w1 w2)

/-- The positions of a port's mirror sets of a bucket (05 R134). -/
def State.positions (s : State) (n bucket : Nat) : List (Nat × Nat) :=
  match (s.port n).l1 with
  | none => []
  | some (logSets, ways, _, _) =>
    (List.range (2 ^ logSets / 64)).flatMap (fun k => (List.range ways).map (fun w => (bucket + 64 * k, w)))

/-- A new transaction at a home slice, waiting for its line. -/
def State.newTxn (s : State) (t : Txn) : State :=
  { s with txns := s.txns ++ [{ t with id := s.nextTxn }], nextTxn := s.nextTxn + 1 }

/-- Is the port being reclaimed (05 R156)? -/
def State.reclaiming (s : State) (n : Nat) : Bool := (s.port n).reclaim != .idle

/-- The slice that serves a bucket now, fencing included (05 R131, R133; 15 R394). -/
def State.sliceOf (s : State) (line : Nat) : Nat :=
  tget (s.obj (K.bucketMap (bucketOf line))) s.bucketMap (bucketOf line)

/-- The conservative recall of a rebuilt entry that is freed (05 R159). -/
def State.recallRebuilt (s : State) (e : CatEntry) : State :=
  s.newTxn { id := 0, kind := .recallCat, line := e.line, slice := s.sliceOf e.line, port := e.port, pa := e.pa, part := s.partOf e.port
             entry := .waiting, owed := [{ port := e.port, inval := true, pa := e.pa, recorded := false, st := e.st }] }

/-- A rebuilt entry: it is freed and counted, and its line is recalled from its port (05 R159); `asked` is true when the lookup's own
transaction snoops the port. -/
def State.rebuild (s : State) (e : CatEntry) (asked : Bool) : State :=
  let s := s.bump K.catRebuilds
  if s.reclaiming e.port then s
  else
    let s := s.freeEntry e.port e.set e.way
    if e.st = .free ∨ asked then s
    else s.recallRebuilt e

/-- A lost entry: it is counted once, and its port is reclaimed as a dead agent (05 R160). -/
def State.loseEntry (s : State) (n set way : Nat) : State :=
  if s.lostEntries.contains (n, set, way) then s
  else
    let s := s.bump K.catLosses
    let s : State := { s with lostEntries := s.lostEntries ++ [(n, set, way)] }
    if s.doomed.contains n then s else { s with doomed := s.doomed ++ [n] }

/-- Read one position for a lookup of `line`: the entries found so far, with a flag on those that were rebuilt; `asks` says that the
lookup's own transaction snoops the port of a rebuilt entry, so that no recall is made for it (05 R159). -/
def lookupPosition (asks : Bool) (line n : Nat) (acc : State × List (CatEntry × Bool)) (q : Nat × Nat) :
    State × List (CatEntry × Bool) :=
  match acc.1.readEntry n q.1 q.2 with
  | (s, .free) => (s, acc.2)
  | (s, .good e) => (s, if e.line = line then acc.2 ++ [(e, false)] else acc.2)
  | (s, .rebuilt e) =>
    if asks ∧ e.line = line ∧ e.st ≠ .free then (s.rebuild e true, acc.2 ++ [(e, true)]) else (s.rebuild e false, acc.2)
  | (s, .lost) => (s.loseEntry n q.1 q.2, acc.2)

/-- The capacity recalls of a line that do not own it yet: until they do, each counts as its port's entry (05 R137 step 2). -/
def State.movedEntries (s : State) (line : Nat) : List CatEntry :=
  (s.txns.filter (fun t => t.kind == .recallCapacity && t.line == line && t.phase == .queued)).flatMap (fun t =>
    t.owed.map (fun o => { port := o.port, set := 0, way := 0, line := line, st := o.st, rank := 0, ppage := o.pa / 4096 }))

/-- The entries of every port that record a line, moved ones among them (05 R134, R137). -/
def State.holders (s : State) (line : Nat) (asks : Bool) : State × List (CatEntry × Bool) :=
  match (List.range 48).foldl (fun acc n => (acc.1.positions n (bucketOf line)).foldl (lookupPosition asks line n) acc)
      ((s, []) : State × List (CatEntry × Bool)) with
  | (s, l) => (s, l ++ (s.movedEntries line).map (fun e => (e, false)))

/-- The entry of one port for a line, in the mirror sets. -/
def State.entryFor (s : State) (n line : Nat) : State × Option CatEntry :=
  match (s.positions n (bucketOf line)).foldl (lookupPosition false line n) (s, []) with
  | (s, l) => (s, (l.map (·.1)).head?)

/-- The state recorded for a port and a line, in its entry or in a capacity recall that does not own the line yet (05 R137). -/
def State.recordedAs (s : State) (n line : Nat) : State × CatState :=
  match s.entryFor n line with
  | (s, some e) => (s, e.st)
  | (s, none) =>
    (s, match (s.movedEntries line).find? (fun e => e.port == n) with
      | some e => e.st
      | none => .free)

/-- The entries of a mirror set that are not free (good words only). -/
def State.mirrorSet (s : State) (n set : Nat) : State × List CatEntry :=
  let ways := match (s.port n).l1 with
    | some (_, w, _, _) => w
    | none => 0
  (List.range ways).foldl (fun acc w =>
    match acc.1.readEntry n set w with
    | (s, .good e) => (s, acc.2 ++ [e])
    | (s, .rebuilt e) => (s.rebuild e false, acc.2)
    | (s, .lost) => (s.loseEntry n set w, acc.2)
    | (s, .free) => (s, acc.2)) (s, [])

/-- The mirror set of a line that port n installs under partition address pa (04 R109). -/
def State.mirrorIndex (s : State) (n pa : Nat) : Nat :=
  match (s.port n).l1 with
  | some (logSets, _, _, _) => pa / 64 % 2 ^ logSets
  | none => pa / 64 % 64

/-- The state of a copy whose entry has moved into a capacity recall changes; with the copy gone the recall has nothing to snoop (05
R137). -/
def State.reportMoved (s : State) (n line : Nat) (st : CatState) : State :=
  { s with txns := s.txns.map (fun t =>
      if t.kind = .recallCapacity ∧ t.line = line ∧ t.phase = .queued then
        { t with owed := if st = .free then t.owed.filter (fun o => o.port != n)
                         else t.owed.map (fun o => if o.port = n then { o with st := st } else o) }
      else t) }

/-- Free a port's entry for a line. -/
def State.dropLine (s : State) (n line : Nat) : State :=
  match s.entryFor n line with
  | (s, some e) => (s.freeEntry n e.set e.way).reportMoved n line .free
  | (s, none) => s.reportMoved n line .free

/-- Record the state that a snoop answer reports for a port that the catalogue records (05 R136). -/
def State.reportState (s : State) (n line : Nat) (st : CatState) : State :=
  match s.entryFor n line with
  | (s, some e) => if st = .free then s.freeEntry n e.set e.way else s.writeEntry { e with st := st }
  | (s, none) => s.reportMoved n line st

/-- Record a line for a port (05 R136, R137): the entry takes the lowest free way of its mirror set as the newest; with no free way, the
entry of highest rank, lowest way first, is recalled. DESIGN CHOICE (assumption 67): with a free way every other entry's RANK rises by
1 up to 3, on a capacity recall only those below the victim's; freeing an entry moves no RANK. -/
def State.recordLine (s : State) (n line pa : Nat) (st : CatState) : State :=
  let s := s.dropLine n line
  let set := s.mirrorIndex n pa
  let ways := match (s.port n).l1 with
    | some (_, w, _, _) => w
    | none => 0
  match s.mirrorSet n set with
  | (s, es) =>
    let es := es.filter (fun e => e.line != line)
    let used := es.map (·.way)
    let age := fun (s : State) (l : List CatEntry) (r : Nat) =>
      l.foldl (fun s e => if e.rank < r then s.writeEntry { e with rank := min 3 (e.rank + 1) } else s) s
    match (List.range ways).find? (fun w => !(used.contains w)) with
    | some w =>
      let s := age s es 4
      s.writeEntry { port := n, set := set, way := w, line := line, st := st, rank := 0, ppage := pa / 4096 }
    | none =>
      let top := es.foldl (fun m e => max m e.rank) 0
      match es.find? (fun e => e.rank == top) with
      | none => s
      | some v =>
        let s := s.bump (K.capacityRecalls n)
        let s := s.newTxn { id := 0, kind := .recallCapacity, line := v.line, slice := s.sliceOf v.line, port := n, pa := v.pa,
                            part := s.partOf n, entry := .waiting
                            owed := [{ port := n, inval := true, pa := v.pa, recorded := false, st := v.st }] }
        let s := age s (es.filter (fun e => e.way != v.way)) v.rank
        s.writeEntry { port := n, set := set, way := v.way, line := line, st := st, rank := 0, ppage := pa / 4096 }

/-- Entries of a port that are not free, for CAT_ENTRIES (05 R161). -/
def State.catCount (s : State) (n : Nat) : Nat :=
  (s.arrays.filter (fun w => w.1 / 2 ^ 16 == 0x100 + n && w.1 % 4 == 0 && (storedData w.2).extractLsb' 28 2 != 0)).length

/-- Is every catalogue entry free? -/
def State.catEmpty (s : State) : Bool :=
  !(s.arrays.any (fun w => w.1 / 2 ^ 24 == 1 && w.1 % 4 == 0 && (storedData w.2).extractLsb' 28 2 != 0))

/-- The entries of a port as their words decode, without the side effects of an access: for what only looks (05 R158), and for walks
that follow a read of every entry (State.sweepPort). -/
def State.entriesOf (s : State) (n : Nat) : List CatEntry :=
  (s.arrays.filter (fun w => w.1 / 2 ^ 16 == 0x100 + n && w.1 % 4 == 0)).filterMap (fun w =>
    let a := w.1 % 2 ^ 16
    let data := fun (k : Nat) => match decodeWord (s.word 1 n k) with
      | .clean d => some d
      | .corrected d _ => some d
      | .uncorrectable => none
    match judgeEntry n (a / 16) (a / 4 % 4) (data a) (data (a + 1)) (data (a + 2)) with
    | .good e => some e
    | .rebuilt e => if e.st = .free then none else some e
    | .free => none
    | .lost => none)

/-- Read every entry of a port that some word of the catalogue shows, with the corrections, counts and recalls of a read (05 R159, R160;
08 R217), and answer the entries found. -/
def State.sweepPort (s : State) (n : Nat) : State × List CatEntry :=
  let places := ((s.arrays.filter (fun w => w.1 / 2 ^ 16 == 0x100 + n)).map (fun w => w.1 % 2 ^ 16 / 4)).eraseDups
  places.foldl (fun acc k =>
    match acc.1.readEntry n (k / 4) (k % 4) with
    | (s, .free) => (s, acc.2)
    | (s, .good e) => (s, acc.2 ++ [e])
    | (s, .rebuilt e) => (s.rebuild e false, if s.reclaiming n && e.st != .free then acc.2 ++ [e] else acc.2)
    | (s, .lost) => (s.loseEntry n (k / 4) (k % 4), acc.2)) (s, [])

end Sys2Proof.Machine
end

