-- ==== Sys2Proof/Machine/L2.lean ====
section
/-! DEFINITION. The second-level array: slots, rows and tags, replacement, failing ways (06), and the commands of the data channels
with their merge buffers (07 R190 to R206). -/

namespace Sys2Proof.Machine

/-! Data channels. -/

/-- The marks of slots and requests beside the partitions 0 to 15: the reserved class (10 R280). -/
def reservedMark : Nat := 16

/-- The Conservator's commands (14 R370). -/
def consMark : Nat := 17

/-- A slot that stays idle while commands wait (10 R283 step 4). -/
def idleMark : Nat := 18

/-- A slot of a background calibration (14 R370, rank 1). -/
def calMark : Nat := 19

/-- Is the channel serving, so that its two ways are available (06 R165)? -/
def State.chanServes (s : State) (c : Nat) : Bool := (s.chan c).state == .serving && s.pd 10

/-- Does the entry touch beat b? -/
def touchesBeat (m : Mask64) (b : Nat) : Bool := (m &&& byteRange (16 * b) 16) != 0

/-- Is every beat that the mask touches fully covered (07 R203)? -/
def beatsWhole (m : Mask64) : Bool :=
  (List.range 4).all (fun b => (m &&& byteRange (16 * b) 16) == 0 || (m &&& byteRange (16 * b) 16) == byteRange (16 * b) 16)

/-- The mask of the beats that a mask touches. -/
def touchedBeats (m : Mask64) : Mask64 :=
  (List.range 4).foldl (fun a b => if touchesBeat m b then a ||| byteRange (16 * b) 16 else a) 0

/-- The beats that a write sends: those its mask touches, each with its check symbols (07 R192, R196, R203). -/
def beatsOf (m : Mask64) (d : Line) : List (Nat × Beat) :=
  ((List.range 4).filter (touchesBeat m)).map (fun b => (b, rsEncode (d.extractLsb' (128 * b) 128)))

/-- Is a command for the burst address queued? -/
def ChanSt.queued (h : ChanSt) (ba : Nat) : Bool := h.queue.any (fun x => x.ba == ba)

/-- The merge entry of a burst address (07 R204). -/
def ChanSt.entry (h : ChanSt) (ba : Nat) : Option MergeEntry := h.merge.find? (fun m => m.ba == ba)

/-- A command arrives at its channel: one of the foreground that arrives during a calibration hold counts a CAL_STALL (07 R210, 14
R371). -/
def State.chanPut (s : State) (c : Nat) (x : ChanCmd) : State :=
  let s := if (s.chan c).hold && x.who != consMark then s.bump (K.calStall c) else s
  s.modChan c (fun h => { h with queue := h.queue ++ [x] })

/-- A command of a merge entry goes before every queued command of its burst address, because the entry is older (07 R194). -/
def ChanSt.putFirst (h : ChanSt) (x : ChanCmd) : ChanSt :=
  { h with queue := h.queue.takeWhile (fun y => y.ba != x.ba) ++ x :: h.queue.dropWhile (fun y => y.ba != x.ba) }

/-- Read a burst (07 R191). -/
def State.chanRead (s : State) (c ba : Nat) (why : ReadWhy) (who : Nat) : State := s.chanPut c { ba := ba, op := .read why, who := who }

/-- Write a whole line (07 R203); `fills` names the line of a fill. -/
def State.chanFull (s : State) (c ba who : Nat) (data : Line) (fills : Option Nat := none) : State :=
  s.chanPut c { ba := ba, op := .write fullMask data, who := who, fills := fills }

/-- Write an entry as at timeout: at once when every touched beat is whole, otherwise by a read-modify-write, which counts one
MERGE_RMW (07 R205, R206). During a calibration hold the trigger waits (R210). -/
def State.mergeFlush (s : State) (c : Nat) (m : MergeEntry) : State :=
  if m.flushing then s
  else if (s.chan c).hold then
    s.modChan c (fun h => { h with merge := h.merge.map (fun x => if x.ba = m.ba then { x with due := true } else x) })
  else if beatsWhole m.mask then
    s.modChan c (fun h => ({ h with merge := h.merge.filter (fun x => x.ba != m.ba) } : ChanSt).putFirst
      { ba := m.ba, op := .write m.mask m.data, who := m.who })
  else
    (s.bump (K.mergeRmw c)).modChan c (fun h => ({ h with
      merge := h.merge.map (fun x => if x.ba = m.ba then { x with flushing := true, due := false } else x) } : ChanSt).putFirst
      { ba := m.ba, op := .read .merge, who := m.who, rmw := true })

/-- A write reaches the merge buffer at an entry of its burst address: it merges (07 R204), and an entry of whole beats is written
(R205). -/
def State.mergeInto (s : State) (c : Nat) (m : MergeEntry) (mask : Mask64) (data : Line) : State :=
  let m' : MergeEntry := { m with mask := m.mask ||| mask, data := overlay m.data data mask }
  let s := s.modChan c (fun h => { h with merge := h.merge.map (fun x => if x.ba = m.ba then m' else x) })
  if beatsWhole m'.mask then s.mergeFlush c m' else s

/-- Does the merge buffer have a free entry (07 R204)? -/
def ChanSt.room (h : ChanSt) : Bool := h.merge.length < 4

/-- A new entry of the merge buffer (07 R204). DEDUCED (assumption 81): its slots are charged as the write that opened it. -/
def State.mergeOpen (s : State) (c ba line who : Nat) (mask : Mask64) (data : Line) : State :=
  s.modChan c (fun h => { h with merge := h.merge ++ [{ ba := ba, mask := mask, data := data, line := line, who := who }] })

/-- All four entries are in use and a write needs a new one: the oldest is written as at timeout (07 R205). -/
def State.flushOldest (s : State) (c : Nat) : State :=
  match (s.chan c).merge with
  | m :: _ => s.mergeFlush c m
  | [] => s

/-- A write of some bytes of a line (07 R203 to R205): direct where its beats are whole and no entry is there, or into the merge buffer;
behind an earlier command of its burst address, or without a free entry, it waits in the queue. -/
def State.chanWrite (s : State) (c ba line who : Nat) (mask : Mask64) (data : Line) : State :=
  if mask = fullMask then s.chanFull c ba who data
  else if (s.chan c).queued ba then s.chanPut c { ba := ba, op := .store line mask data, who := who }
  else
    match (s.chan c).entry ba with
    | some m => s.mergeInto c m mask data
    | none =>
      if beatsWhole mask then s.chanPut c { ba := ba, op := .write mask data, who := who }
      else if (s.chan c).room then s.mergeOpen c ba line who mask data
      else (s.flushOldest c).chanPut c { ba := ba, op := .store line mask data, who := who }

/-- Reads that their burst no longer answers (07 R200, R201): a demand read is served as a miss, a poison write looks its line up again,
and a row is visited but not read. -/
def Txn.missedRead (t : Txn) : Txn :=
  match t.phase with
  | .chanRead =>
    if t.kind = .scrubRow ∨ t.kind = .patrolRow then { t with phase := .done, way := 16 } else { t with phase := .missed, way := 16 }
  | .poisonRead => { t with phase := .poisonWait, way := 16 }
  | .queued | .snooping | .lookup | .missed | .memRead | .memWrite | .retryGap | .granted | .poisonWait | .poisonWrite | .afterWrite
  | .answering | .done => t

/-- Discard what the merge buffer holds, or is to take, for a burst address (07 R205). The reads that waited for those bytes are served as
misses, because memory holds them (01 R11). -/
def State.mergeDiscard (s : State) (c ba : Nat) : State :=
  let h := s.chan c
  let isStore := fun (x : ChanCmd) => match x.op with
    | .store _ _ _ => true
    | .read _ | .write _ _ => false
  if (h.entry ba).isNone && !(h.queue.any (fun x => x.ba == ba && isStore x)) then s
  else
    let dead := h.queue.filterMap (fun x => match x.op with
      | .read (.txn id) => if x.ba = ba then some id else none
      | .read .merge | .read .unused | .write _ _ | .store _ _ _ => none)
    let gone := fun (x : ChanCmd) => x.ba == ba && (x.rmw || isStore x || (match x.op with
      | .read _ => true
      | .write _ _ | .store _ _ _ => false))
    let s := s.modChan c (fun h => { h with
      merge := h.merge.filter (fun m => m.ba != ba), queue := h.queue.filter (fun x => !(gone x))
      reads := h.reads.map (fun r => if r.1 = ba ∧ r.2 = .merge then (ba, .unused) else r) })
    { s with txns := s.txns.map (fun t => if dead.contains t.id then t.missedRead else t) }

/-- Discard what the merge buffer of a channel holds, or is to take, for the burst addresses and lines that `hit` names. -/
def State.mergeDrop (s : State) (c : Nat) (hit : Nat → Nat → Bool) : State :=
  let h := s.chan c
  let bas := (h.merge.filter (fun m => hit m.ba m.line)).map (·.ba) ++ h.queue.filterMap (fun x => match x.op with
    | .store line _ _ => if hit x.ba line then some x.ba else none
    | .read _ | .write _ _ => none)
  bas.foldl (fun s ba => s.mergeDiscard c ba) s

/-- The reads that a channel owes: those in flight and those queued. -/
def ChanSt.owedReads (h : ChanSt) : List ReadWhy :=
  h.reads.map (·.2) ++ h.queue.filterMap (fun x => match x.op with
    | .read why => some why
    | .write _ _ | .store _ _ _ => none)

/-- A channel that takes no commands any more: its queue, its reads and its merge buffer are empty (07 R200, R208). -/
def ChanSt.stopped (h : ChanSt) (st : ChanState) : ChanSt :=
  { h with state := st, dllen := false, reads := [], queue := [], merge := [], hold := false, calDue := false, calFinds := none }

/-! Slots and rows. -/

/-- Sets per bucket B by the capacity in force (06 R162). -/
def State.setsPerBucket (s : State) : Nat := 128 * 2 ^ s.inForce.l2cap

/-- The buckets a slice serves, ascending (06 R163). -/
def State.bucketsOf (s : State) (h : Nat) : List Nat := (List.range 64).filter (fun b => s.sliceOf b == h)

/-- The place of a bucket in a list. -/
def placeOf (b : Nat) : List Nat → Nat
  | [] => 0
  | x :: t => if x = b then 0 else placeOf b t + 1

/-- n rounded up to a power of two, at most 16 (06 R163). -/
def slotShare (n : Nat) : Nat := if n ≤ 1 then 1 else if n ≤ 2 then 2 else if n ≤ 4 then 4 else if n ≤ 8 then 8 else 16

/-- Where a line's set is: slice, row and effective sets per bucket; none where its bucket holds no L2 lines (06 R163). -/
structure SetPlace where
  slice : Nat
  row : Nat
  eff : Nat
deriving DecidableEq, Repr

/-- The set of a line (06 R163). -/
def State.setOf (s : State) (line : Nat) : Option SetPlace :=
  let h := s.sliceOf line
  let bs := s.bucketsOf h
  let j := placeOf (bucketOf line) bs
  let rows := 2048 / slotShare bs.length
  let e := min s.setsPerBucket rows
  if 16 ≤ j then none else some { slice := h, row := j * rows + line / 64 % e, eff := e }

/-- Where a bucket's lines lie: slice, slot, rows of a slot and effective sets (06 R163). -/
def State.slotOf (s : State) (b : Nat) : Nat × Nat × Nat × Nat :=
  let h := s.sliceOf b
  let bs := s.bucketsOf h
  let rows := 2048 / slotShare bs.length
  (h, placeOf b bs, rows, min s.setsPerBucket rows)

/-- The bucket served by another slice. -/
def State.withSlice (s : State) (b h : Nat) : State :=
  { s with bucketMap := if h = s.obj (K.bucketMap b) then tdel b s.bucketMap else tput h b s.bucketMap }

/-- The buckets whose place changes with a move: the moved one and those of the two slices whose slot or E changes (06 R164). DEDUCED
(assumption 73): a bucket whose rows per slot (2048/P) change counts too, slot 0 included. -/
def State.movedBuckets (s : State) (b h : Nat) : List Nat :=
  let s' := s.withSlice b h
  (List.range 64).filter (fun x => s.slotOf x != s'.slotOf x)

/-- Must new requests for the line wait at the port: is its bucket part of the move in progress (05 R133 step 1)? -/
def State.moveHolds (s : State) (line : Nat) : Bool :=
  match s.moving with
  | [] => false
  | (b, h) :: _ => (s.movedBuckets b h).contains (bucketOf line)

/-- The burst address of a line in way w (07 R190). -/
def State.burst (s : State) (line w : Nat) : Nat :=
  let e := match s.setOf line with
    | some p => p.eff
    | none => 1
  2 * (bucketOf line * s.setsPerBucket + line / 64 % e) + w / 8

/-- A tag word's fields (06 R166). -/
structure TagWord where
  tag : Nat := 0
  valid : Bool := false
  age : Nat := 0
  locked : Bool := false
  stream : Bool := false
  owner : Nat := 0
deriving DecidableEq, Repr

/-- The fields of a word. -/
def tagOf (d : Word) : TagWord :=
  { tag := (d.extractLsb' 0 21).toNat, valid := d.getLsbD 21, age := (d.extractLsb' 22 3).toNat, locked := d.getLsbD 25,
    stream := d.getLsbD 26, owner := (d.extractLsb' 28 4).toNat }

/-- The word of the fields. -/
def TagWord.word (t : TagWord) : Word :=
  BitVec.ofNat 32 (t.tag % 2 ^ 21 + t.valid.toNat * 2 ^ 21 + t.age * 2 ^ 22 + t.locked.toNat * 2 ^ 25 + t.stream.toNat * 2 ^ 26 +
    t.owner * 2 ^ 28)

/-- Is the hub's L2 in use: in Retain, while CLK moves, and while the calibration at the start of a Drain runs, every lookup misses
(14 R363, R366)? -/
def State.l2On (s : State) : Bool := s.mode != .retain && !s.missAll

/-- Is way w of slice h enabled: neither disabled nor on an unavailable channel (06 R173)? -/
def State.wayOn (s : State) (h w : Nat) : Bool := !(s.objBit (K.wayDisabled h) w) && s.chanServes (w % 8)

/-- Invalidate a way of a row; a merge entry at its burst address goes (06 R177, 07 R205). -/
def State.dropWay (s : State) (p : SetPlace) (bucket w : Nat) : State :=
  let s := s.setWord 0 p.slice (p.row * 16 + w) 0
  let rows := 2048 / slotShare (s.bucketsOf p.slice).length
  s.mergeDiscard (w % 8) (2 * (bucket * s.setsPerBucket + p.row % rows) + w / 8)

/-- Invalidate every line of way w in slice h, locks included, with the merge entries of those lines. -/
def State.clearWay (s : State) (h w : Nat) : State :=
  let s := { s with arrays := s.arrays.filter (fun x => !(x.1 / 2 ^ 16 == h && x.1 % 16 == w)) }
  s.mergeDrop (w % 8) (fun ba line => ba % 2 == w / 8 && s.sliceOf line == h)

/-- One error is attributed to a way; at the threshold the way is disabled (06 R184). The count and the threshold of its window are
kept together. -/
def State.wayError (s : State) (h w : Nat) : State :=
  if s.objBit (K.wayDisabled h) w then s
  else
    let k := h * 16 + w
    let v := tget 0 s.wayErrs k
    let limit := if v = 0 then s.obj K.wayErrThreshold else v % 256
    let count := v / 256 + 1
    if limit ≤ count then
      let s := { s with wayErrs := tset 0 s.wayErrs k 0 }
      ((s.clearWay h w).setObjBit (K.wayDisabled h) w true).raiseS 24 (h + w * 256)
    else { s with wayErrs := tset 0 s.wayErrs k (count * 256 + limit) }

/-- Read one tag word: an error is attributed to its way, and an uncorrectable word invalidates it (08 R217, 06 R184). -/
def State.readTag (s : State) (p : SetPlace) (bucket w : Nat) : State × TagWord :=
  let a := p.row * 16 + w
  match decodeWord (s.word 0 p.slice a) with
  | .clean d => (s, tagOf d)
  | .corrected d _ => (((s.readWord 0 p.slice a).1.wayError p.slice w), tagOf d)
  | .uncorrectable => ((((s.readWord 0 p.slice a).1.dropWay p bucket w).wayError p.slice w), {})

/-- Read the 16 tag words of a set. -/
def State.readRow (s : State) (p : SetPlace) (bucket : Nat) : State × List TagWord :=
  (List.range 16).foldl (fun acc w =>
    match acc.1.readTag p bucket w with
    | (s, t) => (s, acc.2 ++ [t])) (s, [])

/-- Write a tag word. -/
def State.writeTag (s : State) (p : SetPlace) (w : Nat) (t : TagWord) : State := s.setWord 0 p.slice (p.row * 16 + w) t.word

/-- What an L2 lookup finds: the set, its tag words and the way that holds the line. -/
structure Lookup where
  place : Option SetPlace := none
  row : List TagWord := []
  way : Option Nat := none
deriving DecidableEq, Repr

/-- Does way w of the line's set hold the line, by its tag word as stored? -/
def State.holdsLine (s : State) (line w : Nat) : Bool :=
  match s.setOf line with
  | none => false
  | some p =>
    match decodeWord (s.word 0 p.slice (p.row * 16 + w)) with
    | .clean d | .corrected d _ => (tagOf d).valid && (tagOf d).tag == line / 64 / p.eff
    | .uncorrectable => false

/-- Is way w of the line's set free of any line, by its tag word as stored? -/
def State.wayEmpty (s : State) (line w : Nat) : Bool :=
  match s.setOf line with
  | none => false
  | some p =>
    match decodeWord (s.word 0 p.slice (p.row * 16 + w)) with
    | .clean d | .corrected d _ => !(tagOf d).valid
    | .uncorrectable => false

/-- Look a line up (06 R163, R166); without counting. -/
def State.l2Probe (s : State) (line : Nat) : State × Lookup :=
  if !s.l2On then (s, {})
  else
    match s.setOf line with
    | none => (s, {})
    | some p =>
      match s.readRow p (bucketOf line) with
      | (s, row) =>
        let way := (List.range 16).find? (fun w =>
          match row[w]? with
          | some t => t.valid && t.tag == line / 64 / p.eff && s.wayOn p.slice w
          | none => false)
        (s, { place := some p, row := row, way := way })

/-- A counted lookup: one HITS or MISSES. -/
def State.l2Lookup (s : State) (line : Nat) : State × Lookup :=
  match s.l2Probe line with
  | (s, l) => (s.bump (if l.way.isSome then K.hits (s.sliceOf line) else K.misses (s.sliceOf line)), l)

/-- The tag word of a way. -/
def Lookup.tagAt (l : Lookup) (w : Nat) : TagWord := (l.row[w]?).getD {}

/-- A use of a hit line sets AGE to 0 and clears STREAM (06 R172). -/
def State.touch (s : State) (l : Lookup) (w : Nat) : State :=
  match l.place with
  | some p => s.writeTag p w { l.tagAt w with age := 0, stream := false }
  | none => s

/-- Write data of a line that hits (06 R167); `use` says whether it is a use of the line (R172), `who` whose slot it takes. -/
def State.l2Write (s : State) (line who : Nat) (mask : Mask64) (data : Line) (use : Bool) : State :=
  match s.l2Lookup line with
  | (s, l) =>
    match l.way with
    | none => s
    | some w =>
      let s := if use then s.touch l w else s
      s.chanWrite (w % 8) (s.burst line w) line who mask data

/-- Invalidate a line in the L2, its lock included (06 R168, R177). -/
def State.l2Inval (s : State) (line : Nat) : State :=
  match s.l2Probe line with
  | (s, l) =>
    match l.place, l.way with
    | some p, some w => s.dropWay p (bucketOf line) w
    | _, _ => s

/-- The victim of a set among the ways of a mask, with the row after ageing (06 R173). -/
def State.victim (s : State) (p : SetPlace) (row : List TagWord) (mask : Nat) : Option (Nat × List TagWord) :=
  let tag := fun (w : Nat) => (row[w]?).getD {}
  let elig := (List.range 16).filter (fun w => s.wayOn p.slice w && mask.testBit w && !(tag w).locked)
  match elig with
  | [] => none
  | _ =>
    match elig.find? (fun w => !(tag w).valid) with
    | some w => some (w, row)
    | none =>
      let top := elig.foldl (fun m w => max m (tag w).age) 0
      let row' := (List.range 16).map (fun w =>
        let t := tag w
        if s.wayOn p.slice w && t.valid && !t.locked then { t with age := min 7 (t.age + (7 - top)) } else t)
      (elig.find? (fun w => (((row'[w]?).getD {}).age == 7))).map (fun w => (w, row'))

/-- Place a line in a way: the old line leaves, and the tag word and the data are written (06 R171, R172). -/
def State.place (s : State) (p : SetPlace) (w line who : Nat) (old : TagWord) (t : TagWord) (data : Line) : State :=
  let s := if old.valid && old.stream then s.bump (K.streamUnused p.slice) else s
  let s := s.writeTag p w { t with tag := line / 64 / p.eff, valid := true }
  s.chanFull (w % 8) (s.burst line w) who data (some line)

/-- Fill a line for a partition (06 R170, R171, R173): FILLS_SKIPPED counts a fill that was due and finds no way. -/
def State.l2Fill (s : State) (line part who mask age : Nat) (stream locked : Bool) (data : Line) : State × Bool :=
  if !s.l2On then (s, false)
  else
    match s.setOf line with
    | none => (s, false)
    | some p =>
      match s.readRow p (bucketOf line) with
      | (s, row) =>
        match s.victim p row mask with
        | none => (s.bump (K.fillsSkipped p.slice), false)
        | some (w, row') =>
          let s := (List.range 16).foldl (fun s v =>
            if row'[v]? = row[v]? then s else s.writeTag p v ((row'[v]?).getD {})) s
          (s.place p w line who ((row'[w]?).getD {}) { age := age, stream := stream, locked := locked, owner := part } data, true)

/-- Allocate a written-back line (06 R175): with no eligible way nothing is placed, and no fill is counted as skipped. -/
def State.victimFill (s : State) (line part : Nat) (data : Line) : State :=
  if !s.l2On then s
  else
    match s.setOf line with
    | none => s
    | some p =>
      match s.readRow p (bucketOf line) with
      | (s, row) =>
        match s.victim p row (s.obj (K.wayAlloc part)) with
        | none => s
        | some (w, row') =>
          let s := (List.range 16).foldl (fun s v =>
            if row'[v]? = row[v]? then s else s.writeTag p v ((row'[v]?).getD {})) s
          (s.place p w line reservedMark ((row'[w]?).getD {}) { age := 4, owner := part } data).bump (K.victimAllocs p.slice)

/-- Refill a repaired line into the same way, keeping AGE, LOCKED and OWNER (06 R178). -/
def State.l2Refill (s : State) (line w who : Nat) (t : TagWord) (data : Line) : State :=
  match s.setOf line with
  | none => s
  | some p => s.place p w line who {} t data

/-- Invalidate every tag of every slice, ages 0 and locks clear (06 R183). -/
def State.invalTags (s : State) : State :=
  let s := { s with arrays := s.arrays.filter (fun x => x.1 / 2 ^ 24 != 0) }
  (List.range 8).foldl (fun s c => s.mergeDrop c (fun _ _ => true)) s

/-- Invalidate the tags of a slice (06 R164). -/
def State.invalSlice (s : State) (h : Nat) : State :=
  let s := { s with arrays := s.arrays.filter (fun x => x.1 / 2 ^ 16 != h) }
  (List.range 8).foldl (fun s c => s.mergeDrop c (fun _ line => s.sliceOf line == h)) s

/-- Lines that a partition owns with LOCKED set (06 R177). -/
def State.lockedLines (s : State) (p : Nat) : Nat :=
  (s.arrays.filter (fun x =>
    let t := tagOf (storedData x.2)
    x.1 / 2 ^ 24 == 0 && t.valid && t.locked && t.owner == p)).length

end Sys2Proof.Machine
end

