-- ==== Sys2Proof/Machine/Archive.lean ====
section
/-! DEFINITION. Where system addresses go (09 R239 to R243, 10 R276) and the queue of each Archive link: arbitration, tags and issue
(09 R244, R254; 10 R280 to R284). -/

namespace Sys2Proof.Machine

/-- Where an access goes (09 R239). -/
inductive Route where
  | console
  | device (k : Nat)
  | normal
deriving DecidableEq, Repr

/-- Entry e of the target map under an epoch, where the address lies in it (09 R243). -/
def State.inRegion (s : State) (epoch e addr : Nat) : Bool :=
  let size := s.objAt epoch (K.drSize e)
  size != 0 && addr / 2 ^ size == s.objAt epoch (K.drBase e) / 2 ^ size

/-- The target map entry of an address: the lowest-numbered one that holds it (09 R243). -/
def State.regionEntry (s : State) (epoch addr : Nat) : Option Nat := (List.range 32).find? (fun e => s.inRegion epoch e addr)

/-- The link of the device region of an address (09 R243). -/
def State.region (s : State) (epoch addr : Nat) : Option Nat :=
  (s.regionEntry epoch addr).map (fun e => s.objAt epoch (K.drLink e))

/-- The size of the console window (10 R276). -/
def consoleSize : Nat := 2 ^ 24

/-- Route a system address (09 R239). -/
def State.route (s : State) (epoch addr : Nat) : Route :=
  if s.inForce.console ≤ addr && addr < s.inForce.console + consoleSize then .console
  else
    match s.region epoch addr with
    | some k => .device k
    | none => .normal

/-- Is link k enabled in the configuration in force? -/
def State.mlEnabled (s : State) (k : Nat) : Bool := s.inForce.mlEnable.testBit k

/-- The other link of a dual pair (09 R241). -/
def State.partner (s : State) (k : Nat) : Option Nat :=
  if s.inForce.mlDual.testBit (k / 2) then some (if k % 2 = 0 then k + 1 else k - 1) else none

/-- Does link k serve (09 R232)? -/
def State.mlServes (s : State) (k : Nat) : Bool := (s.ml k).state == .serving

/-- Does link k have a dual partner that serves? -/
def State.partnerServes (s : State) (k : Nat) : Bool :=
  match s.partner k with
  | some j => s.mlServes j
  | none => false

/-- The link that carries the traffic of link k: its dual partner from its fencing until it serves again (09 R241, 15 R395). -/
def State.carrier (s : State) (k : Nat) : Nat :=
  if (s.ml k).away then (s.partner k).getD k else k

/-- The links that carry granules, ascending (09 R240). -/
def State.interleaved (s : State) : List Nat := (List.range 8).filter (fun k => s.inForce.interleave.testBit k)

/-- The link of a Normal line (09 R240): granule A >> 12 goes to link L[(A >> 12) mod N]. -/
def State.granuleLink (s : State) (line : Nat) : Nat :=
  let l := s.interleaved
  (l[line / 64 % l.length]?).getD 0

/-- ML_INTERLEAVE_NOW for an ML_ENABLE value (09 R240). -/
def interleaveOf (enable : Nat) : Nat :=
  let l := (List.range 8).filter enable.testBit
  let n := if 8 ≤ l.length then 8 else if 4 ≤ l.length then 4 else if 2 ≤ l.length then 2 else l.length
  (l.take n).foldl (fun a k => a + 2 ^ k) 0

/-- Requests of partition q among the last 256 issued on the link (10 R281). -/
def MlSt.occupancy (m : MlSt) (q : Nat) : Nat := m.issued.count q

/-- Is the request a device access, and of which port? -/
def ArchReq.devPort (r : ArchReq) : Option Nat :=
  match r.who with
  | .txn _ => none
  | .dev p _ _ => some p

/-- May the request be issued at all now: device accesses wait for a loan of another port, and for the end of another port's tenure (09
R254), and no device access of a port overtakes an earlier one of that port (02 R26). -/
def MlSt.ready (m : MlSt) (before : List ArchReq) (r : ArchReq) : Bool :=
  match r.devPort with
  | none => true
  | some p =>
    (match m.owner with
      | some o => o == p
      | none => m.ending.isNone || m.tenant == p) &&
    !(before.any (fun b => b.devPort == some p))

/-- The requests of a list that may be issued, each with the ones before it. -/
def readyFrom (m : MlSt) : List ArchReq → List ArchReq → List ArchReq
  | _, [] => []
  | before, r :: rest => (if m.ready before r then [r] else []) ++ readyFrom m (before ++ [r]) rest

/-- The partition that deficit round-robin serves next among `ps`, and the deficits after it (10 R283): a partition with credit is
served in ascending order; when none has any, each candidate gains its weight. -/
def State.roundRobin (s : State) (d : Tab Nat) (ps : List Nat) : Option (Nat × Tab Nat) :=
  match ps.find? (fun q => 0 < tget 0 d q) with
  | some q => some (q, tset 0 d q (tget 0 d q - 1))
  | none =>
    match ps with
    | [] => none
    | q :: _ =>
      let d := ps.foldl (fun d q => tset 0 d q (tget 0 d q + s.obj (K.qosWeight q))) d
      some (q, tset 0 d q (tget 0 d q - 1))

/-- What an arbiter of the slot points chooses (10 R283) from requests of the partitions `parts`, oldest first: the index of the one
chosen, the deficits after it, and whether step 3 chose. `occ` is a partition's occupancy, `share` and `cap` its limits; `none` among
`parts` is reserved-class traffic, which goes first. -/
def State.arbitrate (s : State) (parts : List (Option Nat)) (occ share cap : Nat → Nat) (deficits : Tab Nat) :
    Option (Nat × Tab Nat × Bool) :=
  let find := fun (f : Option Nat → Bool) => (List.range parts.length).find? (fun i => f ((parts[i]?).getD none))
  match find (·.isNone) with
  | some i => some (i, deficits, false)
  | none =>
    match find (fun p => p.any (fun q => occ q < share q)) with
    | some i => some (i, deficits, false)
    | none =>
      let below := (parts.filterMap id).filter (fun q => occ q < cap q)
      let best := below.foldl (fun c q => min c (s.obj (K.qosClass q))) 4
      let ps := (List.range 16).filter (fun q => below.contains q && s.obj (K.qosClass q) == best)
      match s.roundRobin deficits ps with
      | none => none
      | some (q, d) => (find (· == some q)).map (fun i => (i, d, true))

/-- The partition that a request of a link is charged to; none for the reserved class (10 R280). -/
def ArchReq.charged (r : ArchReq) : Option Nat := if r.reserved then none else some r.part

/-- On the way to Fault-hold only writes of lines are sent, and writes that were issued before (13 R348 step 3). -/
def State.mayIssue (s : State) (r : ArchReq) : Bool :=
  !s.dead || ((r.pkt.op == .wrLine || r.pkt.op == .wrMasked) && r.devPort.isNone) || (r.again.isSome && r.pkt.op != .rdLine && r.pkt.op != .devRd)

/-- The requests of a link that could be issued now. -/
def State.issuable (s : State) (m : MlSt) : List ArchReq := (readyFrom m [] m.waiting).filter s.mayIssue

/-- What the arbiter of a link chooses: re-issues at once, in their first order (09 R250), then as the slot rules say (10 R283). DEDUCED
(assumption 90): share and cap do not hold a re-issue back. -/
def State.choose (s : State) (m : MlSt) : Option (ArchReq × Tab Nat × Bool) :=
  match m.waiting.find? (fun r => r.again.isSome && s.mayIssue r) with
  | some r => some (r, m.deficits, false)
  | none =>
    let l := s.issuable m
    match s.arbitrate (l.map (·.charged)) m.occupancy (fun q => s.obj (K.archShare q)) (fun q => s.obj (K.archCap q)) m.deficits with
    | some (i, d, third) => (l[i]?).map (fun r => (r, d, third))
    | none => none

/-- The waiting requests of a link after a choice: those that could have gone and wait because step 3 took another partition's, or
because their partition is at its cap, are throttled (10 R284). -/
def State.archWaits (s : State) (m : MlSt) (waiting : List ArchReq) (chosen : Option (Nat × Bool)) : List ArchReq :=
  let l := s.issuable m
  waiting.map (fun x =>
    let passed := match chosen with
      | some (q, third) => third && x.part != q
      | none => false
    if !x.reserved && l.contains x && (passed || s.obj (K.archCap x.part) ≤ m.occupancy x.part) then { x with waited := true } else x)

/-- The lowest free tag of a link (09 R244). -/
def MlSt.freeTag (m : MlSt) : Option Nat :=
  (List.range m.tags).find? (fun t => !(m.outstanding.any (fun o => o.1 == t)))

/-- Change a transaction. -/
def State.modTxn (s : State) (id : Nat) (f : Txn → Txn) : State :=
  { s with txns := s.txns.map (fun t => if t.id = id then f t else t) }

/-- One transaction. -/
def State.txn (s : State) (id : Nat) : Option Txn := s.txns.find? (fun t => t.id == id)

/-- Issue the request that the arbiter of link k chooses; none when it has nothing to issue. DEDUCED (assumption 77): a slot that stays
idle because every waiting partition is at its cap (10 R283 step 4) is one of the last 256. -/
def State.archIssue (s : State) (k : Nat) : Option State :=
  let m := s.ml k
  if m.state ≠ .serving then none
  else
    match m.waiting with
    | [] => none
    | _ =>
      match m.freeTag, s.choose m with
      | some tag, some (r, d, third) =>
        let pkt : ArchPkt := { r.pkt with tag := tag }
        let rest := s.archWaits m (m.waiting.erase r) (some (r.part, third))
        let issued := ((if r.reserved then reservedMark else r.part) :: m.issued).take 256
        let s := s.modMl k (fun m =>
          { m with waiting := rest, deficits := d, issued := issued, outstanding := m.outstanding ++ [(tag, { r with pkt := pkt, again := none })] })
        let s := if s.obj (K.mlTagsPeak k) < (s.ml k).outstanding.length then
            s.setObj (K.mlTagsPeak k) (s.ml k).outstanding.length else s
        let s := match r.again with
          | some j => s.bump (K.mlReissued j)
          | none => s
        let s := match r.who with
          | .txn id => if r.waited then s.modTxn id (fun t => { t with throttled := true }) else s
          | .dev _ _ _ => s
        some (s.send (archLink k) (.arch pkt))
      | some _, none =>
        if (s.issuable m).isEmpty then none
        else some (s.modMl k (fun m => { m with waiting := s.archWaits m m.waiting none, issued := (idleMark :: m.issued).take 256 }))
      | none, _ => none

/-- The link that carries the device accesses of an address whose region names link k: a region returns to its link once the dual partner
has no device access to it left (15 R395). -/
def State.devCarrier (s : State) (epoch k addr : Nat) : Nat :=
  match s.partner k with
  | none => k
  | some j =>
    let left := fun (r : ArchReq) => r.devPort.isSome && s.regionEntry epoch r.pkt.addr == s.regionEntry epoch addr
    if (s.ml k).away || (s.ml j).waiting.any left || (s.ml j).outstanding.any (fun o => left o.2) then j else k

/-- Queue a request on a link. -/
def State.archQueue (s : State) (k : Nat) (r : ArchReq) : State := s.modMl k (fun m => { m with waiting := m.waiting ++ [r] })

/-- Queue a request on the link that carries link k's traffic. -/
def State.archSubmit (s : State) (k : Nat) (r : ArchReq) : State := s.archQueue (s.carrier k) r

/-- Read a line for a transaction (09 R237). -/
def State.memRead (s : State) (t : Txn) (reserved : Bool) : State :=
  s.archSubmit (s.granuleLink t.line)
    { who := .txn t.id, pkt := { op := .rdLine, addr := t.line * 64 }, part := t.part, reserved := reserved }

/-- Write a line or some of its bytes: all 64 bytes go as WR_LINE (09 R249). -/
def State.memWrite (s : State) (t : Txn) (mask : Mask64) (data : Line) (poison reserved : Bool) : State :=
  let pkt : ArchPkt :=
    if mask = fullMask then { op := .wrLine, addr := t.line * 64, data := data, mask := mask, poison := poison }
    else { op := .wrMasked, addr := t.line * 64, data := data, mask := mask }
  s.archSubmit (s.granuleLink t.line) { who := .txn t.id, pkt := pkt, part := t.part, reserved := reserved }

end Sys2Proof.Machine
end

