-- ==== Sys2Proof/Machine/Home.lean ====
section
/-! DEFINITION. The home slices: answers to ports, tracker entries and admission (05 R140 to R142, 10 R282), line ownership (R143), and
what each transaction does as owner (R148 to R160), from its snoops to its last acknowledgement. -/

namespace Sys2Proof.Machine

/-! Answers to ports. -/

/-- The answers that report an error (02 R31, R45; assumption 12). -/
def isErrorReport (status : Nat) : Bool := [5, 6, 7, 8, 9, 10, 11, 14].contains status

/-- Start the drain of every entry of a port's store buffer (02 R31). -/
def State.drainAll (s : State) (n : Nat) : State :=
  s.modPort n (fun p => { p with sb := p.sb.map (fun e => { e with isOpen := false }) })

/-- Start the drain of the entries of one line. -/
def State.drainLine (s : State) (n line : Nat) : State :=
  s.modPort n (fun p => { p with sb := p.sb.map (fun e => if e.line = line then { e with isOpen := false } else e) })

/-- Has the port no request of an older epoch (04 R103)? -/
def PortSt.epochClean (p : PortSt) (epoch : Nat) : Bool := p.outstanding.all (fun o => o.2 == epoch)

/-- A request is answered: it is outstanding no more, and a load reaches its completion point (02 R34, 04 R103). -/
def State.retire (s : State) (n tid : Nat) : State :=
  let s := s.modPort n (fun p => { p with
    outstanding := p.outstanding.filter (fun o => o.1 != tid)
    accesses := p.accesses.filter (fun a => a.key != .load tid) })
  if s.commitPending.getLsbD n && (s.port n).epochClean s.epoch then
    { s with commitPending := s.commitPending &&& ~~~ (1#64 <<< n) }
  else s

/-- A transaction ends. -/
def State.endTxn (s : State) (id : Nat) : State := { s with txns := s.txns.filter (fun t => t.id != id) }

/-- An error report leaves: it ends the request that it answers, and the transaction whose block lasts until then (05 R143). A report
that carries the port's epoch takes the one of this moment (04 R103). -/
def State.sendReport (s : State) (n : Nat) (o : OwedError) : State :=
  let s := s.down n (if o.now then { o.msg with epoch := (s.port n).epoch } else o.msg)
  let s := if o.retires then s.retire n o.msg.tid else s
  match o.txn with
  | some id => s.endTxn id
  | none => s

/-- An error report: it drains the store buffer, clears the reservation, and leaves once every entry that it drained is visible (02 R31,
R45). -/
def State.report (s : State) (n : Nat) (o : OwedError) : State :=
  let s := (s.drainAll n).modPort n (fun p => { p with reservation := none })
  if (s.port n).sb.isEmpty then s.sendReport n o
  else
    let s := s.modPort n (fun p => { p with owedErrors := p.owedErrors ++ [{ o with entries := p.sb.map (·.id) }] })
    match o.txn with
    | some id => s.modTxn id (fun t => { t with phase := .answering, blocksSet := false })
    | none => s

/-- Send the answer of a request (04 R96): an error report waits for the drain it starts (02 R31). -/
def State.respond (s : State) (n : Nat) (m : DownMsg) : State :=
  if isErrorReport m.status then s.report n { msg := m, entries := [] } else (s.down n m).retire n m.tid

/-- Send the answer of a request that is answered with the port's epoch at the moment it leaves (04 R103). -/
def State.respondNow (s : State) (n : Nat) (m : DownMsg) : State :=
  if isErrorReport m.status then s.report n { msg := m, entries := [], now := true }
  else (s.down n { m with epoch := (s.port n).epoch }).retire n m.tid

/-- An answer without fields. -/
def State.refuse (s : State) (n tid epoch : Nat) (op : DownOp) (status : Nat) : State :=
  s.respond n { op := op, tid := tid, epoch := epoch, status := status }

/-- The response opcode of a request (04 R104). DESIGN CHOICE (assumption 68): where a request has two success messages the refusal of
UPGRADE goes as GRANT_RESP; the DECODE_ERROR of a SLEEP_REQ goes as SLEEP_ACK with status 14 (State.sleepReq). -/
def ReqOp.resp : ReqOp → DownOp
  | .readShared => .dataResp | .readOwn => .dataResp | .upgrade => .grantResp | .readUnc => .rdata | .putPartial => .complete
  | .putLine => .complete | .zeroLine => .grantResp | .loadReserve => .dataResp | .storeCond => .complete
  | .writeback => .complete

/-- The response opcode of a transaction's request. -/
def TxnKind.resp : TxnKind → DownOp
  | .readShared | .readOwn | .loadReserve => .dataResp
  | .upgrade | .zeroLine => .grantResp
  | .readUnc => .rdata
  | .storeCond | .writeback | .orphan | .evictOffer | .drain => .complete
  | .siRead | .siReadInval | .siWrite | .recallCapacity | .recallCat | .recallMaint | .recallReset | .recallDrain | .recallGive
  | .poison | .walk | .ledger | .ringLine | .descriptor | .ctrlRead | .maintInval | .maintPreload | .maintUnlock | .scrubRow
  | .patrolRow | .repair => .complete

/-- The reservations on a granule end (02 R45). -/
def State.clearReservations (s : State) (line : Nat) : State :=
  { s with ports := s.ports.map (fun x =>
      if x.2.reservation = some line then (x.1, { x.2 with reservation := none }) else x) }

/-! Tracker entries and admission. -/

/-- Transactions of a slice that hold one of the 52 general entries (05 R140). -/
def State.generalUsed (s : State) (h : Nat) : Nat :=
  (s.txns.filter (fun t => t.slice == h && (t.entry == .general || t.entry == .borrowed))).length

/-- Reserved entries of a slice in use. -/
def State.reservedUsed (s : State) (h : Nat) : Nat := (s.txns.filter (fun t => t.slice == h && t.entry == .reserved)).length

/-- Occupancy of a partition in a slice (10 R281). -/
def State.occupancy (s : State) (h q : Nat) : Nat :=
  (s.txns.filter (fun t => t.slice == h && t.entry == .general && t.part == q)).length

/-- TRACKER_PEAK follows the highest occupancy (05 R161). -/
def State.peak (s : State) (h : Nat) : State :=
  let n := (s.txns.filter (fun t => t.slice == h && t.entry != .waiting)).length
  if s.obj (K.trackerPeak h) < n then s.setObj (K.trackerPeak h) n else s

/-- The free entries exceed what other partitions' shares still claim (10 R282). -/
def State.entryFree (s : State) (h q : Nat) : Bool :=
  let free := 52 - s.generalUsed h
  if s.occupancy h q < s.obj (K.sliceShare q) then 0 < free
  else
    let u := (List.range 16).foldl (fun a r => if r = q then a else a + (s.obj (K.sliceShare r) - s.occupancy h r)) 0
    u < free

/-- Is the line blocked: has it an owner (05 R143)? -/
def State.blocked (s : State) (line : Nat) : Bool := s.txns.any (fun t => t.line == line && t.phase != .queued)

/-- Requests that count towards LINE_QUEUE_DEPTH while they wait for a line (05 R141, R153): all but WRITEBACK, EVICT_OFFER and the hub's
own recalls, poison writes and background work. DEDUCED (assumption 85): the rule does not say which waiting work counts. -/
def TxnKind.lineQueued : TxnKind → Bool
  | .readShared | .readOwn | .upgrade | .zeroLine | .loadReserve | .storeCond | .readUnc | .drain | .siRead | .siReadInval | .siWrite
  | .walk | .ledger | .ringLine | .descriptor | .ctrlRead => true
  | .writeback | .orphan | .evictOffer | .recallCapacity | .recallCat | .recallMaint | .recallReset | .recallDrain | .recallGive
  | .poison | .maintInval | .maintPreload | .maintUnlock | .scrubRow | .patrolRow | .repair => false

/-- Requests waiting in a line's queue (05 R141); one without a tracker entry waits in its buffer instead (R140). -/
def State.lineQueue (s : State) (line : Nat) : Nat :=
  (s.txns.filter (fun t => t.line == line && t.phase == .queued && t.entry != .waiting && t.kind.lineQueued)).length

/-- The valid credit of a token for a port and line (05 R142). -/
def State.validCredit (s : State) (h : Nat) (token : Option Nat) (n line : Nat) : Option Credit :=
  match token with
  | none => none
  | some k => s.credits.find? (fun c =>
      c.slice == k / 8 && c.slice == h && c.credit == k % 8 && c.port == n && c.line == line && !c.expired)

/-- What admission decides (05 R141). -/
inductive Admission where
  | admitted (e : Entry)
  | qos
  | conflict
  | resource
deriving DecidableEq, Repr

/-- Admission of a refusable request (05 R141, 10 R282). -/
def State.judge (s : State) (h q n line : Nat) (token : Option Nat) : Admission :=
  match s.validCredit h token n line with
  | some c => .admitted (.credit c.credit)
  | none =>
    if s.obj (K.sliceCap q) ≤ s.occupancy h q then .qos
    else if (s.blocked line || 0 < s.lineQueue line) && s.obj K.lineQueueDepth ≤ s.lineQueue line then .conflict
    else if !s.entryFree h q then .resource
    else .admitted .general

/-- Is credit i of a slice free: not bound, and its tracker entry not in use by a request that it admitted (05 R140, R142)? -/
def State.creditFree (s : State) (h i : Nat) : Bool :=
  !(s.credits.any (fun c => c.slice == h && c.credit == i)) && !(s.txns.any (fun t => t.slice == h && t.entry == .credit i))

/-- Issue a credit on a refusal (05 R142): the token, when one of the 8 is free and the port holds no other of this slice. -/
def State.issueCredit (s : State) (h n line : Nat) : State × Option Nat :=
  if s.credits.any (fun c => c.slice == h && c.port == n) then (s, none)
  else
    match (List.range 8).find? (s.creditFree h) with
    | none => (s, none)
    | some i =>
      (({ s with credits := s.credits ++ [{ slice := h, credit := i, port := n, line := line }] } : State).bump (K.creditsIssued h),
        some (h * 8 + i))

/-- A credit entry that is used is freed as a credit (05 R142). -/
def State.useCredit (s : State) (h : Nat) (e : Entry) : State :=
  match e with
  | .credit i => { s with credits := s.credits.filter (fun c => !(c.slice == h && c.credit == i)) }
  | .waiting | .general | .reserved | .borrowed => s

/-- Put a transaction at the head of its line's queue (05 R153). -/
def insertAtHead (t : Txn) : List Txn → List Txn
  | [] => [t]
  | u :: rest => if u.line = t.line ∧ u.phase = .queued then t :: u :: rest else u :: insertAtHead t rest

/-- A new transaction at the head of its line's queue. -/
def State.newTxnFirst (s : State) (t : Txn) : State :=
  { s with txns := insertAtHead { t with id := s.nextTxn } s.txns, nextTxn := s.nextTxn + 1 }

/-- Is this the announced WRITEBACK that an owner waits for (04 R121)? It passes the block and needs no entry of its own (05 R152). -/
def State.announced (s : State) (t : Txn) : Bool :=
  (t.kind == .writeback || t.kind == .orphan) && s.txns.any (fun u => u.line == t.line && u.wbFrom.contains t.port)

/-- A transaction of a bucket that is being moved waits at its port or engine until the new slice serves the bucket, as long as it has
no tracker entry (05 R133 step 1). -/
def State.takesEntry (s : State) (t : Txn) : Bool :=
  t.entry == .waiting && t.phase == .queued && !(s.announced t) && !(s.moveHolds t.line) &&
    (s.reservedUsed (s.sliceOf t.line) < 4 || s.generalUsed (s.sliceOf t.line) < 52)

/-- What is fixed at admission: the slice, and for a WRITEBACK and an EVICT_OFFER the L2 settings (05 R133, R140; 06 R185). -/
def State.admitted (s : State) (t : Txn) : Txn :=
  { t with slice := s.sliceOf t.line
           fills := if t.kind = .writeback ∨ t.kind = .orphan then s.obj K.victimAlloc == 1 else t.fills
           limit := if t.kind = .evictOffer then s.obj K.offerMinAge else t.limit }

/-- Give a tracker entry to the first transaction that waits for one (05 R140). -/
def State.giveEntry (s : State) : Option State :=
  match s.txns.find? s.takesEntry with
  | none => none
  | some t =>
    let e := if s.reservedUsed (s.sliceOf t.line) < 4 then Entry.reserved else Entry.borrowed
    some ((s.modTxn t.id (fun t => { s.admitted t with entry := e })).peak (s.sliceOf t.line))

/-! Lost lines. -/

/-- System address bits [39:8] of a line, as events carry them (11 R288). -/
def lineDetail (line : Nat) : Nat := line / 4

/-- The poison write of a lost line is issued: event 17 and the log entry (05 R156 step 6, 13 R346). -/
def State.poisonCreated (s : State) (line port cause : Nat) : State :=
  let part := if port < 48 then s.partOf port else s.inForce.supervisor
  let s := s.raisePS part 17 (lineDetail line) port
  s.logLoss line cause port part

/-- A protocol breach of a port (05 R151). -/
def State.breach (s : State) (n : Nat) : State := (s.bump (K.protocolErrors n)).raisePS (s.partOf n) 13 n n

/-! Snoops. -/

/-- The next free TID for a hub request to a port (04 R92: the sender's choice). -/
def State.hubTid (s : State) (n : Nat) : State × Nat :=
  (s.modPort n (fun p => { p with nextTid := (p.nextTid + 1) % 4095 }), (s.port n).nextTid)

/-- Send a SNOOP, or let it wait for one of the port's 8 places (04 R112); the reservation on the line ends (02 R45). -/
def State.sendSnoop (s : State) (txn line : Nat) (o : Owed) : State :=
  match s.hubTid o.port with
  | (s, tid) =>
    let s := s.modPort o.port (fun p => if p.reservation = some line then { p with reservation := none } else p)
    let x : SnoopOut := { tid := tid, txn := txn, line := line, owed := o }
    if (s.port o.port).snoops.length < 8 then
      (s.modPort o.port (fun p => { p with snoops := p.snoops ++ [x] })).down o.port
        { op := .snoop, tid := tid, epoch := (s.port o.port).epoch, addr := o.pa, inval := o.inval }
    else s.modPort o.port (fun p => { p with snoopQueue := p.snoopQueue ++ [x] })

/-- A place among the 8 has come free: the next waiting SNOOP goes out. -/
def State.nextSnoop (s : State) (n : Nat) : State :=
  match (s.port n).snoopQueue with
  | [] => s
  | x :: rest =>
    if (s.port n).snoops.length < 8 then
      (s.modPort n (fun p => { p with snoops := p.snoops ++ [x], snoopQueue := rest })).down n
        { op := .snoop, tid := x.tid, epoch := (s.port n).epoch, addr := x.owed.pa, inval := x.owed.inval }
    else s

/-- The port can answer no snoop: its link is down or it is being reclaimed. -/
def State.deaf (s : State) (n : Nat) : Bool := !s.prdy n || s.reclaiming n

/-- A state whose copy may be dirty. -/
def CatState.mayBeDirty : CatState → Bool
  | .em | .owned => true
  | .free | .shared => false

/-- Send the snoops that a transaction owes, and wait for their answers in a phase. A copy at a port whose link is down is left to its
reclamation. -/
def State.sendOwed (s : State) (id : Nat) (ph : Phase := .snooping) : State :=
  match s.txn id with
  | none => s
  | some t =>
    let live := t.owed.filter (fun o => !s.deaf o.port)
    let s := s.modTxn id (fun t => { t with
      owed := [], asked := t.asked ++ live.map (·.port)
      askedDirty := t.askedDirty ++ (live.filter (fun o => o.st.mayBeDirty)).map (·.port), phase := ph })
    live.foldl (fun s o => s.sendSnoop id t.line o) s

/-! Kinds of transactions. -/

/-- Reads that take a line from memory or a holder. -/
def TxnKind.reads : TxnKind → Bool
  | .readShared | .readOwn | .upgrade | .loadReserve | .readUnc | .walk | .siRead | .siReadInval | .ctrlRead | .maintPreload => true
  | .zeroLine | .storeCond | .drain | .writeback | .orphan | .evictOffer | .siWrite | .recallCapacity | .recallCat | .recallMaint
  | .recallReset | .recallDrain | .recallGive | .poison | .ledger | .ringLine | .descriptor | .maintInval | .maintUnlock
  | .scrubRow | .patrolRow | .repair => false

/-- Recalls of every kind (06 R172). -/
def TxnKind.recall : TxnKind → Bool
  | .recallCapacity | .recallCat | .recallMaint | .recallReset | .recallDrain | .recallGive => true
  | .readShared | .readOwn | .upgrade | .loadReserve | .readUnc | .walk | .siRead | .siReadInval | .ctrlRead | .maintPreload
  | .zeroLine | .storeCond | .drain | .writeback | .orphan | .evictOffer | .siWrite | .poison | .ledger | .ringLine | .descriptor
  | .maintInval | .maintUnlock | .scrubRow | .patrolRow | .repair => false

/-- Reserved-class traffic (10 R280). -/
def TxnKind.reservedClass : TxnKind → Bool
  | .writeback | .orphan | .evictOffer | .siRead | .siReadInval | .siWrite | .recallCapacity | .recallCat | .recallMaint
  | .recallReset | .recallDrain | .recallGive | .poison | .ledger | .descriptor | .maintInval | .maintPreload | .maintUnlock
  | .scrubRow | .patrolRow | .repair => true
  | .readShared | .readOwn | .upgrade | .loadReserve | .readUnc | .walk | .ctrlRead | .zeroLine | .storeCond | .drain
  | .ringLine => false

/-- The slot mark of a transaction's commands on a data channel: the Conservator's jobs and patrol, the reserved class, or its partition
(10 R280, 14 R370). -/
def Txn.slotMark (t : Txn) : Nat :=
  match t.kind with
  | .maintInval | .maintPreload | .maintUnlock | .recallMaint | .scrubRow | .patrolRow => consMark
  | .writeback | .orphan | .evictOffer | .siRead | .siReadInval | .siWrite | .recallCapacity | .recallCat | .recallReset
  | .recallDrain | .recallGive | .poison | .ledger | .descriptor | .repair => reservedMark
  | .readShared | .readOwn | .upgrade | .loadReserve | .readUnc | .walk | .ctrlRead | .zeroLine | .storeCond | .drain
  | .ringLine => t.part

/-- Requests that may not be served while a dead port's copy of the line is still to be dealt with (05 R158): those that look the
catalogue up for copies. -/
def TxnKind.waitsForDead : TxnKind → Bool
  | .readShared | .readOwn | .upgrade | .loadReserve | .readUnc | .walk | .zeroLine | .storeCond | .drain | .siRead | .siReadInval
  | .siWrite | .ctrlRead | .ledger | .ringLine | .descriptor | .recallMaint | .recallReset | .recallDrain | .recallGive => true
  | .maintPreload | .writeback | .orphan | .evictOffer | .recallCapacity | .recallCat | .poison | .maintInval | .maintUnlock
  | .scrubRow | .patrolRow | .repair => false

/-- Is the lookup a use of the line (06 R172)? DEDUCED (assumption 71): ledger, descriptor and ring writes and the read of the control
line are uses, which R172 names on neither side. -/
def TxnKind.uses : TxnKind → Bool
  | .readShared | .readOwn | .upgrade | .loadReserve | .readUnc | .walk | .ctrlRead | .drain | .writeback | .orphan | .siWrite
  | .ringLine | .ledger | .descriptor => true
  | .zeroLine | .storeCond | .evictOffer | .siRead | .siReadInval | .recallCapacity | .recallCat | .recallMaint | .recallReset
  | .recallDrain | .recallGive | .poison | .maintInval | .maintPreload | .maintUnlock | .scrubRow | .patrolRow | .repair => false

/-- Does a miss of this read fill the L2 (06 R170)? DEDUCED (assumption 71): the accession engine's read of its control line makes no
fill. -/
def TxnKind.fillsL2 : TxnKind → Bool
  | .readShared | .readOwn | .upgrade | .loadReserve | .readUnc | .walk | .maintPreload => true
  | .zeroLine | .storeCond | .drain | .writeback | .orphan | .evictOffer | .siRead | .siReadInval | .siWrite | .ctrlRead
  | .recallCapacity | .recallCat | .recallMaint | .recallReset | .recallDrain | .recallGive | .poison | .ledger | .ringLine
  | .descriptor | .maintInval | .maintUnlock | .scrubRow | .patrolRow | .repair => false

/-- Does the write carry dirty data collected from an agent, or poison (13 R344)? -/
def Txn.precious (t : Txn) : Bool :=
  match t.kind with
  | .writeback | .orphan | .poison => true
  | .recallCapacity | .recallCat | .recallMaint | .recallReset | .recallDrain | .recallGive => true
  | .drain | .siWrite | .readShared | .readOwn | .upgrade | .loadReserve | .readUnc | .siRead | .siReadInval | .ringLine | .walk
  | .zeroLine | .storeCond | .evictOffer | .ctrlRead | .maintPreload | .ledger | .descriptor | .maintInval | .maintUnlock
  | .scrubRow | .patrolRow | .repair => t.dirty || t.lost.isSome

/-! Ownership. -/

/-- Does a dying port that has not freed its entries record the line in EM or O (05 R158)? -/
def State.heldByDying (s : State) (line : Nat) : Bool :=
  s.ports.any (fun x => x.2.reclaim == .draining &&
    ((s.entriesOf x.1).any (fun e => e.line == line && e.st.mayBeDirty) ||
      (s.movedEntries line).any (fun e => e.port == x.1 && e.st.mayBeDirty)))

/-- Has an entry been lost in a mirror set that could hold the line, whose port is not yet past step 4 (05 R160)? -/
def State.lineLost (s : State) (line : Nat) : Bool := s.lostEntries.any (fun x => x.2.1 % 64 == bucketOf line)

/-- Must a transaction wait for a dead port's reclamation (05 R158, R160)? The drains of a dying port itself do not: step 4 waits for
them (R156 step 3). A recall of a copy at such a port leaves it to step 4. -/
def State.waitsDead (s : State) (t : Txn) : Bool :=
  t.owed.any (fun o => (s.port o.port).reclaim == .draining) ||
  t.kind.waitsForDead && !(t.kind == .drain && s.reclaiming t.port) && (s.heldByDying t.line || s.lineLost t.line)

/-- Is the access a store or a device access? -/
def Access.isStore (a : Access) : Bool :=
  match a.key with
  | .load _ => false
  | .store _ => true
  | .dev _ => true
  | .wb _ => true

/-- Is an earlier store still to become owner of its line (05 R144), as data of another line sees it? -/
def State.storeBehind (s : State) (n line : Nat) (a : Access) : Bool :=
  match a.key with
  | .store id =>
    (s.port n).sb.any (fun e => e.id == id && e.line != line) &&
      !(s.txns.any (fun t => t.kind == .drain && t.port == n && t.aux == id && t.phase != .queued))
  | .load _ | .dev _ | .wb _ => true

/-- Must data of a line, of this place in the port's order, wait in the hub behind a PORT barrier (02 R36)? Every earlier store counts
that does not own its line yet: those accepted, and those that still wait at the port. DEDUCED (assumption 69): a store to the same
line does not hold its data up. -/
def State.holdsData (s : State) (n seq line : Nat) : Bool :=
  let p := s.port n
  p.barriers.any (fun b => b.scope == .port && b.seq < seq &&
    (p.accesses.any (fun a => a.seq < b.seq && a.isStore && !a.near && s.storeBehind n line a) ||
      p.waiting.any (fun r => r.seq < b.seq && (r.op == .putPartial || r.op == .putLine))))

/-- Does this owner keep the transaction from owning the line? A grant whose COMP_ACK has come and whose hold window runs lets only
its own port in (05 R143, R145). -/
def blocksTxn (u t : Txn) : Bool :=
  u.line == t.line && u.phase != .queued && !(u.phase == .granted && u.ackIn && u.port == t.port && t.port < 48)

/-- Does the line's hold window run for the transaction's own port (05 R145)? -/
def State.inWindow (s : State) (t : Txn) : Bool :=
  t.port < 48 && s.txns.any (fun u => u.line == t.line && u.phase == .granted && u.ackIn && u.port == t.port)

/-- Is a store drain queued for the line before this transaction (05 R141)? In the hold window of its port only that port's count. -/
def State.afterDrain (s : State) (t : Txn) : Bool :=
  (s.txns.takeWhile (fun u => u.id != t.id)).any (fun u =>
    u.line == t.line && u.kind == .drain && u.phase == .queued && !(s.waitsDead u) && (u.port == t.port || !(s.inWindow t)))

/-- Work that goes to the head of its line's queue: received write-backs and offers, and the poison writes of lost lines (05 R153,
R158). -/
def TxnKind.atHead : TxnKind → Bool
  | .writeback | .orphan | .evictOffer | .poison => true
  | .readShared | .readOwn | .upgrade | .zeroLine | .loadReserve | .storeCond | .readUnc | .drain | .siRead | .siReadInval | .siWrite
  | .walk | .ledger | .ringLine | .descriptor | .ctrlRead | .recallCapacity | .recallCat | .recallMaint | .recallReset | .recallDrain
  | .recallGive | .maintInval | .maintPreload | .maintUnlock | .scrubRow | .patrolRow | .repair => false

/-- Does work at the head of the line's queue go before this transaction? -/
def State.behindHead (s : State) (t : Txn) : Bool :=
  (s.txns.takeWhile (fun u => u.id != t.id)).any (fun u => u.line == t.line && u.kind.atHead && u.phase == .queued)

/-- Does work at the head of a queue hold up admitted requests, so that it is not to wait for a tracker entry? DEDUCED (assumption 70). -/
def State.headsOthers (s : State) (t : Txn) : Bool :=
  t.kind.atHead && s.txns.any (fun u => u.line == t.line && u.phase == .queued && u.entry != .waiting && u.id != t.id)

/-- May the queued transaction become owner now? A WRITEBACK behind a PORT barrier waits for the stores before it (02 R36). -/
def State.canOwn (s : State) (t : Txn) : Bool :=
  t.phase == .queued && !(match t.heldAt with
    | some q => s.holdsData t.port q t.line
    | none => false) &&
  (s.announced t ||
    ((t.entry != .waiting || s.headsOthers t) && !(s.txns.any (fun u => blocksTxn u t)) && !(s.afterDrain t) && !(s.behindHead t) &&
      !(s.waitsDead t)))

/-- Transactions that bring data to memory: those that go on while the hub is on its way to Fault-hold (13 R348 step 3). DEDUCED
(assumption 88): the rule speaks of writes that hold their data. -/
def TxnKind.flushes : TxnKind → Bool
  | .drain | .writeback | .orphan | .siWrite | .recallCapacity | .recallCat | .recallMaint | .recallReset | .recallDrain | .recallGive
  | .poison | .ledger | .ringLine | .descriptor => true
  | .readShared | .readOwn | .upgrade | .zeroLine | .loadReserve | .storeCond | .readUnc | .evictOffer | .siRead | .siReadInval
  | .walk | .ctrlRead | .maintInval | .maintPreload | .maintUnlock | .scrubRow | .patrolRow | .repair => false

/-- Does the transaction go on (13 R348)? -/
def State.goesOn (s : State) (t : Txn) : Bool := !s.dead || t.kind.flushes || (t.dirty && t.repairing)

/-- A slice reads its tracker words (08 R217): a correctable one is corrected, an uncorrectable one is fatal cause 1. DEDUCED (assumption
44): the rule does not say when a tracker word is read; the slice reads them whenever it makes a transaction the owner of its line. -/
def State.readTrackers (s : State) (h : Nat) : State :=
  (s.arrays.filter (fun x => x.1 / 2 ^ 24 == 2 && x.1 / 2 ^ 16 % 256 == h)).foldl (fun s x =>
    let a := x.1 % 2 ^ 16
    match s.readWord 2 h a with
    | (s, some _) => s
    | (s, none) => s.fatal 1 h a) s

/-- The first transaction that may become owner. A store drain becomes owner at its own event, STORE_DRAIN_VISIBLE (05 R144). -/
def State.nextOwner (s : State) : Option Txn := s.txns.find? (fun t => t.kind != .drain && s.goesOn t && s.canOwn t)

/-- The snoop owed to an entry; the entry of a rebuilt word is freed already (05 R159). -/
def owedTo (x : CatEntry × Bool) (inval : Bool) : Owed :=
  { port := x.1.port, inval := inval, pa := x.1.pa, recorded := !x.2, st := x.1.st }

/-- The SNP_INVAL of a copy that a read takes away: its dirty data goes to memory before the read goes on (05 R139, R151, R159). -/
def owedBack (x : CatEntry × Bool) : Owed := { owedTo x true with writes := true }

/-- Is the hub one of a pair (15 R384)? -/
def State.paired (s : State) : Bool := s.obj K.pairEnable == 1

/-- In a pair, a copy recorded EM or O whose dirty data goes to memory is taken in two steps: SNP_SHARE first, and SNP_INVAL after the
write (15 R388). Answers the snoops owed now and those owed after the memory write; `all` says that every one of them is such a copy. -/
def State.twoSteps (s : State) (all : Bool) (l : List Owed) : List Owed × List Owed :=
  if s.paired then
    let two := fun (o : Owed) => (all || o.writes) && o.inval && o.st.mayBeDirty
    (l.map (fun o => if two o then { o with inval := false } else o), (l.filter two).map (fun o => { o with st := .free }))
  else (l, [])

/-- SNP_INVAL to every holder, whose dirty data goes to memory (05 R148, R149, R155). -/
def State.invalPlan (s : State) (l : List (CatEntry × Bool)) : List Owed × List Owed :=
  s.twoSteps true (l.map (fun x => owedTo x true))

/-- What a read owes: SNP_SHARE to the dirty holder, and to the copies that it takes away SNP_INVAL, whose dirty data goes to memory. -/
def State.readPlan (s : State) (t : Txn) (holders taken : List (CatEntry × Bool)) : Txn :=
  let share := match holders.find? (fun x => x.1.st.mayBeDirty && !x.2) with
    | some h => [owedTo h false]
    | none => []
  let p := s.twoSteps false ((taken.map owedBack) ++ share)
  { t with owed := p.1, after := p.2 }

/-- The snoops, the grant and the breach of a request as owner (05 R139, R148, R151): `own` are the requester's entries, `others` the
other ports'. Grants are 1 S, 2 E, 4 M. DEDUCED (assumption 86): a READ_UNC snoops the requester's own EM or O copy too. -/
def State.plan (s : State) (t : Txn) (own others : List (CatEntry × Bool)) : Txn × Option Nat :=
  let older := own.filter (fun x => x.1.pa != t.pa / 64 * 64 || x.2)
  let same := own.filter (fun x => !(x.1.pa != t.pa / 64 * 64 || x.2))
  let oOwn := same.filter (fun x => x.1.st == .owned)
  let inv := (older ++ others).map (fun x => owedTo x true)
  let recs := others.filter (fun x => x.2)
  match t.kind with
  | .readShared =>
    let g := if others.isEmpty && oOwn.isEmpty then 2 else 1
    ({ s.readPlan t others (older ++ oOwn ++ recs) with grant := g }, if oOwn.isEmpty then none else some t.port)
  | .readOwn | .loadReserve =>
    ({ t with owed := inv ++ oOwn.map (fun x => owedTo x true), grant := 2 }, if oOwn.isEmpty then none else some t.port)
  | .upgrade =>
    let held := same.any (fun x => x.1.st == .shared || x.1.st == .owned)
    ({ t with owed := inv, grant := 4, filled := held }, none)
  | .zeroLine => ({ t with owed := inv, grant := 4 }, none)
  | .readUnc => (s.readPlan t (same ++ others) (older ++ recs), none)
  | .walk | .ctrlRead | .siRead => (s.readPlan t (own ++ others) ((own ++ others).filter (·.2)), none)
  | .siReadInval => ({ t with owed := (own ++ others).map (fun x => owedTo x true) }, none)
  | .drain | .siWrite | .ledger | .ringLine | .descriptor | .recallDrain | .recallGive =>
    let p := s.invalPlan (own ++ others)
    ({ t with owed := p.1, after := p.2 }, none)
  | .recallMaint =>
    let p := s.invalPlan (own ++ others)
    ({ t with owed := p.1, after := p.2, aux := if (own ++ others).isEmpty then 0 else 1 }, none)
  | .recallReset =>
    let p := s.invalPlan ((own ++ others).filter (fun x => s.memberOf x.1.port == some t.aux || x.2))
    ({ t with owed := p.1, after := p.2 }, none)
  | .recallCapacity | .recallCat =>
    let p := s.twoSteps true t.owed
    ({ t with owed := p.1, after := p.2 }, none)
  | .poison => ({ t with owed := (own ++ others).map (fun x => owedTo x true) }, none)
  | .storeCond =>
    let p := s.twoSteps false (older.map owedBack)
    ({ t with owed := p.1, after := p.2 }, none)
  | .writeback | .orphan | .evictOffer | .maintInval | .maintPreload | .maintUnlock | .scrubRow | .patrolRow
  | .repair => (t, none)

/-- Replace a transaction by its changed self. -/
def State.putTxn (s : State) (t : Txn) : State := s.modTxn t.id (fun _ => t)

/-! Grants and other answers. -/

/-- OK, or OK_THROTTLED with its count (10 R284). -/
def State.okStatus (s : State) (t : Txn) : State × Nat :=
  if t.throttled then (s.bump (K.throttled t.part), 1) else (s, 0)

/-- A request whose port's link has fallen ends without a grant (13 R343). Dirty data that it has taken from an invalidated copy exists
nowhere else: it is written to memory first, as a recall's. DEDUCED (assumption 72). -/
def State.endGone (s : State) (t : Txn) : State :=
  if t.dirty && t.kind != .readShared then s.putTxn { t with phase := .lookup, repairing := true } else s.endTxn t.id

/-- Send a grant; the block lasts until COMP_ACK and, for E and M, the end of the hold window (05 R143, R145). A LOAD_RESERVE sets the
reservation (02 R43). A port whose link has fallen gets none (13 R343). -/
def State.grantTxn (s : State) (t : Txn) (g : Nat) (withData : Bool) : State :=
  if t.gone then s.endGone t
  else
    match s.okStatus t with
    | (s, st) =>
      let s := s.respond t.port
        { op := if withData then .dataResp else .grantResp, tid := t.tid, epoch := t.epoch, status := st, grant := g
          data := if withData then t.data else 0 }
      let s := if t.kind = .loadReserve then s.modPort t.port (fun p => { p with reservation := some t.line }) else s
      s.putTxn { t with phase := .granted, grant := g, windowOver := g == 1 || s.obj K.holdWindow == 0, blocksSet := false }

/-- A request is answered with an error report, and its line is free once the report has been sent (05 R143). -/
def State.endWith (s : State) (t : Txn) (status : Nat) : State :=
  if t.gone then s.endTxn t.id
  else
    let s := if status = 5 then s.bump (K.poisonAnswers t.port) else s
    (s.putTxn t).report t.port
      { msg := { op := t.kind.resp, tid := t.tid, epoch := t.epoch, status := status }, entries := [], txn := some t.id }

/-- The answer to a SNOOP_IN (09 R252). -/
def State.siAnswer (s : State) (t : Txn) (status : Nat) (poison : Bool) : State :=
  let k := t.aux / 256
  let tag := t.aux % 256
  let s := s.endTxn t.id
  let s := s.bump K.snoopInServed
  if !((s.ml k).si.contains tag) then s
  else
    let s := s.modMl k (fun m => { m with si := m.si.erase tag })
    let s := if status = 0 && t.kind != .siWrite && (t.dirty || t.wbData.isSome) then s.bump K.snoopInDirty else s
    s.send (archLink k) (.arch
      (if t.kind = .siWrite then { op := .siDone, tag := tag, status := status }
       else { op := .siData, tag := tag, status := status, poison := poison && status == 0, data := t.data }))

/-- A read has its data (from a holder, the L2 or memory): its answer (05 R148, R155). -/
def State.finishRead (s : State) (t : Txn) : State :=
  match t.kind with
  | .readShared => s.grantTxn t t.grant true
  | .readOwn | .loadReserve => s.grantTxn t (if t.dirty then 4 else 2) true
  | .upgrade => s.grantTxn t 4 true
  | .readUnc =>
    if t.gone then s.endTxn t.id
    else
    match s.okStatus t with
    | (s, st) =>
      let s := s.respond t.port
        { op := .rdata, tid := t.tid, epoch := t.epoch, status := st, size := t.size, data := shiftOut t.data (t.pa % 64) }
      s.endTxn t.id
  | .walk | .ctrlRead => s.putTxn { t with phase := .done, blocksSet := false }
  | .siRead => s.siAnswer t 0 false
  | .siReadInval => (s.l2Inval t.line).siAnswer t 0 false
  | .maintPreload => s.putTxn { t with phase := .done, blocksSet := false }
  | .zeroLine => s.grantTxn t 4 false
  | .storeCond | .drain | .writeback | .orphan | .evictOffer | .siWrite | .recallCapacity | .recallCat | .recallMaint
  | .recallReset | .recallDrain | .recallGive | .poison | .ledger | .ringLine | .descriptor | .maintInval | .maintUnlock
  | .scrubRow | .patrolRow | .repair => s.endTxn t.id

/-- A read has no data: poison, or an access that ends in error (05 R150, 09 R248). -/
def State.failRead (s : State) (t : Txn) : State :=
  match t.kind with
  | .readShared | .readOwn | .loadReserve | .upgrade | .readUnc => s.endWith t 5
  | .walk | .ctrlRead | .maintPreload => s.putTxn { t with phase := .done, poisoned := true, blocksSet := false }
  | .siRead => s.siAnswer { t with data := 0 } 0 true
  | .siReadInval => (s.l2Inval t.line).siAnswer { t with data := 0 } 0 true
  | .zeroLine | .storeCond | .drain | .writeback | .orphan | .evictOffer | .siWrite | .recallCapacity | .recallCat | .recallMaint
  | .recallReset | .recallDrain | .recallGive | .poison | .ledger | .ringLine | .descriptor | .maintInval | .maintUnlock
  | .scrubRow | .patrolRow | .repair => s.endTxn t.id

/-! Visibility of stores. -/

/-- A store drain owns its line and no agent's L1 holds the line any more: its entry is freed, the store is visible at its home slice and
its access reaches the PORT and PARTITION completion points (02 R22, R28, R34, R40; 05 R144). DEDUCED (assumption 69): R144 makes the
drain visible when it becomes owner, R22 and R40 only once every L1 copy is invalidated; with no copy both are one moment. -/
def State.visible (s : State) (t : Txn) : State :=
  s.modPort t.port (fun p => { p with
    sb := p.sb.filter (fun e => e.id != t.aux)
    accesses := p.accesses.map (fun a => if a.key = .store t.aux then { a with near := true } else a) })

/-- A store reaches its SYSTEM completion point, or is lost (02 R34, R51). -/
def State.storeDone (s : State) (n id : Nat) : State :=
  s.modPort n (fun p => { p with accesses := p.accesses.filter (fun a => a.key != .store id) })

/-! Owners at work. -/

/-- A full-line ring write that misses is allocated as a streaming fill (06 R167, R170). -/
def State.ringFill (s : State) (t : Txn) (mask : Mask64) (data : Line) : State :=
  if t.kind = .ringLine ∧ mask = fullMask then
    match s.l2Probe t.line with
    | (s, l) => if l.way.isSome then s else (s.l2Fill t.line t.part t.slotMark (s.obj (K.wayAlloc t.part)) 6 true false data).1
  else s

/-- The write of a transaction reaches the L2 and memory (06 R167); the line's set must be free. -/
def State.startWrite (s : State) (t : Txn) (mask : Mask64) (data : Line) : State :=
  let s := (s.l2Write t.line t.slotMark mask data (t.kind.uses && !t.repairing)).ringFill t mask data
  let s := s.putTxn { t with phase := .memWrite, mask := mask, data := data }
  s.memWrite t mask data false t.kind.reservedClass

/-- The lines whose misses block sets: those of the misses under way, and those of fills that wait for their slot (06 R171). -/
def State.missLines (s : State) (t : Txn) : List Nat :=
  (s.txns.filter (fun u => u.blocksSet && u.id != t.id)).map (·.line) ++
    s.chans.flatMap (fun x => x.2.queue.filterMap (·.fills))

/-- Is the set of the line blocked by a miss (06 R171)? -/
def State.setBlocked (s : State) (t : Txn) : Bool :=
  match s.setOf t.line with
  | none => false
  | some p => (s.missLines t).any (fun l => s.setOf l == some p)

/-- Is the set of the line blocked by a miss to another line (06 R171, R176)? -/
def State.setTaken (s : State) (t : Txn) : Bool :=
  match s.setOf t.line with
  | none => false
  | some p => (s.missLines t).any (fun l => l != t.line && s.setOf l == some p)

/-- A read goes to the L2 and on a miss to memory (06 R170, R171). DEDUCED (assumption 71): a miss that makes no fill, SI_READ and
SI_READ_INVAL among them, blocks no set. -/
def State.startRead (s : State) (t : Txn) : State :=
  match s.l2Lookup t.line with
  | (s, l) =>
    match l.way with
    | some w =>
      let s := if t.kind.uses then s.touch l w else s
      (s.putTxn { t with phase := .chanRead, way := w, tagSave := (l.tagAt w).word.toNat }).chanRead (w % 8) (s.burst t.line w)
        (.txn t.id) t.slotMark
    | none =>
      (s.putTxn { t with phase := .memRead, blocksSet := l.place.isSome && t.kind.fillsL2 }).memRead t t.kind.reservedClass

/-- A read whose burst was lost or uncorrectable goes to memory, its set being free: for a refill into its way (`way` below 16), or as any
miss (06 R171, R178; 07 R200, R201). -/
def State.runMissed (s : State) (t : Txn) : State :=
  let t' : Txn := { t with
    phase := .memRead, blocksSet := (t.way < 16 || t.kind.fillsL2) && (s.setOf t.line).isSome && s.l2On }
  (s.putTxn t').memRead t' t.kind.reservedClass

/-- Begin the poison write of a lost line: its last memory value from the L2 on a hit, otherwise from memory (05 R156 step 6). -/
def State.startPoison (s : State) (t : Txn) : State :=
  match s.l2Probe t.line with
  | (s, l) =>
    match l.way with
    | some w => (s.putTxn { t with phase := .poisonRead, way := w }).chanRead (w % 8) (s.burst t.line w) (.txn t.id) t.slotMark
    | none => (s.putTxn { t with phase := .poisonRead, way := 16 }).memRead t true

/-- The last memory value is here: it is written back with poison and the L2 line goes (05 R156 step 6). -/
def State.writePoison (s : State) (t : Txn) (data : Line) : State :=
  let x := t.lost.getD (t.port, 1)
  let s := (s.l2Inval t.line).poisonCreated t.line x.1 x.2
  (s.putTxn { t with phase := .poisonWrite, way := 16, poison := data }).memWrite t fullMask data true true

/-- The SNP_INVALs owed after a memory write, or once no data has come (15 R388). -/
def State.sendAfter (s : State) (t : Txn) : State :=
  (s.putTxn { t with owed := t.after, after := [] }).sendOwed t.id .afterWrite

/-- The examination of a STORE_COND (02 R46): the reservation, the granule and the catalogue. -/
def State.runStoreCond (s : State) (t : Txn) : State :=
  match s.entryFor t.port t.line with
  | (s, own) =>
    let held := match own with
      | some e => e.st == .em
      | none => false
    let ok := (s.port t.port).reservation == some t.line && held
    let s := s.modPort t.port (fun p => { p with reservation := none })
    if t.gone then s.endTxn t.id
    else if ok then
      let s := (s.bump (K.scSuccess t.port)).respond t.port { op := .complete, tid := t.tid, epoch := t.epoch }
      s.putTxn { t with phase := .granted, grant := 4, windowOver := true }
    else
      let s := (s.bump (K.scFail t.port)).bump (K.retriesSent t.port)
      (s.respond t.port { op := .complete, tid := t.tid, epoch := t.epoch, status := 2 }).endTxn t.id

/-- All snoops of an owner are answered: its data phase (05 R148, R149, R155). A lookup waits in phase `lookup` for its set. -/
def State.afterSnoops (s : State) (t : Txn) : State :=
  match t.kind with
  | .readShared | .readOwn | .loadReserve | .readUnc | .walk | .ctrlRead | .siRead | .siReadInval | .upgrade | .zeroLine
  | .storeCond =>
    if t.dirty && t.repairing then s.putTxn { t with phase := .lookup }
    else if !t.after.isEmpty then s.sendAfter t
    else if t.lost.isSome then s.putTxn { t with phase := .poisonWait }
    else if t.kind = .storeCond then s.runStoreCond t
    else if t.kind = .zeroLine ∨ (t.kind = .upgrade ∧ t.filled) then s.grantTxn t 4 false
    else if t.dirty then s.finishRead t
    else
      (match t.wbData with
      | some d => s.finishRead { t with data := d }
      | none => s.putTxn { t with phase := .lookup })
  | .drain =>
    let s := if t.after.isEmpty then s.visible t else s
    if t.lost.isSome then s.putTxn { t with phase := .poisonWait } else s.putTxn { t with phase := .lookup }
  | .siWrite | .ledger | .ringLine | .descriptor =>
    if t.lost.isSome then s.putTxn { t with phase := .poisonWait } else s.putTxn { t with phase := .lookup }
  | .recallCapacity | .recallCat | .recallMaint | .recallReset | .recallDrain | .recallGive =>
    if t.lost.isSome then s.putTxn { t with phase := .poisonWait }
    else if t.dirty then s.putTxn { t with phase := .lookup }
    else if !t.after.isEmpty then s.sendAfter t
    else s.putTxn { t with phase := .done }
  | .poison => s.putTxn { t with phase := .poisonWait }
  | .maintPreload => s.putTxn { t with phase := .lookup }
  | .writeback | .orphan | .evictOffer | .maintInval | .maintUnlock | .scrubRow | .patrolRow | .repair =>
    s.putTxn { t with phase := .lookup }

/-- The bytes and the mask that a write sends once its snoops are answered: dirty data is overlaid and the whole line written
(05 R149, R155). -/
def Txn.writeData (t : Txn) (dirty : Line) : Line × Mask64 :=
  if t.dirty then (overlay dirty t.data t.mask, fullMask) else (t.data, t.mask)

/-- The transaction at the head of the work: its set is free, so its lookup is made. -/
def State.runLookup (s : State) (t : Txn) : State :=
  match t.kind with
  | .readShared | .readOwn | .loadReserve | .upgrade | .readUnc | .walk | .ctrlRead | .siRead | .siReadInval =>
    if t.dirty && t.repairing then s.startWrite t fullMask t.data else s.startRead t
  | .zeroLine | .storeCond => s.startWrite t fullMask t.data
  | .writeback | .orphan =>
    if t.filled then
      match s.l2Probe t.line with
      | (s, l) =>
        (if l.way.isSome then s else (s.victimFill t.line t.part t.data)).endTxn t.id
    else s.startWrite t t.mask t.data
  | .drain | .siWrite | .ledger | .ringLine | .descriptor => s.startWrite t t.mask t.data
  | .recallCapacity | .recallCat | .recallMaint | .recallReset | .recallDrain | .recallGive => s.startWrite t fullMask t.data
  | .maintPreload | .maintInval | .maintUnlock | .scrubRow | .patrolRow | .repair | .evictOffer | .poison => s

/-- Work that waits for its set and whose set is free. EVICT_OFFER and the Conservator's operations are dealt with on their own. -/
def TxnKind.plainLookup : TxnKind → Bool
  | .readShared | .readOwn | .loadReserve | .upgrade | .readUnc | .walk | .ctrlRead | .siRead | .siReadInval | .drain | .siWrite
  | .ledger | .ringLine | .descriptor | .writeback | .orphan | .recallCapacity | .recallCat | .recallMaint | .recallReset
  | .recallDrain | .recallGive | .zeroLine | .storeCond => true
  | .maintPreload | .maintInval | .maintUnlock | .scrubRow | .patrolRow | .repair | .evictOffer | .poison => false

/-- Does the transaction wait for its set (06 R171)? The Conservator's operations look their lines up on their own. -/
def Txn.atSet (t : Txn) : Bool :=
  match t.phase with
  | .lookup => t.kind.plainLookup
  | .missed | .poisonWait => true
  | .queued | .snooping | .chanRead | .memRead | .memWrite | .retryGap | .granted | .poisonRead | .poisonWrite | .afterWrite
  | .answering | .done => false

/-- The set of a transaction is free: it makes its lookup, or its memory read. -/
def State.runSet (s : State) (t : Txn) : State :=
  match t.phase with
  | .missed => s.runMissed t
  | .poisonWait => s.startPoison t
  | .queued | .snooping | .lookup | .chanRead | .memRead | .memWrite | .retryGap | .granted | .poisonRead | .poisonWrite
  | .afterWrite | .answering | .done => s.runLookup t

/-- The offer of a clean line as owner (06 R176, 04 R119): its entry was freed when it was received (05 R136). -/
def State.runOffer (s : State) (t : Txn) : State :=
    let t := if t.entry = .waiting then s.admitted t else t
    let answer := fun (s : State) (taken : Bool) =>
      let s := s.bump (if taken then K.offersTaken t.slice else K.offersDeclined t.slice)
      (s.respond t.port { op := .complete, tid := t.tid, epoch := t.epoch, bit4 := taken }).endTxn t.id
    match s.holders t.line false with
    | (s, l) =>
      if s.objAt t.epoch (K.evictOfferEn t.port) = 0 then answer s false
      else if (s.setOf t.line).isNone || !s.l2On then answer s false
      else if l.any (fun x => x.1.port != t.port && x.1.st == .owned) then answer s false
      else if s.setTaken t then answer s false
      else
        match s.l2Lookup t.line with
        | (s, k) =>
          match k.place, k.way with
          | some p, some w =>
            answer (if 2 < (k.tagAt w).age then s.writeTag p w { k.tagAt w with age := 2 } else s) true
          | some p, none =>
            let mask := s.obj (K.wayAlloc t.part)
            let elig := (List.range 16).filter (fun w => s.wayOn p.slice w && mask.testBit w && !(k.tagAt w).locked)
            let pick := match elig.find? (fun w => !(k.tagAt w).valid) with
              | some w => some w
              | none => elig.find? (fun w => t.limit ≤ (k.tagAt w).age)
            match pick with
            | some w => answer (s.place p w t.line t.slotMark (k.tagAt w) { age := 2, owner := t.part } t.data) true
            | none => answer s false
          | none, _ => answer s false

/-- A WRITEBACK as owner (05 R148; 04 R118): its entry was freed when it was received (05 R136), and the line goes to memory. -/
def State.runWriteback (s : State) (t : Txn) : State :=
  let t := if t.entry = .waiting then s.admitted t else t
  s.putTxn { t with phase := .lookup, mask := fullMask }

/-- Writes to the granule that the hub sees (02 R45): ZERO_LINE, drains, SI_WRITE and the hub's own writes clear its reservations. -/
def TxnKind.clearsReservation : TxnKind → Bool
  | .zeroLine | .drain | .siWrite | .ledger | .ringLine | .descriptor => true
  | .readShared | .readOwn | .upgrade | .loadReserve | .storeCond | .readUnc | .writeback | .orphan | .evictOffer | .siRead
  | .siReadInval | .walk | .ctrlRead | .recallCapacity | .recallCat | .recallMaint | .recallReset | .recallDrain | .recallGive
  | .poison | .maintInval | .maintPreload | .maintUnlock | .scrubRow | .patrolRow | .repair => false

/-- A transaction becomes the owner of its line: it looks the catalogue up and sends its snoops. One that meets a lost entry stays
queued until the reclamation has passed its line (05 R160). -/
def State.startOwner (s : State) (t : Txn) : State :=
  match t.kind with
  | .evictOffer => s.runOffer t
  | .writeback | .orphan => s.runWriteback t
  | .recallCapacity | .recallCat => (s.putTxn (s.plan t [] []).1).sendOwed t.id
  | .maintInval | .maintPreload | .maintUnlock | .scrubRow | .patrolRow | .repair => s.putTxn { t with phase := .lookup }
  | .readShared | .readOwn | .upgrade | .loadReserve | .readUnc | .walk | .zeroLine | .siRead | .siReadInval | .siWrite | .ctrlRead
  | .recallMaint | .recallReset | .recallDrain | .recallGive | .poison | .ledger | .ringLine | .descriptor | .drain | .storeCond =>
    match s.holders t.line (t.kind != .storeCond) with
    | (s, l) =>
      if s.waitsDead t then (l.filter (·.2)).foldl (fun s x => s.recallRebuilt x.1) s
      else
      let s := if t.kind.clearsReservation then s.clearReservations t.line else s
      match s.plan t (l.filter (·.1.port == t.port)) (l.filter (·.1.port != t.port)) with
      | (t', none) => (s.putTxn t').sendOwed t.id
      | (t', some n) => ((s.breach n).putTxn t').sendOwed t.id

/-- The owner that has all its answers: no snoop owed or awaited. -/
def Txn.answered (t : Txn) : Bool := t.owed.isEmpty && t.asked.isEmpty && t.wbFrom.isEmpty

/-- A store reaches its SYSTEM completion point as well: its write is acknowledged and no copy is left (02 R34). -/
def State.storeEnds (s : State) (t : Txn) : State := ((s.visible t).storeDone t.port t.aux).endTxn t.id

/-- The write of a transaction is acknowledged and no copy is left to take away (15 R388): the line is free, the engine that asked goes
on, or the read goes on. -/
def State.afterWriteDone (s : State) (t : Txn) : State :=
  if t.gone then s.endTxn t.id
  else
  match t.kind with
  | .drain => s.storeEnds t
  | .recallCapacity | .recallCat | .recallMaint | .recallReset | .recallDrain | .recallGive | .ringLine | .descriptor =>
    s.putTxn { t with phase := .done }
  | .readShared | .readOwn | .loadReserve | .readUnc | .walk | .ctrlRead | .siRead | .siReadInval | .upgrade | .zeroLine
  | .storeCond => s.afterSnoops { t with repairing := false }
  | .siWrite | .ledger | .writeback | .orphan | .evictOffer | .poison | .maintInval | .maintPreload | .maintUnlock | .scrubRow
  | .patrolRow | .repair => s.endTxn t.id

/-- A SYSTEM completion point is reached by the write of a transaction (02 R34); in a pair the copies that it collected go now (15
R388). -/
def State.writeAcked (s : State) (t : Txn) : State := if t.after.isEmpty then s.afterWriteDone t else s.sendAfter t

/-- The transaction's turn to own its line: the slice reads its trackers first; nothing becomes owner once that is fatal. -/
def State.ownerTurn (s : State) (t : Txn) : State :=
  if s.dead then s.startOwner t
  else
    let s := s.readTrackers t.slice
    if s.dead then s else s.startOwner t

/-- One step of the home slices' own work; none when nothing can move. On the way to Fault-hold nothing is admitted or granted (13 R348). -/
def State.homeWork (s : State) : Option State :=
  match if s.dead then none else s.giveEntry with
  | some s' => some s'
  | none =>
    match s.nextOwner with
    | some t => some (s.ownerTurn t)
    | none =>
      match s.txns.find? (fun t => t.phase == .snooping && t.answered && s.goesOn t) with
      | some t => some (s.afterSnoops t)
      | none =>
        match s.txns.find? (fun t => t.phase == .afterWrite && t.answered && s.goesOn t) with
        | some t => some (s.afterWriteDone t)
        | none =>
          match s.txns.find? (fun t => t.atSet && s.goesOn t && !s.setBlocked t) with
          | some t => some (s.runSet { t with waited := false })
          | none =>
            match s.txns.find? (fun t => t.atSet && s.goesOn t && !t.waited) with
            | some t => some ((s.putTxn { t with waited := true }).bump (K.setBlockWaits t.slice))
            | none =>
              (s.txns.find? (fun t => t.phase == .done &&
                (t.kind == .recallCapacity || t.kind == .recallCat || t.kind == .recallDrain || t.kind == .recallGive))).map
                (fun t => s.endTxn t.id)

end Sys2Proof.Machine
end

