-- ==== Sys2Proof/Machine/HomeEvents.lean ====
section
/-! DEFINITION. What moves a transaction of the home slices on: snoop answers, COMP_ACK, the hold window, bursts, RD_RESP and WR_ACK,
refused writes (04 R120, R121; 05 R136, R138, R143, R151; 06 R170, R171, R178; 09 R248; 13 R344, R345), and the reclamation of a dead
port (05 R156). -/

namespace Sys2Proof.Machine

/-! Snoop answers. -/

/-- The state that a snoop answer reports (04 R101), as the catalogue records it (05 R135). -/
def answeredState (code : Nat) : CatState :=
  if code = 1 then .shared else if code = 3 then .owned else if code = 2 ∨ code = 4 then .em else .free

/-- Dirty data reaches the transaction that snooped: a write overlays its own bytes on it, a ZERO_LINE discards it, a read that took
it from an invalidated copy writes it to memory first (05 R139, R148, R149, R155, R159): a READ_SHARED is then granted S. DEDUCED
(assumption 72): an ownership request or an SI_READ_INVAL passes it on and writes it nowhere, also where the copy is one under another
address or one of a rebuilt entry; a ZERO_LINE keeps it until its grant has been sent. -/
def Txn.takeDirty (t : Txn) (o : Owed) (data : Line) : Txn :=
  match t.kind with
  | .drain | .siWrite | .ledger | .ringLine | .descriptor =>
    { t with dirty := true, data := overlay data t.data t.mask, mask := fullMask }
  | .readShared => { t with dirty := true, data := data, repairing := t.repairing || o.writes, grant := if o.writes then 1 else t.grant }
  | .readUnc | .walk | .ctrlRead | .siRead | .storeCond =>
    { t with dirty := true, data := data, repairing := t.repairing || o.writes }
  | .zeroLine | .readOwn | .loadReserve | .upgrade | .siReadInval | .recallCapacity | .recallCat | .recallMaint | .recallReset | .recallDrain
  | .recallGive | .writeback | .orphan | .evictOffer | .poison | .maintInval | .maintPreload | .maintUnlock
  | .scrubRow | .patrolRow | .repair => { t with dirty := true, data := data }

/-- The transaction hears no more from a port. -/
def Txn.heard (t : Txn) (n : Nat) : Txn := { t with asked := t.asked.erase n, askedDirty := t.askedDirty.erase n }

/-- A snoop answer from port n (04 R120, R121; 05 R136, R138, R151). -/
def State.snoopAnswer (s : State) (n tid result code : Nat) (data : Option Line) : State :=
  match (s.port n).snoops.find? (fun x => x.tid == tid) with
  | none => s
  | some x =>
    let s := (s.modPort n (fun p => { p with snoops := p.snoops.erase x })).nextSnoop n
    match s.recordedAs n x.line with
    | (s, own) =>
      let was := if x.owed.recorded then own else x.owed.st
      let s :=
        if result = 2 then s
        else if x.owed.recorded then s.reportState n x.line (if result = 1 then .free else answeredState code)
        else if x.owed.inval && code != 0 then s.breach n
        else s
      let s := if result = 1 && x.owed.recorded && was != .owned then s.bump (K.staleSnoops n) else s
      let broke := result == 1 && was == .owned
      let s := if broke then s.breach n else s
      s.modTxn x.txn (fun t =>
        let t := t.heard n
        let t := if broke then { t with lost := some (n, 2) } else t
        let t := if result = 2 then { t with wbFrom := t.wbFrom ++ [n] } else t
        let t := if t.kind = .readShared && result == 1 && !x.owed.inval && !x.owed.writes && was == .em then { t with grant := 2 } else t
        match data with
        | some d => t.takeDirty x.owed d
        | none => t)

/-! COMP_ACK and the hold window. -/

/-- COMP_ACK, or its place taken by reclamation (05 R136, R156 step 2): the grant is recorded and the block ends with the hold
window. -/
def State.grantEnds (s : State) (t : Txn) : State :=
  let s := if t.kind = .storeCond then s
    else s.recordLine t.port t.line t.pa (if t.grant = 1 then .shared else .em)
  if t.windowOver then s.endTxn t.id else s.modTxn t.id (fun t => { t with ackIn := true })

/-- COMP_ACK arrives (05 R136, R143). -/
def State.compAck (s : State) (n tid : Nat) : State :=
  match s.txns.find? (fun t => t.phase == .granted && t.port == n && t.tid == tid && !t.ackIn) with
  | none => s
  | some t => s.grantEnds t

/-- The hold window of a line ends (05 R145). -/
def State.windowEnds (s : State) (line : Nat) : State :=
  match s.txns.find? (fun t => t.phase == .granted && t.line == line && !t.windowOver) with
  | none => s
  | some t => if t.ackIn then s.endTxn t.id else s.modTxn t.id (fun t => { t with windowOver := true })

/-! Reads. -/

/-- WAY_ALLOC and the place of a fill (06 R170). -/
def State.fillFor (s : State) (t : Txn) : State :=
  (s.l2Fill t.line t.part t.slotMark (s.obj (K.wayAlloc t.part)) (if t.stream then 6 else 0) t.stream false t.data).1

/-- A repair refetch fails (13 R345). -/
def State.refetchFailed (s : State) (t : Txn) : State :=
  let s := s.bump K.refetchFails
  let part := if t.port < 48 then t.part else s.inForce.supervisor
  let s := s.logLoss t.line 4 (if t.port < 48 then t.port else 63) part
  if t.port < 48 then s.raisePS part 27 (lineDetail t.line) t.port else s.raiseS 27 (lineDetail t.line)

/-- Is a refetch of this kind, where its way is disabled, a miss that fills (06 R170, R178)? Rows and repairs are served as ordinary
misses. -/
def TxnKind.refills (k : TxnKind) : Bool := k.fillsL2 || k == .scrubRow || k == .patrolRow || k == .repair

/-- A repair refetch brings the line: it returns to its way, or is an ordinary miss where the way is disabled (06 R178). DEDUCED
(assumption 78): the same where another line has taken the way meanwhile. -/
def State.refetched (s : State) (t : Txn) : State :=
  let s := s.bump (K.repairs t.slice)
  if s.wayOn t.slice t.way && s.wayEmpty t.line t.way then
    s.l2Refill t.line t.way t.slotMark (tagOf (BitVec.ofNat 32 t.tagSave)) t.data
  else if t.kind.refills then s.fillFor t else s

/-- The value written back with poison where memory gives no data: free (05 R156; assumption 3). -/
def State.freeLine (s : State) : State × Line := (s.free.1, BitVec.ofNat 512 s.free.2)

/-- A line from memory for a transaction (05 R148, R150; 06 R170, R171; 09 R248): `good` is OK without poison. -/
def State.txnRead (s : State) (t : Txn) (good poison : Bool) (data : Line) : State :=
  match t.phase with
  | .memRead =>
    let fresh : Txn := { t with blocksSet := false, way := 16 }
    if t.kind = .maintPreload ∨ t.kind = .scrubRow ∨ t.kind = .patrolRow then
      if t.way < 16 then
        if good then (s.refetched { t with data := data }).putTxn { fresh with phase := .done, data := data }
        else (s.refetchFailed t).putTxn { fresh with phase := .done, poisoned := true }
      else (if good then s else s.bump (K.fillsSkipped t.slice)).putTxn { fresh with phase := .done, data := data, poisoned := !good }
    else if t.way < 16 then
      if good then (s.refetched { t with data := data }).finishRead { fresh with data := data }
      else if t.kind = .repair then (s.refetchFailed t).endTxn t.id
      else (s.refetchFailed t).failRead fresh
    else if good then
      (if t.blocksSet then s.fillFor { t with data := data } else s).finishRead { fresh with data := data }
    else (if t.blocksSet then s.bump (K.fillsSkipped t.slice) else s).failRead fresh
  | .poisonRead =>
    let s := if 16 ≤ t.way then s else if good then s.bump (K.repairs t.slice) else s.refetchFailed t
    if good || poison then s.writePoison t data
    else
      match s.freeLine with
      | (s, d) => s.writePoison t d
  | .queued | .snooping | .lookup | .missed | .chanRead | .memWrite | .retryGap | .granted | .poisonWait | .poisonWrite | .afterWrite
  | .answering | .done => s

/-! Bursts from the data channels. -/

/-- One correction is attributed to a chip; at the threshold the chip is marked, or the channel is to be fenced: the answer says so
(07 R199, R200). The count and the threshold of its window are kept together. -/
def State.chipError (s : State) (c chip : Nat) : State × Bool :=
  let s := s.bump (K.chipCorrections c chip)
  let k := c * 32 + chip
  let v := tget 0 s.chipErrs k
  let limit := if v = 0 then s.obj K.markThreshold else v % 256
  let count := v / 256 + 1
  if limit ≤ count then ({ s with chipErrs := tset 0 s.chipErrs k 0 }, true)
  else ({ s with chipErrs := tset 0 s.chipErrs k (count * 256 + limit) }, false)

/-- Mark a chip (07 R199); the answer is true when two chips are marked already, so that the channel is fenced (R200). -/
def State.markChip (s : State) (c chip : Nat) : State × Bool :=
  if s.obj (K.dcMarkA c) = 255 then ((s.setObj (K.dcMarkA c) chip).raiseS 25 (c + chip * 256), false)
  else if s.obj (K.dcMarkB c) = 255 then ((s.setObj (K.dcMarkB c) chip).raiseS 25 (c + chip * 256), false)
  else (s, true)

/-- The marked chips of a channel. -/
def State.marks (s : State) (c : Nat) : List Nat :=
  (if s.obj (K.dcMarkA c) < 20 then [s.obj (K.dcMarkA c)] else []) ++
    (if s.obj (K.dcMarkB c) < 20 then [s.obj (K.dcMarkB c)] else [])

/-- A read that its channel's fencing ends is served as a miss from memory (07 R200); a scrub row is left unread (08 R224), which `aux`
4 says. -/
def State.readEnded (s : State) (why : ReadWhy) : State :=
  match why with
  | .merge | .unused => s
  | .txn id =>
    s.modTxn id (fun t => if t.kind = .scrubRow ∨ t.kind = .patrolRow then { t.missedRead with aux := 4 } else t.missedRead)

/-- Set a fence bit, raise event 26 and enter Degraded unless the mode is Sole or no working mode (15 R394). -/
def State.fenceUnit (s : State) (key kind unit : Nat) : State :=
  let s := (s.setObjBit key unit true).bump K.fences
  (s.raiseS 26 (kind + unit * 256)).toWorking

/-- Fence a data channel (07 R200). -/
def State.fenceChan (s : State) (c : Nat) : State :=
  if (s.chan c).state = .fenced then s
  else
    let reads := (s.chan c).owedReads
    let s := s.modChan c (fun h => h.stopped .fenced)
    let s := (List.range 32).foldl (fun s h => (s.clearWay h c).clearWay h (c + 8)) s
    let s := s.fenceUnit K.fenceDc 1 c
    reads.foldl State.readEnded s

/-- Chips corrected in a line are attributed, once each (07 R198, R199). -/
def State.attribute (s : State) (c : Nat) (chips : List Nat) : State :=
  chips.foldl (fun s chip =>
    match s.chipError c chip with
    | (s, false) => s
    | (s, true) =>
      match s.markChip c chip with
      | (s, false) => s
      | (s, true) => s.fenceChan c) s

/-- A corrected line (07 R198, 08 R218): the count, the log with the chip corrected or 0x3F, and the corrections of unmarked chips. -/
def State.lineCorrected (s : State) (c ba : Nat) (chips : List Nat) : State :=
  let s := (s.bump (K.linesCorrected c)).reportCe 5 c ba (match chips with
    | [x] => x
    | _ => 63)
  s.attribute c (chips.filter (fun i => !((s.marks c).contains i)))

/-- An uncorrectable line (07 R201): the counts, the error of the way, and the line leaves the way if it is still there. -/
def State.lineBad (s : State) (c line w : Nat) : State :=
  let s := (s.bump (K.linesUncorrectable c)).bump (K.arrayUe 5)
  let s := match s.setOf line with
    | some p => if s.holdsLine line w then s.dropWay p (bucketOf line) w else s
    | none => s
  s.wayError (s.sliceOf line) w

/-- An uncorrectable line of a transaction (07 R201, 06 R178): a read is served as a miss once its set is free, a poison write reads
memory. -/
def State.badBurst (s : State) (t : Txn) (c : Nat) : State :=
  let s := s.lineBad c t.line t.way
  if t.phase = .poisonRead then (s.putTxn t).memRead t true else s.putTxn { t with phase := .missed }

/-- A burst for a transaction (07 R191, R197, R198, R201; 06 R178). -/
def State.txnBurst (s : State) (t : Txn) (c ba : Nat) (burst : Burst) : State :=
  match decodeBurst (s.marks c) burst with
  | some (data, fixed, chips) =>
    let s := if fixed then s.lineCorrected c ba chips else s
    (match t.phase with
    | .chanRead => s.finishRead { t with data := data, way := 16 }
    | .poisonRead => s.writePoison t data
    | .queued | .snooping | .lookup | .missed | .memRead | .memWrite | .retryGap | .granted | .poisonWait | .poisonWrite | .afterWrite
    | .answering | .done => s)
  | none => s.badBurst t c

/-! Writes. -/

/-- The data of an announced WRITEBACK is the snoop's data (04 R121): memory holds it already, so a read answers it as clean; a write
overlays its own bytes on it. -/
def Txn.takeWriteback (t : Txn) (data : Line) : Txn :=
  match t.kind with
  | .drain | .siWrite | .ledger | .ringLine | .descriptor => { t with data := overlay data t.data t.mask, mask := fullMask }
  | .readShared | .readOwn | .loadReserve | .upgrade | .readUnc | .walk | .ctrlRead | .siRead | .siReadInval =>
    { t with wbData := some data }
  | .zeroLine | .storeCond | .writeback | .orphan | .evictOffer | .recallCapacity | .recallCat | .recallMaint | .recallReset
  | .recallDrain | .recallGive | .poison | .maintPreload | .maintInval | .maintUnlock | .scrubRow | .patrolRow | .repair => t

/-- A transaction that waited for a write-back goes on with its data (04 R121, 05 R152). -/
def State.announcedDone (s : State) (t : Txn) : State :=
  { s with txns := s.txns.map (fun u =>
      if u.line = t.line ∧ u.wbFrom.contains t.port = true then
        { u.takeWriteback t.data with wbFrom := u.wbFrom.erase t.port }
      else u) }

/-- The memory write of a transaction is acknowledged OK (05 R143, R149; 06 R175; 15 R388). -/
def State.wroteOk (s : State) (t : Txn) : State :=
  match t.kind with
  | .drain => s.writeAcked t
  | .writeback | .orphan =>
    let s := if t.kind = .orphan then s.bump K.orphanWb else s
    let s := if t.told || t.gone then s else s.respond t.port { op := .complete, tid := t.tid, epoch := t.epoch }
    let s := s.modPort t.port (fun p => { p with accesses := p.accesses.filter (fun a => a.key != .wb t.line) })
    let s := s.announcedDone t
    if t.fills && (s.setOf t.line).isSome then s.putTxn { t with phase := .lookup, filled := true } else s.endTxn t.id
  | .siWrite => if t.after.isEmpty then s.siAnswer t 0 false else (s.siAnswer { t with id := s.nextTxn } 0 false).writeAcked t
  | .ledger | .ringLine | .descriptor => s.writeAcked t
  | .recallCapacity | .recallCat | .recallMaint | .recallReset | .recallDrain | .recallGive => s.writeAcked t
  | .readShared | .readOwn | .loadReserve | .upgrade | .readUnc | .walk | .ctrlRead | .siRead | .siReadInval | .zeroLine | .storeCond =>
    s.writeAcked t
  | .evictOffer | .poison | .maintPreload | .maintInval | .maintUnlock | .scrubRow | .patrolRow
  | .repair => s.endTxn t.id

/-- The poison write of a lost line is acknowledged: the transaction goes on without the line's data (05 R156, R158). -/
def State.poisonedOk (s : State) (t : Txn) : State :=
  let t : Txn := { t with lost := none }
  match t.kind with
  | .poison => s.endTxn t.id
  | .readShared | .readOwn | .loadReserve | .readUnc | .walk | .ctrlRead | .siRead | .siReadInval => s.failRead t
  | .upgrade => if t.filled then s.grantTxn t 4 false else s.failRead t
  | .zeroLine => s.grantTxn t 4 false
  | .storeCond => s.runStoreCond t
  | .drain | .siWrite | .ledger | .ringLine | .descriptor => s.putTxn { t with phase := .lookup }
  | .recallCapacity | .recallCat | .recallMaint | .recallReset | .recallDrain | .recallGive =>
    if t.dirty then s.putTxn { t with phase := .lookup } else s.writeAcked t
  | .writeback | .orphan | .evictOffer | .maintPreload | .maintInval | .maintUnlock | .scrubRow | .patrolRow
  | .repair => s.endTxn t.id

/-- A write that carries neither dirty data nor poison is refused or lost: the L2 line goes, and every store it carried is lost (06
R168, 09 R248, 11 R306). -/
def State.writeLost (s : State) (t : Txn) (cause : Loss) : State :=
  let s := s.l2Inval t.line
  match t.kind with
  | .drain => (s.loss t.port cause (some t.aux)).writeAcked t
  | .siWrite => s.siAnswer t 1 false
  | .ledger => (s.bump (K.ledgerDropped (t.aux / 4) (t.aux % 4))).writeAcked t
  | .ringLine | .descriptor => s.putTxn { t with phase := .done, poisoned := true }
  | .readShared | .readOwn | .upgrade | .zeroLine | .loadReserve | .storeCond | .readUnc | .writeback | .orphan | .evictOffer
  | .siRead | .siReadInval | .recallCapacity | .recallCat | .recallMaint | .recallReset | .recallDrain | .recallGive | .poison
  | .walk | .ctrlRead | .maintInval | .maintPreload | .maintUnlock | .scrubRow | .patrolRow | .repair => s.endTxn t.id

/-- A write that carries dirty data or poison is refused (13 R344): it waits for its gap and is sent again up to the limit in force at
its first refusal; then Fault-hold. -/
def State.preciousRefused (s : State) (t : Txn) : State :=
  let limit := if t.retries = 0 then s.obj K.writeRetryLimit else t.limit
  if limit ≤ t.retries then s.fatal (if t.phase = .poisonWrite then 4 else 3) (s.granuleLink t.line) (lineDetail t.line)
  else
    let s := if t.retries = 0 then s.l2Inval t.line else s
    s.putTxn { t with phase := .retryGap, retries := t.retries + 1, limit := limit, repairing := t.repairing,
                      poisoned := t.phase == .poisonWrite }

/-- WRITE_RETRY_GAP has passed: the write goes out again (13 R344). -/
def State.resend (s : State) (t : Txn) : State :=
  let s := s.bump K.writeRetries
  if t.poisoned then (s.putTxn { t with phase := .poisonWrite, poisoned := false }).memWrite t fullMask t.poison true true
  else (s.putTxn { t with phase := .memWrite }).memWrite t t.mask t.data false t.kind.reservedClass

/-- WR_ACK for a transaction (09 R247, R248). -/
def State.txnWrote (s : State) (t : Txn) (ok : Bool) (cause : Loss) : State :=
  match t.phase with
  | .memWrite => if ok then s.wroteOk t else if t.precious then s.preciousRefused t else s.writeLost t cause
  | .poisonWrite => if ok then s.poisonedOk t else s.preciousRefused t
  | .queued | .snooping | .lookup | .missed | .chanRead | .memRead | .retryGap | .granted | .poisonWait | .poisonRead | .afterWrite
  | .answering | .done => s

/-! Dead agents (05 R156). -/

/-- A lost line of a dead port. -/
def State.loseLine (s : State) (n line : Nat) : State :=
  let s := s.modPort n (fun p => { p with lostLines := p.lostLines + 1 })
  s.newTxnFirst { id := 0, kind := .poison, line := line, slice := s.sliceOf line, port := n, part := s.partOf n, entry := .waiting,
                  lost := some (n, 1), mask := fullMask }

/-- Is a write-back of the line from the port already in the hub? -/
def State.hasWriteback (s : State) (n line : Nat) : Bool :=
  s.txns.any (fun t => (t.kind == .writeback || t.kind == .orphan) && t.port == n && t.line == line)

/-- The transactions that a dead port leaves without an answer: those that asked it, unless the data of its answer is in the hub, and
those that wait for a write-back that has not arrived (05 R156 step 4, R158). -/
def State.unanswered (s : State) (n : Nat) : List Txn :=
  let p := s.port n
  let here := (p.snoops.filter (fun x => p.held.any (fun d => d.tid == x.tid))).map (·.txn)
  s.txns.filter (fun t => (t.asked.contains n && !here.contains t.id) || (t.wbFrom.contains n && !s.hasWriteback n t.line))

/-- A transaction that asked a dead port, or waits for its write-back, is answered: an S copy is gone, an EM or O copy is a lost line
(05 R156 step 4, R158). -/
def State.deadAnswer (s : State) (n : Nat) (t : Txn) : State :=
  match s.recordedAs n t.line with
  | (s, own) =>
    let gone := own.mayBeDirty || t.askedDirty.contains n || t.wbFrom.contains n
    let s := s.dropLine n t.line
    let s := if gone then s.modPort n (fun p => { p with lostLines := p.lostLines + 1 }) else s
    s.modTxn t.id (fun t => { t.heard n with
      wbFrom := t.wbFrom.erase n, owed := t.owed.filter (fun o => o.port != n)
      lost := if gone then some (n, 1) else t.lost })

/-- Requests that a port waits for an answer to. -/
def TxnKind.asksFor : TxnKind → Bool
  | .readShared | .readOwn | .upgrade | .zeroLine | .loadReserve | .storeCond | .readUnc | .evictOffer | .walk => true
  | .drain | .writeback | .orphan | .siRead | .siReadInval | .siWrite | .recallCapacity | .recallCat | .recallMaint | .recallReset
  | .recallDrain | .recallGive | .poison | .ledger | .ringLine | .descriptor | .ctrlRead | .maintInval | .maintPreload | .maintUnlock
  | .scrubRow | .patrolRow | .repair => false

/-- The port's link is down: its requests that wait for a line are discarded, and so are error reports not yet sent (05 R156 step 2);
what is under way at a home ends without a grant or an answer (13 R343). Grants sent end as reclamation says. -/
def State.requestsGone (s : State) (n : Nat) : State :=
  { s with txns := (s.txns.filter (fun t =>
      !(t.port == n && t.kind.asksFor && (t.phase == .queued || t.phase == .answering)))).map (fun t =>
        if t.port = n ∧ t.phase ≠ .granted then { t with gone := true } else t) }

/-- The link of a port goes down (03 R69, R76; 13 R343): APn_PRDY, the sidebands and everything the port holds that its link carried.
Requests not yet admitted, unanswered barriers, WAIT_EVENT and SLEEP_REQ are discarded. An answered PORT barrier still orders the stores
and the data that the hub holds (02 R36, R51). -/
def State.portDown (s : State) (n : Nat) : State :=
  let up := (s.link (portLink n)).ended
  let s := s.modLink (portLink n) LinkEnd.lowered
  let s := s.modPort n (fun p => { p with
    mode := .down, areq := false, agnt := false, wake := false, outstanding := [], owedErrors := [], waiting := [], walk := none
    barriers := p.barriers.filter (·.answered), waitEvent := none, sleepTid := none, map := none, mapNext := none
    snoops := p.snoops.filter (fun x => p.held.any (fun d => d.tid == x.tid)), snoopQueue := [], resetReqs := []
    resetBars := [], reservation := none, mapAcked := 0
    accesses := p.accesses.filter (fun a => match a.key with
      | .load _ => false
      | .store _ | .dev _ | .wb _ => true) })
  let s : State := { s.requestsGone n with
    commitPending := s.commitPending &&& ~~~ (1#64 <<< n), due := s.due.filter (fun x => !x.1.isOf n) }
  if up && (s.memberOf n).isSome then s.raisePS (s.partOf n) 4 n n else s

/-- One device access of a port that was not issued is discarded; a posted write that was answered OK is a loss (13 R337, R343). -/
def State.dropDevice (s : State) (n : Nat) (r : ArchReq) : State :=
  match r.who with
  | .txn _ => s
  | .dev _ _ id =>
    let s := if r.pkt.op = .devWr ∧ !r.pkt.strict then s.loss n .devB (some id) else s
    s.modPort n (fun p => { p with accesses := p.accesses.filter (fun a => a.key != .dev id) })

/-- Device accesses of a port that are not issued are discarded; those issued complete at their target and their answers are discarded
(13 R343). -/
def State.dropDevices (s : State) (n : Nat) : State :=
  let unissued := (List.range 8).flatMap (fun k => (s.ml k).waiting.filter (fun r => r.devPort == some n))
  let answered := (List.range 8).flatMap (fun k => (s.ml k).devOrder.filter (fun d => d.port == n && d.answer.isSome))
  let s := (List.range 8).foldl (fun s k => s.modMl k (fun m => { m with
    waiting := m.waiting.filter (fun r => r.devPort != some n)
    outstanding := m.outstanding.map (fun o => if o.2.devPort = some n then (o.1, { o.2 with live := false }) else o)
    devOrder := m.devOrder.filter (fun d => d.port != n) })) s
  let s := unissued.foldl (fun s r => s.dropDevice n r) s
  s.modPort n (fun p => { p with accesses := p.accesses.filter (fun a => !(answered.any (fun d => a.key == .dev d.id))) })

/-- Steps 1 to 3 of a reclamation (05 R156): the port's waiting requests and credits go, its grants end, its snoops are answered and
its stores drain. The end of its loan is the loan rules' (09 R258). -/
def State.reclaimPort (s : State) (n : Nat) : State :=
  let left := (s.unanswered n).map (·.id)
  let s := (s.portDown n).dropDevices n
  let s := (s.credits.filter (fun c => c.port == n)).foldl (fun s c => s.bump (K.creditsExpired c.slice)) s
  let s := { s with credits := s.credits.filter (fun c => c.port != n) }
  let s := (s.txns.filter (fun t => t.phase == .granted && t.port == n && !t.ackIn)).foldl (fun s t => s.grantEnds t) s
  let s : State := (s.txns.filter (fun t => left.contains t.id)).foldl (fun (s : State) t => s.deadAnswer n t) s
  (s.drainAll n).modPort n (fun (p : PortSt) => { p with reclaim := if p.reclaim = Reclaim.idle then Reclaim.draining else p.reclaim })

/-- The copies of a port that recalls not yet started owe a snoop to (05 R137, R159). -/
def State.recallsOf (s : State) (n : Nat) : List (Nat × CatState) :=
  s.txns.flatMap (fun t => if t.phase = .queued then (t.owed.filter (fun o => o.port == n)).map (fun o => (t.line, o.st)) else [])

/-- Step 4: the dead port's stores are visible; each of its entries is freed (05 R156), and so is each copy that a recall not yet started
would have asked for (05 R137, R159). -/
def State.reclaimEntries (s : State) (n : Nat) : State :=
  match s.sweepPort n with
  | (s, es) =>
    let copies := es.map (fun e => (e.line, e.st)) ++ s.recallsOf n
    let s : State := { s with
      arrays := s.arrays.filter (fun w => w.1 / 2 ^ 16 != 0x100 + n)
      lostEntries := s.lostEntries.filter (fun x => x.1 != n)
      txns := s.txns.map (fun t => if t.phase = .queued then { t with owed := t.owed.filter (fun o => o.port != n) } else t) }
    let s := s.modPort n (fun p => { p with reclaim := .poisoning })
    copies.foldl (fun s c => if c.2.mayBeDirty then s.loseLine n c.1 else s) s

/-- Is every poison write of a dead port acknowledged? -/
def State.poisonsDone (s : State) (n : Nat) : Bool :=
  !(s.txns.any (fun t => match t.lost with
    | some (m, _) => m == n
    | none => false))

/-- Step 7: reclamation ends (05 R156): LINES_POISONED and event 5. -/
def State.reclaimEnd (s : State) (n : Nat) : State :=
  let lost := (s.port n).lostLines
  let s := s.addObj (K.linesPoisoned n) lost
  let s := s.modPort n (fun p => { p with reclaim := .idle, lostLines := 0 })
  s.raisePS (s.partOf n) 5 (n + lost * 256) n

end Sys2Proof.Machine
end

