-- ==== Sys2Proof/Machine/Flags.lean ====
section
/-! DEFINITION. The levels and fields that the state decides: port states, the presenting port and APn_IRQ (11 R294 to R301, R307),
PARK_RDY (15 R382), nFAULT, HUB_STATUS (17 R437), and the frame in which every command runs. -/

namespace Sys2Proof.Machine

/-- PORT_STATE (04 R129). -/
def PortSt.code (p : PortSt) : Nat :=
  match p.mode with
  | .down => 0
  | .bringup => 1
  | .awaitDescribe => 2
  | .run => if p.waitEvent.isSome then 5 else 3
  | .sleeping => 4

/-- Run, sleeping or waiting (11 R300). -/
def PortSt.live (p : PortSt) : Bool := p.mode == .run || p.mode == .sleeping

/-- The running priority (11 R295). -/
def CtlSt.running (c : CtlSt) : Nat :=
  match c.stack with
  | [] => 16
  | (_, p) :: _ => p

/-- The better of two candidates: lower priority value, then lower INTID, which comes first. -/
def better (best : Option (Nat × Nat)) (i pri : Nat) : Option (Nat × Nat) :=
  match best with
  | none => some (i, pri)
  | some (j, q) => if pri < q then some (i, pri) else some (j, q)

/-- The candidate of a controller in LINE mode with its priority (11 R295). -/
def State.candidate (s : State) (p : Nat) : Option (Nat × Nat) :=
  if (s.ctl p).pending = 0 then none
  else
    (List.range 256).foldl (fun best i =>
      if (s.ctl p).pending.getLsbD i && s.intEnabled p i then better best i (s.intPri p i) else best) none

/-- Does the controller present in LINE mode (11 R295)? -/
def State.linePresents (s : State) (p : Nat) : Bool :=
  match s.candidate p with
  | none => false
  | some (_, q) => q < (s.ctl p).running

/-- Is ledger l of partition p enabled? -/
def State.ledgerOn (s : State) (p l : Nat) : Bool := s.obj (K.ledgerEnable p l) == 1

/-- Does an enabled ledger of the partition signal (11 R307)? -/
def State.ledgerSignals (s : State) (p : Nat) : Bool :=
  (List.range 4).any (fun l => s.ledgerOn p l && (s.ledger p l).state == 3)

/-- Does the partition present an interrupt (11 R301)? -/
def State.presents (s : State) (p : Nat) : Bool :=
  s.pd 2 && (if s.ledgerMode p then s.ledgerSignals p else s.linePresents p)

/-- May port n present for partition p: a member in Run, sleeping or waiting (11 R300)? -/
def State.canPresent (s : State) (p n : Nat) : Bool := s.memberOf n == some p && (s.port n).live

/-- The presenting port (11 R300). -/
def State.presenter (s : State) (p : Nat) : Option Nat :=
  let d := s.obj (K.deliveryPort p)
  let first := if d = 0xFF then (s.membersOf p).head? else some d
  match first.filter (s.canPresent p) with
  | some n => some n
  | none => (if s.obj (K.fallbackPort p) = 0xFF then none else some (s.obj (K.fallbackPort p))).filter (s.canPresent p)

/-- The levels that APn_IRQ takes (11 R301). -/
def State.irqShould (s : State) : Mask64 :=
  (List.range 16).foldl (fun m p =>
    if s.presents p then
      match s.presenter p with
      | some n => m ||| (1#64 <<< n)
      | none => m
    else m) 0

/-- Park is quiet: every catalogue entry free and every store buffer empty (14 R356). -/
def State.parkQuiet (s : State) : Bool := s.catEmpty && s.ports.all (fun x => x.2.sb.isEmpty)

/-- Does a partner serve over the pair link (15 R381, R382)? A lone hub and a unit in Sole, which is home for every bucket, have no
serving partner. -/
def State.partnerUp (s : State) : Bool := (s.pair.state == 2 || s.pair.state == 5) && s.homeNow != allBuckets

/-- The level of PARK_RDY (15 R382); its driver needs VIOM (18 R447). -/
def State.parkShould (s : State) : Bool :=
  s.mode == .park && s.drained && s.parkQuiet && (s.homeNow == 0 || !s.partnerUp) && s.viom

/-- nFAULT is driven low (13 R348; 15 R377, R378); its driver needs VIOM (18 R447). -/
def State.nfaultShould (s : State) : Bool := (s.mode == .faultHold || s.presLatched || s.presFault) && s.viom

/-- HUB_STATUS (17 R437). -/
def State.hubStatus (s : State) : Nat :=
  let low := s.mode.code + s.obj K.presState % 4 * 2 ^ 4 + s.nfaultLow.toNat * 2 ^ 6 + s.nvm.fatalValid.toNat * 2 ^ 7 +
    s.tbState % 4 * 2 ^ 8
  let middle := s.pair.state % 8 * 2 ^ 10 + s.commitState.toNat * 2 ^ 13 + s.fenced.toNat * 2 ^ 14 + s.parkRdy.toNat * 2 ^ 15 +
    (s.ports.any (fun x => x.2.fence != .normal)).toNat * 2 ^ 16 + (s.job.isSome || s.scrub.isSome).toNat * 2 ^ 17
  low + (if s.mode = .bringup then 0 else middle) + s.obj K.modeResult % 8 * 2 ^ 18 + (s.trans != .none).toNat * 2 ^ 21

/-- A WAIT_EVENT ends (04 R124). -/
def State.endWait (s : State) (n : Nat) : State :=
  match (s.port n).waitEvent with
  | none => s
  | some tid =>
    (s.modPort n (fun p => { p with waitEvent := none })).respond n { op := .complete, tid := tid, epoch := (s.port n).epoch }

/-- A port with its IRQ high: a held WAIT_EVENT ends and a sleeping port is woken (04 R124, R126). -/
def State.irqActs (s : State) (irq : Mask64) (n : Nat) : State :=
  let p := s.port n
  let s := if p.mode = .sleeping ∧ irq.getLsbD n then s.modPort n (fun p => { p with wake := true }) else s
  if irq.getLsbD n || p.wake then s.endWait n else s

/-- What every command does first: the record of what the hub sends starts anew. -/
def State.begin (s : State) : State := { s with sent := [] }

/-- A message of the pair link. -/
def State.sendPair (s : State) (m : PairMsg) : State := s.send .pair (.pair m)

/-- PAIR_HELLO after each bring-up of the pair link and at each change of mode or home set (15 R386). -/
def State.tellPartner (s : State) : State :=
  if (s.link .pair).phase = .up ∧ s.pair.told ≠ some (s.mode.code, s.homeNow) then
    let s := s.sendPair { op := .hello, state := s.obj K.pairRole % 2 + s.mode.code * 16, home := s.homeNow,
                          mask := BitVec.ofNat 64 (s.obj K.pairMask) }
    { s with pair := { s.pair with told := some (s.mode.code, s.homeNow) } }
  else s

/-- What every command does last: PAIR_HELLO where it is owed, WAIT_EVENTs and sleep follow APn_IRQ, and the levels of APn_IRQ,
PARK_RDY and nFAULT are exact. -/
def State.finish (s : State) : State :=
  let irq := s.irqShould
  let s := s.tellPartner
  let s := s.ports.foldl (fun s x => s.irqActs irq x.1) s
  { s with irqPins := s.irqShould, parkRdy := s.parkShould, nfaultLow := s.nfaultShould }

end Sys2Proof.Machine
end

