-- ==== Sys2Proof/Machine/EventOps.lean ====
section
/-! DEFINITION. The operations of the interrupt controllers, ledgers and event pins (11 R291 to R311). -/

namespace Sys2Proof.Machine

/-- Bit i of a 256-bit map. -/
def bit256 (i : Nat) : BitVec 256 := 1#256 <<< i

/-- Is INTID i of partition p a level-mode pin that is asserted there (11 R294)? -/
def State.levelAsserted (s : State) (p i : Nat) : Bool :=
  32 ≤ i && i < 96 && s.evinAsserted.getLsbD (i - 32) && (s.obj (K.evinRoute (i - 32))).testBit p

/-- A claim (11 R296): what CLAIM reads and its effect. -/
def State.claimOp (s : State) (p : Nat) : State × Nat :=
  if s.ledgerMode p || !s.pd 2 then (s, 1023)
  else
    match s.candidate p with
    | none => (s, 1023)
    | some (i, q) =>
      if q < (s.ctl p).running then
        ((s.modCtl p (fun c => { c with
          pending := c.pending &&& ~~~ (bit256 i), active := c.active ||| bit256 i, stack := (i, q) :: c.stack })).bump (K.claims p),
          i + q * 2 ^ 16)
      else (s, 1023)

/-- The INTID at the top of the stack; 1023 when it is empty. -/
def CtlSt.top (c : CtlSt) : Nat :=
  match c.stack with
  | [] => 1023
  | (i, _) :: _ => i

/-- An EOI mismatch: EOI_LAST_BAD, the count and event 15 (11 R298). -/
def State.eoiMismatch (s : State) (p i port : Nat) : State :=
  let v := i + port * 2 ^ 10 + (s.ctl p).top * 2 ^ 16
  ((s.setObj (K.eoiLastBad p) v).bump (K.eoiMismatches p)).raisePS p 15 v port

/-- A write of EOI (11 R298); `port` is 63 over the field network. -/
def State.eoiOp (s : State) (p v port : Nat) : State :=
  let i := v % 1024
  if s.ledgerMode p || i == 1023 then s
  else
    match (s.ctl p).stack with
    | (j, _) :: rest =>
      if i = j then
        s.modCtl p (fun c => { c with
          stack := rest, active := c.active &&& ~~~ (bit256 i)
          pending := if s.levelAsserted p i then c.pending ||| bit256 i else c.pending })
      else s.eoiMismatch p i port
    | [] => s.eoiMismatch p i port

/-- A write of DOORBELL whose INTID is in range (11 R293). -/
def State.doorbellOp (s : State) (p v port : Nat) : State := s.occur p (v % 256) (v / 256 % 2 ^ 24) port

/-- Writing 1 to PENDING bits (11 R294): word w, except level pins that are asserted. -/
def State.pendingClearOp (s : State) (p w : Nat) (bits : Nat) : State :=
  let clear := (List.range 32).foldl (fun m i =>
    if bits.testBit i && !s.levelAsserted p (32 * w + i) then m ||| bit256 (32 * w + i) else m) (0 : BitVec 256)
  s.modCtl p (fun c => { c with pending := c.pending &&& ~~~ clear })

/-- The partitions of a route. -/
def routeParts (route : Nat) : List Nat := (List.range 16).filter route.testBit

/-- DETAIL of a pin event: the accepted level and EVIN_COUNT bits [23:1] (11 R292). -/
def State.pinDetail (s : State) (i : Nat) : Nat := (s.evinLevel.getLsbD i).toNat + s.obj (K.evinCount i) / 2 * 2 % 2 ^ 24

/-- One occurrence of a pin in every partition of its route (11 R292); a level pin that is active in a LINE controller does not pend
(R294). EVIN_COUNT counts the occurrence once. -/
def State.pinOccurs (s : State) (i : Nat) (isLevel : Bool) : State :=
  match routeParts (s.obj (K.evinRoute i)) with
  | [] => s
  | ps =>
    let s := s.bump (K.evinCount i)
    let detail := s.pinDetail i
    ps.foldl (fun s p =>
      if isLevel && !s.ledgerMode p && (s.ctl p).active.getLsbD (32 + i) then s else s.occur p (32 + i) detail 63) s

/-- A level pin is no longer asserted: it leaves pending (11 R294). -/
def State.pinDeasserts (s : State) (i : Nat) : State :=
  (routeParts (s.obj (K.evinRoute i))).foldl (fun s p =>
    s.modCtl p (fun c => { c with pending := c.pending &&& ~~~ (bit256 (32 + i)) }))
    { s with evinAsserted := s.evinAsserted &&& ~~~ (1#64 <<< i) }

/-- A level of a pin is accepted (11 R291, R292). -/
def State.pinAccepts (s : State) (i : Nat) (level : Bool) : State :=
  if !s.pd 2 || s.evinLevel.getLsbD i == level then s
  else
    let s := { s with evinLevel := if level then s.evinLevel ||| 1#64 <<< i else s.evinLevel &&& ~~~ (1#64 <<< i) }
    let mode := s.obj (K.evinMode i)
    let was := s.evinAsserted.getLsbD i
    if mode = 1 ∨ mode = 2 then
      if level == (mode == 1) then
        if was then s else ({ s with evinAsserted := s.evinAsserted ||| 1#64 <<< i } : State).pinOccurs i true
      else if was then s.pinDeasserts i else s
    else
      let s := if was then s.pinDeasserts i else s
      if (mode = 3 ∧ level) ∨ (mode = 4 ∧ !level) ∨ mode = 5 then s.pinOccurs i false else s

/-- A new route of a pin: in a partition that it no longer names, a pending level INTID is cleared (chapter 11, corners). -/
def State.routeChanges (s : State) (i old new : Nat) : State :=
  if s.evinAsserted.getLsbD i then
    ((routeParts old).filter (fun p => !new.testBit p)).foldl (fun s p =>
      s.modCtl p (fun c => { c with pending := c.pending &&& ~~~ (bit256 (32 + i)) })) s
  else s

/-! Ledgers. -/

/-- Is the ledger empty, with no record on its way? -/
def State.ledgerEmpty (s : State) (p l : Nat) : Bool := s.ledgerHeld p l == 0 && (s.ledger p l).recs.isEmpty

/-- The system address of a record (11 R305). -/
def State.recordAddr (s : State) (p l index : Nat) : Nat := s.obj (K.ledgerBase p l) + 16 * (index % s.ledgerSize p l)

/-- The transaction that writes a record at its home slice (11 R306). -/
def State.startRecord (s : State) (p l : Nat) (r : LedgerRec) : State :=
  let a := s.recordAddr p l r.index
  let id := s.nextTxn
  let s := s.newTxn { id := 0, kind := .ledger, line := a / 64, slice := s.sliceOf (a / 64), part := p, entry := .waiting,
                      mask := byteRange (a % 64) 16, data := shiftIn r.data.toNat (a % 64), aux := 4 * p + l }
  s.modLedger p l (fun g => { g with recs := match g.recs with
    | x :: rest => { x with txn := some id } :: rest
    | [] => [] })

/-- The first ledger whose next record has no transaction yet. -/
def State.recordWork (s : State) : Option State :=
  if !s.pd 2 || s.dead then none
  else
    match s.ledgers.find? (fun x => match x.2.recs with
        | r :: _ => r.txn.isNone
        | [] => false) with
    | none => none
    | some (k, g) =>
      match g.recs with
      | r :: _ => some (s.startRecord (k / 4) (k % 4) r)
      | [] => none

/-- Is the first record of a ledger visible: has its transaction owned its line (11 R305)? -/
def State.recordVisible (s : State) (p l : Nat) : Bool :=
  match (s.ledger p l).recs with
  | [] => false
  | r :: _ =>
    match r.txn with
    | none => false
    | some id => !(s.txns.any (fun t => t.id == id && t.phase == .queued))

/-- The state of a ledger after a record is written (11 R307, R309): `intid` 7 ends moderation whatever MOD_BYPASS_PRI. -/
def State.moderate (s : State) (p l pri intid : Nat) : State :=
  let g := s.ledger p l
  let now := decide (pri < s.obj (K.modBypassPri p l)) || intid == 7
  if g.state = 3 then s
  else if g.state = 2 then
    s.modLedger p l (fun g => { g with count := g.count + 1, state := if now || g.limit ≤ g.count + 1 then 3 else 2 })
  else
    let limit := s.obj (K.modCount p l)
    s.modLedger p l (fun g => { g with
      count := 1, limit := limit, state := if now || limit ≤ 1 || s.obj (K.modTime p l) == 0 then 3 else 2 })

/-- A record is visible at its home slice (11 R305, R307). -/
def State.recordWritten (s : State) (p l : Nat) : State :=
  match (s.ledger p l).recs with
  | [] => s
  | r :: rest =>
    let s := s.modLedger p l (fun g => { g with recs := rest })
    (s.bump (K.ledgerHead p l)).moderate p l r.pri (r.data.toNat % 256)

/-- A write of LEDGER_TAIL whose occupancy is in bounds (11 R305, R307); a ledger with room again ends its overflow episode (R306). -/
def State.tailOp (s : State) (p l v : Nat) : State :=
  let s := s.setObj (K.ledgerTail p l) v
  let room := ((s.ledger p l).next + 0x100000000 - v) % 0x100000000 < s.ledgerSize p l
  let s := s.modLedger p l (fun g => { g with full := g.full && !room })
  if s.ledgerHeld p l = 0 then s.modLedger p l (fun g => { g with state := 1, count := 0 })
  else s.modLedger p l (fun g => if g.state = 1 then { g with state := 3 } else g)

/-- Is a TAIL inside its bounds (11 R305)? -/
def State.tailOk (s : State) (p l v : Nat) : Bool :=
  (s.obj (K.ledgerHead p l) + 0x100000000 - v) % 0x100000000 ≤ s.ledgerSize p l

/-- A ledger starts anew: HEAD and TAIL 0, empty (11 R305, R310). -/
def State.ledgerRestart (s : State) (p l : Nat) : State :=
  ((s.setObj (K.ledgerHead p l) 0).setObj (K.ledgerTail p l) 0).modLedger p l (fun _ => {})

/-- MODE goes from LINE to LEDGER (11 R311): the record of a pending INTID is that of the occurrence that made it pending. DEDUCED
(assumption 89). -/
def State.lineToLedger (s : State) (p : Nat) : State :=
  let old := s.ctl p
  let s := s.modCtl p (fun _ => {})
  (List.range 256).foldl (fun s i =>
    if old.pending.getLsbD i && s.intEnabled p i then
      let x := tget (0, 63, s.deviceTime) old.info i
      let detail := if 32 ≤ i ∧ i < 96 then s.pinDetail (i - 32) else x.1
      s.occurPri p i (s.intPri p i) detail x.2.1 x.2.2
    else s) s

/-- MODE goes from LEDGER to LINE (11 R294, R311). -/
def State.ledgerToLine (s : State) (p : Nat) : State :=
  let s := (List.range 4).foldl (fun s l => s.modLedger p l (fun g => { g with state := 1, count := 0 })) s
  let pins := (List.range 64).foldl (fun m i => if s.levelAsserted p (32 + i) then m ||| bit256 (32 + i) else m) (0 : BitVec 256)
  s.modCtl p (fun c => { c with pending := c.pending ||| pins })

/-- The controller returns to its reset state at step 4 of a partition reset (11 R310); an asserted level pin pends again (R294). -/
def State.ctlReset (s : State) (p : Nat) : State :=
  let s := s.modCtl p (fun _ => {})
  let s := (List.range 4).foldl (fun s l => (s.ledgerRestart p l).setObj (K.ledgerDropped p l) 0) s
  let s := (s.setObj (K.eoiMismatches p) 0).setObj (K.claims p) 0
  if s.ledgerMode p then s else s.ledgerToLine p

/-! Sleep and waiting. -/

/-- Does the port count as waiting (11 R309)? -/
def PortSt.waits (p : PortSt) : Bool := p.waitEvent.isSome || p.mode == .sleeping

/-- Has the partition nothing pending (11 R309)? -/
def State.nothingPending (s : State) (p : Nat) : Bool :=
  if s.ledgerMode p then (List.range 4).all (fun l => s.ledgerEmpty p l) else (s.candidate p).isNone

/-- Do all its ports wait (11 R309)? -/
def State.allWait (s : State) (p : Nat) : Bool :=
  let up := (s.membersOf p).filter s.prdy
  !up.isEmpty && up.all (fun n => (s.port n).waits) && s.nothingPending p

/-- Must a SLEEP_REQ of port n be refused for events (11 R308)? -/
def State.sleepHeldUp (s : State) (n : Nat) : Bool :=
  match s.memberOf n with
  | none => false
  | some p => s.presenter p == some n &&
      (if s.ledgerMode p then (List.range 4).any (fun l => s.ledgerOn p l && (s.ledger p l).state != 1) else s.linePresents p)

/-- Moderation of a partition ends (11 R308). -/
def State.endModeration (s : State) (p : Nat) : State :=
  (List.range 4).foldl (fun s l =>
    if s.ledgerOn p l then s.modLedger p l (fun g => if g.state = 2 then { g with state := 3 } else g) else s) s

end Sys2Proof.Machine
end

