-- ==== Sys2Proof/Machine/LinkOps.lean ====
section
/-! DEFINITION. What the links' ends share: answers of device accesses (02 R23 to R26, 09 R246, R248), loans (09 R254 to R258), the
failure of a port's link (03 R76, R89), of an Archive link (09 R250, R251) and of the pair link (15 R392), and resynchronisation (03
R88). -/

namespace Sys2Proof.Machine

/-! Device accesses. -/

/-- The epoch under which an outstanding request is answered (04 R103). -/
def State.epochOf (s : State) (n tid : Nat) : Nat :=
  match (s.port n).outstanding.find? (fun o => o.1 == tid) with
  | some o => o.2
  | none => (s.port n).epoch

/-- A device access of a port has ended (02 R24, R34). -/
def State.devDone (s : State) (n id : Nat) : State :=
  s.modPort n (fun p => { p with accesses := p.accesses.filter (fun a => a.key != .dev id) })

/-- Answer a device access on link k, with what its status counts and raises (11 R288, 13 R335). -/
def State.deviceAnswer (s : State) (n k : Nat) (m : DownMsg) : State :=
  let s := if m.status = 8 then (s.bump (K.deviceErrors n)).occur (s.partOf n) 8 (n + k * 256) n else s
  let s := if m.status = 5 then s.bump (K.poisonAnswers n) else s
  s.respond n m

/-- Return the device reads of a port on link k that are answered and in turn (02 R26, 09 R246); `fuel` bounds how many. -/
def State.devRelease (s : State) (k n : Nat) : Nat → State
  | 0 => s
  | fuel + 1 =>
    match (s.ml k).devOrder.find? (fun d => d.port == n) with
    | none => s
    | some d =>
      match d.answer with
      | none => s
      | some m =>
        let s := s.modMl k (fun l => { l with devOrder := l.devOrder.erase d })
        ((s.deviceAnswer n k m).devDone n d.id).devRelease k n fuel

/-- A device read has its answer: it waits for the earlier reads of its port. -/
def State.devReadEnds (s : State) (k n tid id : Nat) (m : DownMsg) : State :=
  let m := { m with op := .rdata, tid := tid, epoch := s.epochOf n tid }
  let s := s.modMl k (fun l => { l with
    devOrder := l.devOrder.map (fun d => if d.port = n ∧ d.id = id then { d with answer := some m } else d) })
  s.devRelease k n (s.ml k).devOrder.length

/-- A device access of link k ends with an error (09 R248, R250): a strict access or a read is answered DEVICE_ERROR, a posted write is
lost. -/
def State.devFails (s : State) (k : Nat) (r : ArchReq) (c : Loss) : State :=
  match r.who with
  | .txn _ => s
  | .dev n tid id =>
    if !r.live then if r.pkt.op = .devWr ∧ !r.pkt.strict then (s.loss n c (some id)).devDone n id else s.devDone n id
    else if r.pkt.op = .devRd then s.devReadEnds k n tid id { op := .rdata, status := 8 }
    else if r.pkt.strict then
      (s.deviceAnswer n k { op := .complete, tid := tid, epoch := s.epochOf n tid, status := 8 }).devDone n id
    else (s.loss n c (some id)).devDone n id

/-! Loans. -/

/-- The link whose arbiter a port's loan uses. -/
def State.loanLink (s : State) (n : Nat) : Option Nat := (s.port n).loanTarget.map s.carrier

/-- The link on which a port holds a loan. -/
def State.loanOf (s : State) (n : Nat) : Option Nat := (List.range 8).find? (fun k => (s.ml k).owner == some n)

/-- Is the port a candidate for link k (09 R255)? -/
def State.loanCandidate (s : State) (k n : Nat) : Bool :=
  let p := s.port n
  p.mode == .run && p.areq && p.loanFresh && s.loanLink n == some k && (s.loanOf n).isNone

/-- The winner of link k: the first candidate after the last owner, wrapping at AP47 (09 R255). -/
def State.loanWinner (s : State) (k : Nat) : Option Nat :=
  ((List.range 48).map (fun i => ((s.ml k).lastOwner + 1 + i) % 48)).find? (s.loanCandidate k)

/-- Grant the loan of a free link (09 R255, R256 step 4). -/
def State.loanGrant (s : State) (k : Nat) : State :=
  if (s.ml k).owner.isSome || (s.ml k).ending.isSome then s
  else
    match s.loanWinner k with
    | none => s
    | some n =>
      ((s.modMl k (fun m => { m with owner := some n, grantTime := s.deviceTime })).modPort n (fun p =>
        { p with agnt := true, loanFresh := false })).bump (K.loansGranted k)

/-- Has the tenure that ends locked accesses that are not over? -/
def MlSt.lockedLeft (m : MlSt) : Bool :=
  m.outstanding.any (fun o => o.2.pkt.locked && o.2.devPort == some m.tenant) ||
    m.waiting.any (fun r => r.pkt.locked && r.devPort == some m.tenant)

/-- The owner's APn_AGNT falls: the tenure's length, and whether APn_AREQ has been low since (09 R255, R259). -/
def State.agntFalls (s : State) (k n : Nat) : State :=
  let t := (s.deviceTime - (s.ml k).grantTime) % 0x100000000
  let s := if s.obj (K.loanLongest k) < t then s.setObj (K.loanLongest k) t else s
  (s.modMl k (fun m => { m with owner := none, lastOwner := n })).modPort n (fun p =>
    { p with agnt := false, loanFresh := !p.areq })

/-- The locked accesses of an ending tenure are over: LOCK_RELEASE goes out and the next owner is granted (09 R256 to R258). -/
def State.loanClose (s : State) (k : Nat) : State :=
  match (s.ml k).ending with
  | none => s
  | some c =>
    if (s.ml k).lockedLeft then s
    else
      let s := match (s.ml k).owner with
        | some n => s.agntFalls k n
        | none => s
      ((s.modMl k (fun m => { m with ending := none, tenant := 48 })).send (archLink k) (.arch { op := .lockRelease, status := c })).loanGrant k

/-- Locked accesses of a port on link k that are not issued are not performed; they are answered LOCK_BROKEN while its link is up (09
R257 step 2, R258). DEDUCED (assumption 76): a posted one, which was answered OK when it was queued, is a lost DEV-B write. -/
def State.lockBroken (s : State) (k n : Nat) : State :=
  let unissued := (s.ml k).waiting.filter (fun r => r.pkt.locked && r.devPort == some n)
  unissued.foldl (fun s r =>
    match r.who with
    | .txn _ => s
    | .dev _ tid id =>
      let s := s.modMl k (fun m => { m with waiting := m.waiting.erase r })
      if r.pkt.op = .devRd then s.devReadEnds k n tid id { op := .rdata, status := 9 }
      else if !r.pkt.strict then (s.loss n .devB (some id)).devDone n id
      else (s.refuse n tid (s.epochOf n tid) .complete 9).devDone n id) s

/-- A loan is cut at its limit, or its owner is lost (09 R257, R258). -/
def State.loanCut (s : State) (k cause : Nat) : State :=
  match (s.ml k).owner with
  | none => s
  | some n =>
    let s := (s.agntFalls k n).modMl k (fun m => { m with tenant := n, ending := some cause })
    let s := s.lockBroken k n
    let s := (s.setObj (K.loanFlag n) 1).bump (K.loansBroken k)
    (s.raisePS (s.partOf n) 9 (n + cause * 256) n).loanClose k

/-- The owner of a loan is lost (09 R258). -/
def State.loanLost (s : State) (n : Nat) : State :=
  match s.loanOf n with
  | some k => s.loanCut k 2
  | none => s

/-! Ports. -/

/-- The port's APn_PRDY falls, whatever the reason: it is reclaimed and its loan ends, without an answer (03 R76; 05 R156; 09 R258; 13
R343). -/
def State.portDies (s : State) (n : Nat) : State := if s.prdy n then (s.reclaimPort n).loanLost n else s

/-- The link of a port fails (03 R89; 05 R146; 04 R112, R127). -/
def State.portFails (s : State) (n : Nat) : State := if s.prdy n then (s.bump (K.linkFails n)).portDies n else s

/-- A bring-up of a port fails (03 R78): no new one before BRINGUP_RETRY. -/
def State.portBringupFails (s : State) (n : Nat) : State :=
  ((s.bump (K.bringupFails n)).portDies n).modLink (portLink n) (fun e => { e with backoff := true })

/-! Archive links. -/

/-- ML_STATE codes (09 R259). -/
def MlState.code : MlState → Nat
  | .notEnabled => 0 | .bringup => 1 | .serving => 2 | .down => 3 | .fenced => 4 | .off => 5

/-- The state of an Archive link changes: event 10 (11 R288). -/
def State.mlTo (s : State) (k : Nat) (st : MlState) : State :=
  if (s.ml k).state = st then s
  else (s.modMl k (fun m => { m with state := st })).raiseS 10 (k + st.code * 256)

/-- MLn_RDYO falls: every symbol in flight and the link layer's state go (09 R232). -/
def State.mlLower (s : State) (k : Nat) : State :=
  (s.modLink (archLink k) LinkEnd.lowered).modMl k (fun m => { m with describable := false })

/-- Normal accesses that were outstanding go back to the front of a link's queue, in their order (09 R250). -/
def State.requeue (s : State) (k j : Nat) (l : List ArchReq) : State :=
  s.modMl j (fun m => { m with waiting := l.map (fun r => { r with again := some k }) ++ m.waiting })

/-- SNOOP_IN not yet answered is abandoned: its home discards the answer (09 R250). -/
def State.abandonSi (s : State) (k : Nat) : State :=
  { s.modMl k (fun m => { m with si := [] }) with
    txns := s.txns.map (fun t => if (t.kind == TxnKind.siRead || t.kind == .siReadInval || t.kind == .siWrite) && t.aux / 256 == k
      then { t with aux := 255 * 256 } else t) }

/-- The accesses outstanding and waiting on a link whose traffic goes elsewhere or must wait (09 R250): `to` is the link that carries
them from now on. -/
def State.mlEnds (s : State) (k j : Nat) : State :=
  let out := (s.ml k).outstanding.map (·.2)
  let normal := out.filter (fun r => r.devPort.isNone)
  let dev := out.filter (fun r => r.devPort.isSome)
  let waiting := (s.ml k).waiting
  let s := s.modMl k (fun m => { m with outstanding := [], waiting := [] })
  let s := s.abandonSi k
  let s := (s.modMl j (fun m => { m with waiting := m.waiting ++ waiting })).requeue k j normal
  let s := dev.foldl (fun s r => s.devFails k r .expired) s
  if j = k then s
  else
    let moved := (s.ml k).devOrder
    (s.modMl k (fun m => { m with devOrder := [] })).modMl j (fun m => { m with devOrder := m.devOrder ++ moved })

/-- A link of a dual pair is fenced while its partner serves (09 R241, R250, R258): its loan ends there, and what is left goes to the
partner. -/
def State.mlFence (s : State) (k j : Nat) : State :=
  let s := (((s.mlLower k).modMl k (fun m => { m with away := true })).loanCut k 2).mlEnds k j
  let s := s.modMl k (fun m => { m with owner := none, ending := none, tenant := 48, expired := false })
  ((s.mlTo k .fenced).fenceUnit K.fenceMl 2 k).loanGrant j

/-- An Archive link fails (09 R250). -/
def State.mlFails (s : State) (k : Nat) : State :=
  if !s.ready (archLink k) then s
  else
    let served := s.mlServes k
    let s := s.bump (K.mlLinkFails k)
    match s.partner k with
    | some j =>
      if served && s.mlServes j then s.mlFence k j else ((s.mlLower k).mlEnds k k).mlTo k .down
    | none => ((s.mlLower k).mlEnds k k).mlTo k .down

/-- A bring-up of an Archive link fails (09 R232, 03 R78). -/
def State.mlBringupFails (s : State) (k : Nat) : State :=
  ((s.mlLower k).mlTo k .down).modLink (archLink k) (fun e => { e with backoff := true })

/-! The pair link. -/

/-- PAIR_STATE changes: event 11 (15 R386). -/
def State.pairTo (s : State) (st : Nat) : State :=
  if s.pair.state = st then s
  else
    let old := s.pair.state
    ({ s with pair := { s.pair with state := st } } : State).raiseS 11 (st + old * 256)

/-- The pair link goes down at this end: PL_RDYO low for 500 ticks, symbols in flight and the replay buffer gone (15 R392). -/
def State.pairLower (s : State) : State :=
  { s.modLink .pair (fun e => { e.lowered with backoff := true }) with pair := { s.pair with greeted := false, told := none } }

/-- The pair link fails at this end (15 R392). -/
def State.pairFails (s : State) : State :=
  if s.ready .pair then
    let s := (s.bump K.plLinkFails).pairLower
    if s.pair.state = 2 ∨ s.pair.state = 5 ∨ s.pair.state = 4 then s.pairTo 1 else s
  else s

/-! Any link. -/

/-- A failure of a link at the hub's end (03 R89). -/
def State.linkFails (s : State) (l : LinkId) : State :=
  match l with
  | .port n => s.portFails n.val
  | .arch k => s.mlFails k.val
  | .pair => s.pairFails

/-- A failed bring-up (03 R78, 09 R232, 15 R392). -/
def State.bringupFails (s : State) (l : LinkId) : State :=
  match l with
  | .port n => s.portBringupFails n.val
  | .arch k => s.mlBringupFails k.val
  | .pair => s.pairFails

/-- The counters of a link: code violations, CRC failures, framing errors, LINK_RESYNC sent and received (04 R129, 09 R259, 15 R396).
The pair link has no framing counter. -/
def linkCounter (l : LinkId) (which : Nat) : Option Nat :=
  match l, which with
  | .port n, 0 => some (K.codeViolations n) | .port n, 1 => some (K.crcFailures n) | .port n, 2 => some (K.framingErrors n)
  | .port n, 3 => some (K.resyncsUp n) | .port n, _ => some (K.resyncsDown n)
  | .arch k, 0 => some (K.mlCodeViolations k) | .arch k, 1 => some (K.mlCrcFailures k) | .arch k, 2 => some (K.mlFramingErrors k)
  | .arch k, _ => some (K.mlResyncs k)
  | .pair, 0 => some K.plCodeViolations | .pair, 1 => some K.plCrcFailures | .pair, 2 => none
  | .pair, _ => some K.plResyncs

/-- Count on a link. -/
def State.countLink (s : State) (l : LinkId) (which : Nat) : State :=
  match linkCounter l which with
  | some k => s.bump k
  | none => s

/-- Times of resynchronisations inside the last 100,000 ticks (03 R89). -/
def recentTimes (now : Nat) (l : List Nat) : List Nat := (l ++ [now]).filter (fun t => now < t + 100000)

/-- An error of the receiving direction (03 R88, R89), a CRC failure (1) after all its symbols, the others in the middle of their message:
before the exchange ends it is a failed bring-up, afterwards LINK_RESYNC is sent
and the direction is ignored until LINK_READY; 16 within 100,000 ticks fail the link. An end that waits for LINK_READY itself sends no
LINK_RESYNC (03, corners). -/
def State.rxError (s : State) (l : LinkId) (which : Nat) : State :=
  match (s.link l).phase with
  | .down => s
  | .hello | .refused => (s.countLink l which).bringupFails l
  | .up | .leaving =>
    if (s.link l).rxResync then s
    else
    let s := if which = 1 then s else s.captureSome l
    if (s.link l).txResync.isSome then (s.countLink l which).modLink l (fun e => { e with rxResync := true })
    else
      let times := recentTimes s.deviceTime (s.link l).resyncsIn
      let s := (s.countLink l which).countLink l 3
      let s := s.modLink l (fun e => { e with rxResync := true, resyncsIn := times })
      let s := s.sendLink l (.resync (s.link l).rxNext)
      if 16 ≤ times.length then s.linkFails l else s

end Sys2Proof.Machine
end

