-- ==== Sys2Proof/Machine/JournalOps.lean ====
section
/-! DEFINITION. The journal in its NVM: the ring of segments, programs and erases, wear (14 R372), interrupted writes (18 R447), and
the bytes of an entry (16 R416, R417). -/

namespace Sys2Proof.Machine

/-- JOURNAL_CAPACITY (14 R372). -/
def State.journalCapacity (s : State) : Nat := 128 * s.nvm.segs.length

/-- JOURNAL_NEXT: the next SEQ. -/
def State.journalNext (s : State) : Nat := s.nvm.next

/-- JOURNAL_OLDEST: the SEQ of the oldest held entry; with none held, the next SEQ. -/
def State.journalOldest (s : State) : Nat :=
  match s.nvm.entries.getLast? with
  | some x => x.2.seq
  | none =>
    match s.nvm.queue with
    | e :: _ => e.seq
    | [] => s.nvm.next

/-- The erase count of a segment. -/
def State.eraseCount (s : State) (g : Nat) : Nat := tget 0 s.nvm.erases g

/-- NVM_MAX_ERASES. -/
def State.maxErases (s : State) : Nat := s.nvm.erases.foldl (fun m x => max m x.2) 0

/-- The spare with the lowest erase count, lowest number first. -/
def State.bestSpare (s : State) : Option Nat :=
  s.nvm.spares.foldl (fun b g =>
    match b with
    | none => some g
    | some h => if s.eraseCount g < s.eraseCount h then some g else some h) none

/-- Event 1 of class 3, NVM wear, for a segment (14 R369, R372). -/
def State.wearEvent (s : State) (g : Nat) : State := s.raiseS 1 (g + 3 * 2 ^ 8 + 2 ^ 10)

/-- The ring's segment at its next place, and its position in the ring. -/
def State.segHere (s : State) : Nat := (s.nvm.segs[s.nvm.place / 128]?).getD 0

/-- Replace the segment at the next place. -/
def State.putSeg (s : State) (g : Nat) : State :=
  { s with nvm := { s.nvm with segs := s.nvm.segs.set (s.nvm.place / 128) g, erased := true } }

/-- Retire the segment at the next place: the best spare takes its place, or the ring shrinks by 128 entries (14 R372). -/
def State.retireSeg (s : State) : State :=
  let g := s.segHere
  let s : State := { s with nvm := { s.nvm with bad := s.nvm.bad.erase g } }
  match s.bestSpare with
  | some h =>
    let s := ({ s with nvm := { s.nvm with spares := s.nvm.spares.erase h } } : State).putSeg h
    if s.nvm.spares.isEmpty then s.wearEvent h else s
  | none =>
    let i := s.nvm.place / 128
    let shift := fun (p : Nat) => if 128 * (i + 1) ≤ p then p - 128 else p
    let segs := s.nvm.segs.eraseIdx i
    let s : State := { s with nvm := { s.nvm with
      segs := segs, erased := false, place := if 128 * segs.length ≤ s.nvm.place then 0 else s.nvm.place
      entries := s.nvm.entries.map (fun x => (shift x.1, x.2))
      damaged := s.nvm.damaged.map (fun x => (shift x.1, x.2)) } }
    s.wearEvent g

/-- The erase of the segment at the next place ends (14 R372): its entries are gone; it is retired when worn out or not verified, and
exchanged for the least worn spare when their counts differ by more than 1,000. -/
def State.eraseDone (s : State) (verified : Bool) : State :=
  let g := s.segHere
  let i := s.nvm.place / 128
  let s : State := { s with nvm := { s.nvm with
    entries := s.nvm.entries.filter (fun x => x.1 / 128 != i)
    damaged := s.nvm.damaged.filter (fun x => x.1 / 128 != i)
    erases := tput (s.eraseCount g + 1) g s.nvm.erases } }
  if !verified || s.nvm.bad.contains g || 900000 ≤ s.eraseCount g then s.retireSeg
  else
    match s.bestSpare with
    | some h =>
      if s.eraseCount h + 1000 < s.eraseCount g then
        ({ s with nvm := { s.nvm with spares := s.nvm.spares.erase h ++ [g] } } : State).putSeg h
      else { s with nvm := { s.nvm with erased := true } }
    | none => { s with nvm := { s.nvm with erased := true } }

/-- The ring moves to its next place. -/
def State.nextPlace (s : State) : State :=
  let p := s.nvm.place + 1
  let p := if s.journalCapacity ≤ p then 0 else p
  { s with nvm := { s.nvm with place := p, erased := s.nvm.erased && p % 128 != 0 } }

/-- The program of the oldest queued entry ends. One that fails to verify is made again in the next place, and its segment is retired
when the ring next reaches it (14 R372). -/
def State.programDone (s : State) (verified : Bool) : State :=
  match s.nvm.queue with
  | [] => s
  | e :: rest =>
    if verified then
      ({ s with nvm := { s.nvm with queue := rest, entries := (s.nvm.place, e) :: s.nvm.entries } } : State).nextPlace
    else
      ({ s with nvm := { s.nvm with bad := if s.nvm.bad.contains s.segHere then s.nvm.bad else s.nvm.bad ++ [s.segHere] } } : State).nextPlace

/-- One NVM operation of the journal ends (14 R372). Nothing is programmed or erased while VNVM is out of range, or with no entry
waiting, or with no segment left. -/
def State.nvmDone (s : State) (verified : Bool) : State :=
  if !s.vnvm || s.nvm.queue.isEmpty || s.nvm.segs.isEmpty || !s.pd 1 then s
  else if s.nvm.erased then s.programDone verified
  else s.eraseDone verified

/-- Write the queue out, before a planned loss of PD1's state (15 R383, 16 R415): `fuel` bounds the operations. -/
def State.nvmFlush (s : State) : Nat → State
  | 0 => s
  | n + 1 => if s.nvm.queue.isEmpty || !s.vnvm then s else (s.nvmDone true).nvmFlush n

/-- Write out everything that is queued: each entry takes at most one erase and one program. -/
def State.journalOut (s : State) : State := s.nvmFlush (2 * s.nvm.queue.length + 2)

/-- VNVM is lost while an entry is being written: the entry reads DAMAGED; the metadata word left is free (18 R447; assumption 3). -/
def State.nvmInterrupted (s : State) : State :=
  match s.nvm.queue with
  | [] => s
  | e :: rest =>
    if s.nvm.erased && s.pd 1 then
      match s.free with
      | (s, v) =>
        ({ s with nvm := { s.nvm with
          queue := rest, entries := (s.nvm.place, e) :: s.nvm.entries, damaged := tput (v % 2 ^ 39) s.nvm.place s.nvm.damaged } } : State).nextPlace
    else s

/-- The metadata word of a place (08 R457). -/
def State.metaWord (s : State) (k : Nat) : Stored :=
  match s.nvm.damaged.find? (fun x => x.1 == k) with
  | some x => BitVec.ofNat 39 x.2
  | none =>
    match s.nvm.entries.find? (fun x => x.1 == k) with
    | some x => encodeWord (BitVec.ofNat 32 x.2.seq)
    | none => BitVec.allOnes 39

/-! The bytes of an entry. -/

/-- A MAC address, octet 1 first (16 R416). -/
def macBytes (m : BitVec 48) : List Byte := (List.range 6).map (fun i => m.extractLsb' (40 - 8 * i) 8)

/-- Bytes 16 to 21 of an entry: its source (16 R416). -/
def srcBytes : Src → List Byte
  | .net m => macBytes m
  | .console n p => [BitVec.ofNat 8 p.val, BitVec.ofNat 8 n.val, 0, 0, 0, 0]

/-- Is the source the console window? -/
def srcConsole : Src → Bool
  | .net _ => false
  | .console _ _ => true

/-- An entry as JOURNAL_READ returns it (16 R416, R417). -/
def JEntry.bytes (e : JEntry) (damaged : Bool) : List Byte :=
  if damaged then natBytes 4 e.seq ++ List.replicate 11 0 ++ [0x20] ++ List.replicate 24 0
  else
    let long := decide (8 < e.length)
    natBytes 4 e.seq ++ natBytes 8 e.time ++ natBytes 2 (e.key / 256) ++ natBytes 1 e.key ++
      [BitVec.ofNat 8 (e.kind + (srcConsole e.src).toNat * 16 + long.toNat * 64)] ++ srcBytes e.src ++
      [if long then 0xFF else BitVec.ofNat 8 e.length, 0] ++ natBytes 8 e.old ++ natBytes 8 e.new

/-- The held entries in ascending SEQ, each with its place; entries that still wait for the NVM have none. -/
def State.journalHeld (s : State) : List (Option Nat × JEntry) :=
  s.nvm.entries.reverse.map (fun x => (some x.1, x.2)) ++ s.nvm.queue.map (fun e => (none, e))

/-- Does the entry of a place read damaged? -/
def State.damagedAt (s : State) (place : Option Nat) : Bool :=
  match place with
  | none => false
  | some k => s.nvm.damaged.any (fun x => x.1 == k)

/-- The entries that JOURNAL_READ returns (16 R417). -/
def State.journalRead (s : State) (start max : Nat) : List (Option Nat × JEntry) :=
  (s.journalHeld.filter (fun x => start ≤ x.2.seq)).take (min max 25)

/-- JOURNAL_READ reads the metadata words of the entries it returns (08 R217): errors are counted and correctable ones reported. No word
is written back, because an NVM place is written only once (14 R372; DEDUCED, assumption 82). -/
def State.journalScan (s : State) (start max : Nat) : State :=
  (s.journalRead start max).foldl (fun s x =>
    match x.1 with
    | none => s
    | some k =>
      match decodeWord (s.metaWord k) with
      | .clean _ => s
      | .corrected _ bit => s.reportCe 4 0 k bit
      | .uncorrectable => s.bump (K.arrayUe 4)) s

/-- The answer payload of JOURNAL_READ (16 R417). -/
def State.journalPayload (s : State) (start max : Nat) : List Byte :=
  let l := s.journalRead start max
  natBytes 4 s.journalOldest ++ natBytes 4 s.journalNext ++
    [BitVec.ofNat 8 l.length, if start < s.journalOldest then 1 else 0, 0, 0] ++
    l.flatMap (fun x => x.2.bytes (s.damagedAt x.1))

end Sys2Proof.Machine
end

