-- ==== Sys2Proof/Machine/PairOps.lean ====
section
/-! DEFINITION. HOME_MAP (04 R110, R127), the home set, gives and takes of buckets, and the loss of the partner (15 R385 to R393). -/

namespace Sys2Proof.Machine

/-- The mask that HOME_MAP carries now: the home set without the buckets being given and with those being taken (15 R385, R391). -/
def State.mapMask (s : State) : Mask64 := (s.homeNow &&& ~~~ s.pair.giving) ||| s.pair.taking

/-- Is the unit home for a line as port n sees it (04 R127, 15 R381, R391)? A bucket being given stays this unit's for the port until
the port has acknowledged a map without it, and the requests outstanding then are answered normally (04, corners). -/
def State.isHome (s : State) (n line : Nat) : Bool :=
  s.mapMask.getLsbD (bucketOf line) ||
    (s.mode != .drain && s.homeNow.getLsbD (bucketOf line) && (s.port n).mapAcked.getLsbD (bucketOf line) && !s.pair.recalling)

/-- Is the line's bucket taken and not yet served (15 R389)? -/
def State.isTaking (s : State) (line : Nat) : Bool := s.pair.taking.getLsbD (bucketOf line) && !s.homeNow.getLsbD (bucketOf line)

/-- Send HOME_MAP to a port; while one is outstanding the next waits for its acknowledgement (04 R112, R127). -/
def State.sendMap (s : State) (n : Nat) (why : MapWhy) : State :=
  if (s.port n).map.isSome then s.modPort n (fun p => { p with mapNext := some (if p.mapNext = some .take then .take else why) })
  else
  match s.hubTid n with
  | (s, tid) =>
    let mask := s.mapMask
    let gen := (s.port n).mapGen
    (s.modPort n (fun p => { p with mapGen := (gen + 1) % 16, map := some { tid := tid, mask := mask, why := why } })).down n
      { op := .homeMap, tid := tid, epoch := (s.port n).epoch, gen := gen, mask := mask }

/-- Send HOME_MAP to every port in Run, waiting and sleeping ports included (15 R381, R391, R393). -/
def State.sendMaps (s : State) (why : MapWhy) : State :=
  ((List.range 48).filter (fun n => (s.port n).live)).foldl (fun s n => s.sendMap n why) s

/-- Has every port in Run acknowledged a map without the buckets being given (15 R391 step 1)? -/
def State.giveAcked (s : State) : Bool :=
  s.ports.all (fun x => !x.2.live || (x.2.mapAcked &&& s.pair.giving) == 0)

/-- Has every port whose APn_PRDY is high acknowledged a map with the buckets taken (15 R389)? -/
def State.takeAcked (s : State) : Bool :=
  (List.range 48).all (fun n => !s.prdy n || (s.pair.taking &&& ~~~ (s.port n).mapAcked) == 0)

/-- PAIR_STATE while paired: 5 while buckets are given or taken, otherwise 2. -/
def State.pairSettle (s : State) : State :=
  if s.pair.state = 2 ∨ s.pair.state = 5 then
    s.pairTo (if s.pair.giving = 0 ∧ s.pair.given = 0 ∧ s.pair.taking = 0 then 2 else 5)
  else s

/-- Begin to give buckets (15 R391 step 1). -/
def State.startGive (s : State) (b : Mask64) : State :=
  let b := b &&& s.homeNow &&& ~~~ s.pair.giving
  if b = 0 ∨ s.pair.state = 4 then s
  else
    let s : State := { s with pair := { s.pair with giving := s.pair.giving ||| b, recalling := false } }
    s.pairSettle.sendMaps .give

/-- Lines of a set of buckets that some catalogue entry records. -/
def State.heldLines (s : State) (b : Mask64) : List Nat :=
  (((List.range 48).flatMap s.entriesOf).map (·.line)).eraseDups.filter (fun l => b.getLsbD (bucketOf l))

/-- Recall every entry of a set of buckets, one transaction for each line (15 R381 step 4, R391 step 2). -/
def State.recallLines (s : State) (kind : TxnKind) (b : Mask64) : State :=
  let s := (List.range 48).foldl (fun s n => (s.sweepPort n).1) s
  (s.heldLines b).foldl (fun s l =>
    if s.txns.any (fun t => t.line == l && t.kind == kind && t.phase != .done) then s
    else s.newTxn { id := 0, kind := kind, line := l, slice := s.sliceOf l, entry := .waiting, part := s.inForce.supervisor }) s

/-- Start the drain of store-buffer entries for lines of a set of buckets. -/
def State.drainBuckets (s : State) (b : Mask64) : State :=
  { s with ports := s.ports.map (fun x =>
      (x.1, { x.2 with sb := x.2.sb.map (fun e => if b.getLsbD (bucketOf e.line) then { e with isOpen := false } else e) })) }

/-- Has a port a request for one of these buckets that the unit still answers as home (04, corners of R127)? -/
def PortSt.asksIn (p : PortSt) (b : Mask64) : Bool := p.waiting.any (fun r => r.mine && b.getLsbD (r.pa / 64 % 64))

/-- Is everything of these buckets recalled, written and drained (15 R391 step 2)? -/
def State.bucketsQuiet (s : State) (b : Mask64) : Bool :=
  !(s.txns.any (fun t => b.getLsbD (bucketOf t.line))) &&
    s.ports.all (fun x => !(x.2.sb.any (fun e => b.getLsbD (bucketOf e.line))) && !(x.2.asksIn b)) && (s.heldLines b).isEmpty

/-- Does a port that can answer a snoop hold a line of these buckets that no transaction recalls: one granted since the recalls began? -/
def State.recallsLeft (s : State) (b : Mask64) : Bool :=
  (List.range 48).any (fun n => !s.deaf n && (s.entriesOf n).any (fun e =>
    b.getLsbD (bucketOf e.line) && !(s.txns.any (fun t => t.line == e.line))))

/-- Invalidate the L2 tags of a bucket in the slice that serves it (15 R385, 05 R133). -/
def State.invalBucket (s : State) (b : Nat) : State :=
  let h := s.sliceOf b
  let bs := s.bucketsOf h
  let rows := 2048 / slotShare bs.length
  let j := placeOf b bs
  let s : State := { s with arrays := s.arrays.filter (fun x => !(x.1 / 2 ^ 16 == h && x.1 % 2 ^ 16 / 16 / rows == j)) }
  (List.range 8).foldl (fun s c => s.mergeDrop c (fun _ line => bucketOf line == b)) s

/-- The buckets of a mask. -/
def bucketsIn (m : Mask64) : List Nat := (List.range 64).filter m.getLsbD

/-- Step 3 of a give: the tags go, the unit is no longer home, and RANGE_GIVE is sent (15 R385, R391). -/
def State.giveNow (s : State) : State :=
  let b := s.pair.giving
  let s := (bucketsIn b).foldl (fun s x => s.invalBucket x) s
  let s : State := { s with
    homeNow := s.homeNow &&& ~~~ b
    pair := { s.pair with giving := 0, recalling := false, given := s.pair.given ||| b } }
  s.sendPair { op := .give, home := b }

/-- The work of a give in the serving modes; Drain has its own steps (15 R391). -/
def State.giveWork (s : State) : Option State :=
  if s.pair.giving = 0 ∨ s.pair.state ≠ 5 ∨ s.mode = .drain ∨ s.dead then none
  else if !s.giveAcked then none
  else if !s.pair.recalling then
    let s : State := { s with pair := { s.pair with recalling := true } }
    some ((s.recallLines .recallGive s.pair.giving).drainBuckets s.pair.giving)
  else if s.bucketsQuiet s.pair.giving then some s.giveNow
  else if s.recallsLeft s.pair.giving then some (s.recallLines .recallGive s.pair.giving)
  else none

/-- RANGE_TAKEN, or a PAIR_HELLO that shows the partner home for buckets given to it: the give is confirmed (15 R391 step 5). -/
def State.giveConfirmed (s : State) (b : Mask64) : State :=
  if s.pair.given &&& b = 0 then s
  else
    let s : State := { s with pair := { s.pair with given := s.pair.given &&& ~~~ b } }
    (s.bump K.handovers).pairSettle.toWorking

/-- RANGE_GIVE: buckets already held are answered at once; the others are taken (15 R391 step 4 and corner). -/
def State.takeGiven (s : State) (b : Mask64) : State :=
  let have_ := b &&& s.homeNow
  let new := b &&& ~~~ s.homeNow
  let s := if have_ = 0 then s else s.sendPair { op := .taken, home := have_ }
  if new &&& ~~~ s.pair.taking = 0 then s
  else
    let s : State := { s with pair := { s.pair with taking := s.pair.taking ||| new } }
    s.pairSettle.sendMaps .take

/-- The buckets taken are served (15 R389, R391 step 5, R393): RANGE_TAKEN goes to the partner unless it is lost. -/
def State.serveTaken (s : State) : State :=
  let b := s.pair.taking
  if b = 0 then s
  else
    let s : State := { s with homeNow := s.homeNow ||| b, pair := { s.pair with taking := 0 } }
    let s := if s.pair.lost then s else (s.sendPair { op := .taken, home := b }).bump K.handovers
    s.pairSettle.toWorking

/-- The partner is judged lost (15 R392, R393): cause 1 SURPRISE, 2 PL_RDYI low. -/
def State.partnerLost (s : State) (cause : Nat) : State :=
  if s.pair.lost || !s.paired || s.pair.state == 0 then s
  else
    let had := s.pair.partnerHome != 0 || s.pair.given != 0
    let s : State := { s with pair := { s.pair with
      lost := true, giving := 0, recalling := false, given := 0, partnerHome := 0, greeted := false } }
    if !s.mode.ports then s.pairTo 1
    else if !had then s.pairTo 3
    else
      let s := s.bump K.takeovers
      let marked := (List.range 48).filter s.prdy
      let s := marked.foldl (fun s n => s.loss n .home) s
      let detail := (1 - s.obj K.pairRole) % 2 + cause * 2 ^ 8
      let parts := ((marked.map s.partOf) ++ [s.inForce.supervisor]).eraseDups
      let s := parts.foldl (fun s p => s.occur p 28 detail 63) s
      let s : State := { s with pair := { s.pair with taking := ~~~ s.homeNow } }
      ((s.pairTo 3).sendMaps .take).toWorking

/-- PAIR_HELLO (15 R386, R391 corner). -/
def State.hello (s : State) (st : Nat) (home mask : Mask64) : State :=
  let s : State := { s with pair := { s.pair with partnerHome := home, partnerMode := st / 16 % 16, greeted := true } }
  if st % 2 == s.obj K.pairRole % 2 || mask != BitVec.ofNat 64 (s.obj K.pairMask) then s.pairTo 4
  else
    let s : State := { s with pair := { s.pair with lost := false } }
    let s := (s.pairTo (if s.pair.giving = 0 ∧ s.pair.given = 0 ∧ s.pair.taking = 0 then 2 else 5)).giveConfirmed home
    if s.pair.given = 0 then s else s.sendPair { op := .give, home := s.pair.given }

/-- Messages on the pair link are acted on only while the pair is not refused (15 R386). -/
def State.pairOpen (s : State) : Bool := s.paired && (s.pair.state == 2 || s.pair.state == 5)

/-- May PL_RDYO rise (15 R396)? -/
def State.plMayRise (s : State) : Bool :=
  s.paired && s.pd 11 && (s.mode == .configure || s.mode.ports) && (s.link .pair).phase == .down && !s.dead

/-- The hub's own reach setting of a link, short or long (04 R129, 09 R259, 15 R396). -/
def State.ownReach (s : State) (l : LinkId) : Bool :=
  match l with
  | .port n => s.obj (K.reach n) % 2 == 1
  | .arch k => s.obj (K.mlReach k) % 2 == 1
  | .pair => s.obj K.pairReach % 2 == 1

/-- The ready wire rises: bring-up starts, at the reach setting of this moment (03 R67, R75). -/
def LinkEnd.raised (e : LinkEnd) (short : Bool) : LinkEnd := { e with phase := .hello, near := short }

/-- Send the hub's LINK_HELLO: flags bit 1 for a hub, bit 0 for the reach of this bring-up (03 R67, R77). -/
def State.sendHello (s : State) (l : LinkId) : State :=
  (s.modLink l (fun e => { e with helloSent := true })).sendLink l (.hello (2 + (s.link l).near.toNat))

/-- Raise PL_RDYO (03 R91): LINK_HELLO follows once both ready wires are high. -/
def State.plRise (s : State) : State :=
  let s := s.modLink .pair (·.raised (s.ownReach .pair))
  let s := if s.pair.state = 0 then s.pairTo 1 else s
  if s.pair.rdyi then s.sendHello .pair else s

/-- PAIR_ENABLE, PAIR_ROLE or PAIR_MASK is written in Configure: a unit of a pair is home for nothing until it joins (15 R385, R390). -/
def State.pairConfigured (s : State) : State :=
  if s.paired then { s with homeNow := 0 }
  else
    let s := if (s.link .pair).phase = .down then s else s.pairLower
    let rdyi := s.pair.rdyi
    let s := s.pairTo 0
    { s.setLink .pair {} with homeNow := allBuckets, pair := { rdyi := rdyi } }

/-- What the pair decides at step 5 of the way to the working mode (15 R390): none abandons the path. -/
def State.joinPair (s : State) : Option State :=
  if !s.paired then some s
  else if s.pair.state = 2 ∨ s.pair.state = 5 then
    if s.pair.partnerHome &&& s.ownHalf = 0 then some { s with homeNow := s.ownHalf }
    else some (({ s with homeNow := 0 } : State).sendPair { op := .returnReq, home := s.ownHalf })
  else if !s.pair.rdyi then some (({ s with homeNow := allBuckets } : State).pairTo 3)
  else none

end Sys2Proof.Machine
end

