-- ==== Sys2Proof/Machine/ChanOps.lean ====
section
/-! DEFINITION. What ends at a data channel: bursts read for merge entries (07 R206), repairs without a requester (07 R201, 13 R345),
calibration (07 R207 to R211, 14 R371), and the channels' return from power and fencing. -/

namespace Sys2Proof.Machine

/-- The line that the tag array shows at a burst address of a channel, with its way and tag word (07 R190, 06 R163). -/
def State.lineAt (s : State) (c ba : Nat) : State × Option (Nat × Nat × TagWord) :=
  let w := c + 8 * (ba % 2)
  let bucket := ba / 2 / s.setsPerBucket
  let idx := ba / 2 % s.setsPerBucket
  if 64 ≤ bucket || !s.l2On then (s, none)
  else
    match s.setOf (bucket + 64 * idx) with
    | none => (s, none)
    | some p =>
      if p.eff ≤ idx then (s, none)
      else
        match s.readTag p bucket w with
        | (s, t) => if t.valid && s.wayOn p.slice w then (s, some ((t.tag * p.eff + idx) * 64 + bucket, w, t)) else (s, none)

/-- Is a repair of the line already under way? -/
def State.repairRuns (s : State) (line : Nat) : Bool := s.txns.any (fun t => t.kind == .repair && t.line == line)

/-- The transactions whose reads of a burst address are still queued. -/
def ChanSt.queuedReads (h : ChanSt) (ba : Nat) : List Nat :=
  h.queue.filterMap (fun x => match x.op with
    | .read (.txn id) => if x.ba = ba then some id else none
    | .read .merge | .read .unused | .write _ _ | .store _ _ _ => none)

/-- The reads of a burst address that are still queued are pulled back. -/
def ChanSt.pullReads (h : ChanSt) (ba : Nat) : ChanSt :=
  { h with queue := h.queue.filter (fun x => match x.op with
      | .read (.txn _) => x.ba != ba
      | .read .merge | .read .unused | .write _ _ | .store _ _ _ => true) }

/-- A read that still waited for the burst of an uncorrectable line is the repair of its way (07 R201, 06 R178). -/
def Txn.asRepair (t : Txn) (line w : Nat) : Txn :=
  if t.line ≠ line ∨ t.phase = .poisonWait then t
  else if t.kind = .scrubRow ∨ t.kind = .patrolRow then { t with phase := .missed, way := w, aux := 2 }
  else { t with phase := .missed, way := w }

/-- The line at a burst address is uncorrectable outside a demand read (07 R201, R206, R209; 13 R345): its way is invalidated. A read that
waits for its burst is served as the miss that refills the way; without one the hub repairs it of its own. -/
def State.repairAt (s : State) (c ba : Nat) : State :=
  match s.lineAt c ba with
  | (s, none) => s.mergeDiscard c ba
  | (s, some (line, w, t)) =>
    let ids := (s.chan c).queuedReads ba
    let s := ((s.lineBad c line w).mergeDiscard c ba).modChan c (fun h => h.pullReads ba)
    let s : State := { s with txns := s.txns.map (fun t => if ids.contains t.id then t.missedRead.asRepair line w else t) }
    if s.repairRuns line || s.txns.any (fun t => ids.contains t.id && t.line == line) then s
    else
      s.newTxnFirst { id := 0, kind := .repair, line := line, slice := s.sliceOf line, part := s.inForce.supervisor, entry := .waiting,
                      way := w, tagSave := t.word.toNat }

/-- A line corrected by a calibration read: counted and logged, attributed to no chip (07 R198). -/
def State.calCorrected (s : State) (c ba : Nat) (chips : List Nat) : State :=
  (s.bump (K.linesCorrected c)).reportCe 5 c ba (match chips with
    | [x] => x
    | _ => 63)

/-- The read of a read-modify-write completes (07 R206): the entry's bytes are overlaid, and the beats that hold any go out before every
later command of the address. -/
def State.mergeBurst (s : State) (c ba : Nat) (burst : Burst) : State :=
  match (s.chan c).merge.find? (fun m => m.flushing && m.ba == ba) with
  | none => s
  | some m =>
    match decodeBurst (s.marks c) burst with
    | some (data, fixed, chips) =>
      let s := if fixed then s.lineCorrected c ba chips else s
      if (s.chan c).state = .fenced then s
      else
        let s := if (s.chan c).hold then s.bump (K.calStall c) else s
        s.modChan c (fun h => ({ h with merge := h.merge.filter (fun x => x.ba != ba) } : ChanSt).putFirst
          { ba := ba, op := .write (touchedBeats m.mask) (overlay data m.data m.mask), who := m.who, rmw := true })
    | none => s.repairAt c ba

/-! The slots of a channel (10 R283, 14 R370). -/

/-- Is command i the first of its burst address in the queue (07 R194)? -/
def ChanSt.atHead (h : ChanSt) (i : Nat) : Bool :=
  match h.queue[i]? with
  | none => false
  | some x => !((h.queue.take i).any (fun y => y.ba == x.ba))

/-- May command i take the next slot: it reads or writes, it is the first of its address, no read-modify-write of another command holds
the address, and no earlier command has been overtaken 16 times already (07 R194, R206)? -/
def ChanSt.canGo (h : ChanSt) (i : Nat) : Bool :=
  match h.queue[i]? with
  | none => false
  | some x =>
    (match x.op with
      | .store _ _ _ => false
      | .read _ | .write _ _ => true) &&
    h.atHead i && (x.rmw || !(h.merge.any (fun m => m.flushing && m.ba == x.ba))) && (h.queue.take i).all (fun y => decide (y.passed < 16))

/-- What the first command of an address does before it takes a slot (07 R203 to R205): a store enters the merge buffer or goes out as it
is, a read flushes its entry first, a full line discards it; none where it has nothing to do, or waits for a free entry. -/
def State.chanPrep (s : State) (c i : Nat) : Option State :=
  let h := s.chan c
  match h.queue[i]? with
  | none => none
  | some x =>
    let drop := fun (s : State) => s.modChan c (fun h => { h with queue := h.queue.eraseIdx i })
    match x.op, h.entry x.ba with
    | .store _ mask data, some m => some ((drop s).mergeInto c m mask data)
    | .store line mask data, none =>
      if beatsWhole mask then some (s.modChan c (fun h => { h with queue := h.queue.set i { x with op := .write mask data } }))
      else if h.room then some ((drop s).mergeOpen c x.ba line x.who mask data)
      else if (h.merge.head?).any (·.flushing) then none
      else some (s.flushOldest c)
    | .read _, some m => if m.flushing then none else some ((s.bump (K.mergeForced c)).mergeFlush c m)
    | .write _ _, some m =>
      if m.flushing then none else some (s.modChan c (fun h => { h with merge := h.merge.filter (fun y => y.ba != x.ba) }))
    | .read _, none => none
    | .write _ _, none => none

/-- What a channel does with its next slot: a command with the deficits after it and whether step 3 of R283 chose it, or nothing. -/
inductive Slot where
  | issue (i : Nat) (deficits : Tab Nat) (third : Bool)
  | idle
  | empty
deriving DecidableEq, Repr

/-- Commands of partition q among a channel's last 256 slots (10 R281). -/
def ChanSt.occupancy (h : ChanSt) (q : Nat) : Nat := h.issued.count q

/-- Which command fills a slot (14 R370): Conservator work whose guaranteed slot is due, the reserved class, the partitions under R283, and
Conservator work in a slot that would stay idle. -/
def State.chanSlot (s : State) (c : Nat) : Slot :=
  let h := s.chan c
  let whoAt := fun (i : Nat) => ((h.queue[i]?).map (·.who)).getD reservedMark
  let go := (List.range h.queue.length).filter h.canGo
  let cons := go.find? (fun i => whoAt i == consMark)
  let rest := go.filter (fun i => whoAt i != consMark)
  let other : Slot :=
    match s.arbitrate (rest.map (fun i => if whoAt i = reservedMark then none else some (whoAt i))) h.occupancy
        (fun q => s.obj (K.dcShare q)) (fun q => s.obj (K.dcCap q)) h.deficits with
    | some (k, d, third) => .issue ((rest[k]?).getD 0) d third
    | none =>
      match cons with
      | some i => .issue i h.deficits false
      | none => if rest.isEmpty then .empty else .idle
  match cons with
  | some i => if s.obj K.consMinShare ≤ h.sinceCons + 1 then .issue i h.deficits false else other
  | none => other

/-- The transactions whose reads wait in this slot because step 3 took another partition's command, or because their partition is at its
cap, are throttled (10 R284). -/
def State.chanWaits (s : State) (c : Nat) (chosen : Option (Nat × Bool)) : State :=
  let h := s.chan c
  let ids := (List.range h.queue.length).filterMap (fun i =>
    match h.queue[i]? with
    | some x =>
      let passed := match chosen with
        | some (j, third) => third && j != i && x.who != (((h.queue[j]?).map (·.who)).getD reservedMark)
        | none => false
      let capped := decide (s.obj (K.dcCap x.who) ≤ h.occupancy x.who)
      (match x.op with
        | .read (.txn id) => if h.canGo i && decide (x.who < 16) && chosen.map (·.1) != some i && (passed || capped) then some id else none
        | .read .merge | .read .unused | .write _ _ | .store _ _ _ => none)
    | none => none)
  { s with txns := s.txns.map (fun t => if ids.contains t.id then { t with throttled := true } else t) }

/-- A slot passes with its mark (10 R281, 14 R370). -/
def ChanSt.slotOf (h : ChanSt) (mark : Nat) : ChanSt :=
  { h with issued := (mark :: h.issued).take 256, sinceCons := if mark = consMark then 0 else min 4096 (h.sinceCons + 1) }

/-- Command i takes a slot of the channel (07 R191 to R194). -/
def State.chanIssue (s : State) (c i : Nat) (deficits : Tab Nat) : State :=
  match (s.chan c).queue[i]? with
  | none => s
  | some x =>
    let s := s.modChan c (fun h => ({ h with
      queue := (h.queue.take i).map (fun y => { y with passed := y.passed + 1 }) ++ h.queue.drop (i + 1), deficits := deficits } : ChanSt).slotOf
      x.who)
    match x.op with
    | .read why => (s.modChan c (fun h => { h with reads := h.reads ++ [(x.ba, why)] })).emit (.chanRead c x.ba)
    | .write mask data => s.emit (.chanWrite c x.ba (beatsOf mask data))
    | .store _ _ _ => s

/-- The next step of a channel; none while it holds, does not serve or has nothing to do. DEDUCED (assumption 77): a slot that stays idle
because every waiting partition is at its cap is one of the last 256. -/
def State.chanStep (s : State) (c : Nat) : Option State :=
  let h := s.chan c
  if h.queue.isEmpty || h.hold || !s.chanServes c then none
  else
    match (List.range h.queue.length).findSome? (fun i => if h.atHead i then s.chanPrep c i else none) with
    | some s' => some s'
    | none =>
      match s.chanSlot c with
      | .issue i d third => some ((s.chanWaits c (some (i, third))).chanIssue c i d)
      | .idle => some ((s.chanWaits c none).modChan c (fun h => h.slotOf idleMark))
      | .empty => none

/-- The channels' own work; none when nothing can move. -/
def State.chanWork (s : State) : Option State := (List.range 8).findSome? s.chanStep

/-! Calibration. -/

/-- Is a calibration of this channel possible (14 R371)? -/
def State.calPossible (s : State) (c : Nat) : Bool := s.chanServes c

/-- A background calibration becomes due; one that is due already absorbs the trigger (14 R371). -/
def State.calTrigger (s : State) (c : Nat) : State :=
  if s.calPossible c then s.modChan c (fun h => { h with calDue := true }) else s

/-- The references of a channel at the end of a calibration (14 R371). -/
def State.calReference (s : State) (c : Nat) : State :=
  s.modChan c (fun h => { h with
    refTime := s.deviceTime, refTemp := s.obj (K.temp (8 + c)), refVolt := s.obj (K.volt 7) })

/-- The taps that a search tries: all 256 in a full calibration (07 R208); in a background one those within 16 of the present setting, in
steps of 1 for the read delay and of 4 for the write delay (R209). -/
def searchTaps (around : Option Nat) (step : Nat) : List Nat :=
  match around with
  | none => List.range 256
  | some x => (List.range 256).filter (fun t => t ≤ x + 16 && x ≤ t + 16 && (if x ≤ t then (t - x) % step == 0 else (x - t) % step == 0))

/-- The longer of two ranges, the first on a tie. -/
def longerRun : Option (Nat × Nat) → Option (Nat × Nat) → Option (Nat × Nat)
  | none, b => b
  | a, none => a
  | some a, some b => if a.2 - a.1 < b.2 - b.1 then some b else some a

/-- The passing range among tried taps (07 R207): the longest run of passing ones. DESIGN CHOICE (assumption 79): the rule names one
range; of several the longest counts, the lowest of equals. -/
def passingRun (pass : Nat → Bool) : List Nat → Option (Nat × Nat) → Option (Nat × Nat) → Option (Nat × Nat)
  | [], cur, best => longerRun best cur
  | t :: rest, cur, best =>
    if pass t then passingRun pass rest (some ((cur.map (·.1)).getD t, t)) best
    else passingRun pass rest none (longerRun best cur)

/-- The passing ranges of chip i for its read delay and its write delay; none where one of them has no passing setting (07 R207). -/
def State.chipRuns (s : State) (c : Nat) (r : CalResult) (full : Bool) (i : Nat) : Option ((Nat × Nat) × (Nat × Nat)) :=
  let around := fun (k : Nat) => if full then none else some (s.obj k)
  match passingRun (fun t => r.readPass.getLsbD (256 * i + t)) (searchTaps (around (K.chipReadDelay c i)) 1) none none,
    passingRun (fun t => r.writePass.getLsbD (256 * i + t)) (searchTaps (around (K.chipWriteDelay c i)) 4) none none with
  | some a, some b => some (a, b)
  | _, _ => none

/-- The chips without a passing setting (07 R208, R211). -/
def State.failingChips (s : State) (c : Nat) (r : CalResult) (full : Bool) : List Nat :=
  (List.range 20).filter (fun i => (s.chipRuns c r full i).isNone)

/-- The centre of a passing range (07 R207). -/
def runCentre (x : Nat × Nat) : Nat := (x.1 + x.2) / 2

/-- The settings found for the chips that passed: the centres, and the taps of the narrower range, 255 at most; the other chips keep
theirs (07 R207, R211; assumption 79). -/
def State.chipSettings (s : State) (c : Nat) (r : CalResult) (full : Bool) : State :=
  (List.range 20).foldl (fun x i =>
    match s.chipRuns c r full i with
    | none => x
    | some (a, b) => ((x.setObj (K.chipReadDelay c i) (runCentre a)).setObj (K.chipWriteDelay c i) (runCentre b)).setObj
        (K.chipEye c i) (min 255 (min (a.2 + 1 - a.1) (b.2 + 1 - b.1)))) s

/-- Unmarked chips without a passing setting are marked, or the channel is fenced (07 R199, R200, R211). -/
def State.markFailing (s : State) (c : Nat) (failing : List Nat) : State :=
  failing.foldl (fun s i =>
    if (s.marks c).contains i || (s.chan c).state == .fenced then s
    else
      match s.markChip c i with
      | (s, false) => s
      | (s, true) => s.fenceChan c) s

/-- The slices invalidate their tags (06 R183); how long that takes is free (assumption 3). -/
def State.timedInval (s : State) : State :=
  let x := s.invalTags.free
  x.1.setObj K.resetInvalTime (x.2 % 0x100000000)

/-- No channel calibrates any more: the tags are invalidated and lookups no longer miss for its sake (14 R363, R366, corner). -/
def State.calSettled (s : State) : State :=
  if s.missAll && !((List.range 8).any (fun c => (s.chan c).state == .calibrating)) then { s.timedInval with missAll := false } else s

/-- A full calibration of a channel ends (07 R208): DCn_DLLEN has risen, the latency and the settings are found, and chips without one are
marked; with three of them the channel is fenced. -/
def State.fullCalEnds (s : State) (c : Nat) (r : CalResult) : State :=
  if (s.chan c).state ≠ .calibrating ∨ !s.pd 10 then s
  else
    let bad := s.failingChips c r true
    let s := (s.setObj (K.dcReadLatency c) r.latency.toNat).chipSettings c r true
    let s := s.modChan c (fun h => { h with state := .serving, dllen := true })
    let s := s.markFailing c bad
    let s := if 3 ≤ bad.length then s.fenceChan c else s
    (s.calReference c).calSettled

/-- The burst addresses of a channel (08 R222). -/
def State.burstCount (s : State) : Nat := 2 * 64 * s.setsPerBucket

/-- The next burst address after `p` that has no merge entry (07 R209 step 2); at most four addresses have one. -/
def State.nextCalP (s : State) (c p : Nat) : Nat :=
  (((List.range 5).map (fun i => (p + 1 + i) % s.burstCount)).find? (fun q =>
    !((s.chan c).merge.any (fun m => m.ba == q)))).getD ((p + 1) % s.burstCount)

/-- The four beats of a burst. -/
def burstBeats (b : Burst) : List (Nat × Beat) := (List.range 4).map (fun i => (i, b.extractLsb' (160 * i) 160))

/-- The searches of a background calibration at P (07 R209 steps 3 and 4): 16 reads, then 8 pairs of a pattern write and a read. The rule
gives no patterns: each is free (assumption 3). -/
def State.calBursts (s : State) (c p : Nat) : State :=
  let s := (List.range 16).foldl (fun s _ => s.emit (.chanRead c p)) s
  (List.range 8).foldl (fun s _ =>
    let x := s.free
    (x.1.emit (.chanWrite c p (burstBeats (BitVec.ofNat 640 x.2)))).emit (.chanRead c p)) s

/-- The save read of P (07 R209 step 2): the bursts that the restoring write brings back, corrected where they can be, and the data that
the check read must show. -/
def State.savedLine (s : State) (c : Nat) (r : CalResult) : Burst × Option Line :=
  match decodeBurst (s.marks c) r.saved with
  | some (d, _, _) => (encodeBurst d, some d)
  | none => (r.saved, none)

/-- A calibration read corrected its line: counted and logged (07 R198). -/
def State.calRead (s : State) (c p : Nat) (b : Burst) : State :=
  match decodeBurst (s.marks c) b with
  | some (_, true, chips) => s.calCorrected c p chips
  | _ => s

/-- Steps 2 to 5 of a background calibration, once no command is in flight (07 R209, R211): save, search, restore and check P; a save that
cannot be decoded or a check that fails repairs its line. -/
def State.calSearch (s : State) (c : Nat) : State :=
  match (s.chan c).calFinds with
  | none => s
  | some r =>
    if !(s.chan c).hold || !(s.chan c).reads.isEmpty then s
    else
      let p := s.nextCalP c (s.chan c).calP
      let s := s.modChan c (fun h => (List.replicate 35 calMark).foldl ChanSt.slotOf { h with calFinds := none, calP := p })
      let saved := s.savedLine c r
      let s := ((s.emit (.chanRead c p)).calRead c p r.saved).calBursts c p
      let bad := s.failingChips c r false
      let s := (s.chipSettings c r false).markFailing c bad
      if (s.chan c).state = .fenced then s
      else
        let s := ((s.emit (.chanWrite c p (burstBeats saved.1))).emit (.chanRead c p)).calRead c p r.check
        if saved.2.isSome && (decodeBurst (s.marks c) r.check).map (·.1) == saved.2 then s else s.repairAt c p

/-- A background calibration holds the channel: foreground commands stop, and the search follows once those in flight have ended (07
R209 step 1). -/
def State.backgroundCal (s : State) (c : Nat) (r : CalResult) : State :=
  (s.modChan c (fun h => { h with hold := true, calDue := false, calFinds := some r })).calSearch c

/-- The merge triggers that fell due during a hold are acted on (07 R210). -/
def State.flushDue (s : State) (c : Nat) : State :=
  ((s.chan c).merge.filter (·.due)).foldl (fun s m => s.mergeFlush c m) s

/-- The hold ends (07 R209 step 6, R210); a trigger that came during it makes a further calibration (14 R371, corner). -/
def State.holdEnds (s : State) (c ticks : Nat) : State :=
  if !(s.chan c).hold || (s.chan c).calFinds.isSome then s
  else
    let s := (s.modChan c (fun h => { h with hold := false })).bump (K.calRuns c)
    let s := if s.obj (K.calLongest c) < ticks then s.setObj (K.calLongest c) ticks else s
    (s.calReference c).flushDue c

/-- A channel starts its full calibration with DCn_DLLEN low: the reads it has are served as misses (07 R208, 14 R366). -/
def State.startCal (s : State) (c : Nat) : State :=
  let reads := (s.chan c).owedReads
  reads.foldl State.readEnded (s.modChan c (fun h => h.stopped .calibrating))

/-- Is channel c enabled in the configuration in force? -/
def State.dcEnabled (s : State) (c : Nat) : Bool := s.inForce.dcEnable.testBit c

/-- Full calibration of every enabled channel that is not fenced (14 R361 step 4, R364). -/
def State.calAll (s : State) : State :=
  (List.range 8).foldl (fun s c =>
    if s.objBit K.fenceDc c then s.modChan c (fun h => { h with state := .fenced })
    else if s.dcEnabled c then s.startCal c
    else s.modChan c (fun h => { h with state := .notEnabled })) { s with chansUsed := true }

/-- The frequency of CLK in Hz by DC_RATE, trimmed or not (07 R188). -/
def clockHz (rate : Nat) (trimmed : Bool) : Nat :=
  if rate = 0 then (if trimmed then 200000000 else 195000000)
  else if rate = 1 then (if trimmed then 266670000 else 260000000)
  else (if trimmed then 333330000 else 325000000)

/-- CLK takes its trimmed or untrimmed frequency; DC_CLOCK_HZ follows while PD10 is on (07 R188, 14 R366). -/
def State.clkTo (s : State) (trimmed : Bool) : State :=
  let s : State := { s with clkTrimmed := trimmed }
  if s.pd 10 then s.setObj K.dcClockHz (clockHz s.inForce.dcRate trimmed) else s

/-- PD10 goes off: merge entries are discarded and the channels stop, and no count of a chip's corrections is left; fenced channels stay
fenced (14 R352, R362 step 4). -/
def State.chansOff (s : State) : State :=
  (List.range 8).foldl (fun s c => s.modChan c (fun h => h.stopped (if h.state = .fenced then .fenced else .notEnabled)))
    { s with chipErrs := [] }

/-- A cleared fence bit returns a channel by a full calibration of that channel alone (15 R395). -/
def State.chanReturns (s : State) (c : Nat) : State :=
  if (s.chan c).state ≠ .fenced then s
  else if s.pd 10 && s.dcEnabled c && s.mode != .configure then s.startCal c
  else s.modChan c (fun h => { h with state := .notEnabled })

end Sys2Proof.Machine
end

