-- ==== Sys2Proof/Machine/MaintOps.lean ====
section
/-! DEFINITION. The Conservator: L2 range operations (06 R179 to R182), scrub passes and patrol rows (08 R221 to R224), and repairs
without a requester (07 R201). -/

namespace Sys2Proof.Machine

/-- CONS_BUSY and MAINT_BUSY: one flag (08 R222). -/
def State.consBusy (s : State) : Bool := s.job.isSome || s.scrub.isSome

/-- A line of a range operation (06 R181). -/
def TxnKind.jobLine : TxnKind → Bool
  | .maintInval | .recallMaint | .maintPreload | .maintUnlock => true
  | .readShared | .readOwn | .upgrade | .zeroLine | .loadReserve | .storeCond | .readUnc | .drain | .writeback | .orphan
  | .evictOffer | .siRead | .siReadInval | .siWrite | .recallCapacity | .recallCat | .recallReset | .recallDrain | .recallGive
  | .poison | .walk | .ledger | .ringLine | .descriptor | .ctrlRead | .scrubRow | .patrolRow | .repair => false

/-- Lines of the job in flight. -/
def State.jobLines (s : State) : Nat := (s.txns.filter (fun t => t.kind.jobLine)).length

/-- The transaction kind of a MAINT_OP. -/
def jobKind (op : Nat) : TxnKind :=
  if op = 1 then .maintInval else if op = 2 then .recallMaint else if op = 3 then .maintPreload else .maintUnlock

/-- Change the job. -/
def State.modJob (s : State) (f : Job → Job) : State := { s with job := s.job.map f }

/-- A line of the job is finished: its result is counted (06 R179, R182). -/
def State.jobCount (s : State) (affected skipped dirty : Bool) : State :=
  s.modJob (fun j => { j with
    visited := j.visited + 1, affected := j.affected + affected.toNat, skipped := j.skipped + skipped.toNat
    dirty := j.dirty + dirty.toNat })

/-- Lines of device regions and of the console window are skipped (06 R179). -/
def State.normalLine (s : State) (line : Nat) : Bool := s.route s.epoch (line * 64) == .normal

/-- Is the hub quiescing for Park or Retain? A job issues nothing more: it is aborted as soon as what was admitted has ended (14 R362). -/
def State.pausing (s : State) : Bool := s.trans == .toPark || s.trans == .toRetain

/-- Issue the next line of the job: at most 32 in flight (06 R181). -/
def State.jobIssue (s : State) : Option State :=
  match s.job with
  | none => none
  | some j =>
    if j.aborted || s.pausing || j.last ≤ j.next || 32 ≤ s.jobLines then none
    else
      let s' := s.modJob (fun j => { j with next := j.next + 1 })
      if !s.normalLine j.next || (j.op != 2 && (s.setOf j.next).isNone) then some (s'.jobCount false true false)
      else
        some (s'.newTxn { id := 0, kind := jobKind j.op, line := j.next, slice := s.sliceOf j.next, part := j.part,
                          entry := .waiting, limit := j.flags })

/-- A line of the job ends with its result. -/
def State.jobLineEnds (s : State) (t : Txn) (affected skipped dirty : Bool) : State :=
  (s.jobCount affected skipped dirty).endTxn t.id

/-- A line that is locked in place, or left locked where it is (06 R179). -/
def State.lockInPlace (s : State) (l : Lookup) (w part : Nat) (age0 : Bool) : State :=
  match l.place with
  | none => s
  | some p =>
    let t := l.tagAt w
    s.writeTag p w { t with locked := true, owner := part, age := if age0 then 0 else t.age, stream := t.stream && !age0 }

/-- A preload goes to memory: the miss blocks its set (06 R171, R179). -/
def State.preloadRead (s : State) (t : Txn) : State :=
  (s.putTxn { t with phase := .memRead, way := 16, blocksSet := s.l2On }).memRead t true

/-- PRELOAD of one line as owner (06 R179): flags bit 0 LOCK, bit 1 AGE0. -/
def State.preloadLine (s : State) (t : Txn) : State :=
  let lock := t.limit.testBit 0
  let age0 := t.limit.testBit 1
  match s.l2Lookup t.line with
  | (s, l) =>
    match l.way with
    | none => s.preloadRead t
    | some w =>
      let tag := l.tagAt w
      if !lock then
        if age0 then (s.touch l w).jobLineEnds t true false false else s.jobLineEnds t false false false
      else if tag.locked && tag.owner != t.part then s.jobLineEnds t false true false
      else if (s.obj (K.wayLock t.part)).testBit w then (s.lockInPlace l w t.part age0).jobLineEnds t true false false
      else if tag.locked then s.jobLineEnds t true false false
      else
        match l.place with
        | some p => (s.dropWay p (bucketOf t.line) w).preloadRead t
        | none => s.preloadRead t

/-- The memory value of a preload is here: it is filled or skipped (06 R170, R179). -/
def State.preloadFill (s : State) (t : Txn) : State :=
  if t.poisoned then s.jobLineEnds t false true false
  else
    let lock := t.limit.testBit 0
    let age0 := t.limit.testBit 1
    let mask := if lock then s.obj (K.wayLock t.part) else s.obj (K.wayAlloc t.part)
    match s.l2Fill t.line t.part t.slotMark mask (if age0 then 0 else 6) (!age0) lock t.data with
    | (s, ok) => s.jobLineEnds t ok (!ok) false

/-- INVAL_L2 and UNLOCK of one line as owner (06 R179). -/
def State.invalOrUnlock (s : State) (t : Txn) : State :=
  match s.l2Lookup t.line with
  | (s, l) =>
    match l.place, l.way with
    | some p, some w =>
      if t.kind = .maintInval then (s.dropWay p (bucketOf t.line) w).jobLineEnds t true false false
      else
        let tag := l.tagAt w
        if tag.locked && tag.owner == t.part then (s.writeTag p w { tag with locked := false }).jobLineEnds t true false false
        else s.jobLineEnds t false false false
    | _, _ => s.jobLineEnds t false false false

/-! Scrub rows. -/

/-- What a scrub row finds: nothing wrong, a corrected line, an uncorrectable line repaired, one not repaired, or a channel fenced
while it was read. -/
inductive RowResult where
  | clean | corrected | repaired | unrepaired | unread
deriving DecidableEq, Repr

/-- The code of a row's result kept in its transaction. -/
def RowResult.code : RowResult → Nat
  | .clean => 0 | .corrected => 1 | .repaired => 2 | .unrepaired => 3 | .unread => 4

/-- The burst of a scrub or patrol row is decoded (08 R223): a correctable line is written back, attributed and logged; an uncorrectable
one is repaired, or in Diagnostic only invalidated. The line is written back only while its way still holds it. DEDUCED (assumption
83): marked chips are not among CHIPS_IMPLICATED. -/
def State.scrubBurst (s : State) (t : Txn) (c ba : Nat) (burst : Burst) : State :=
  match decodeBurst (s.marks c) burst with
  | some (data, fixed, chips) =>
    if fixed then
      let s := s.lineCorrected c ba chips
      let marked := s.marks c
      let s := if (s.chan c).state = .fenced || !s.holdsLine t.line t.way then s else s.chanFull c ba t.slotMark data
      s.putTxn { t with phase := .done, way := 16, aux := RowResult.code .corrected,
                        mask := BitVec.ofNat 64 ((chips.filter (fun i => !marked.contains i)).foldl (fun m i => m + 2 ^ i) 0) }
    else s.putTxn { t with phase := .done, way := 16, aux := RowResult.code .clean }
  | none =>
    let s := s.lineBad c t.line t.way
    if s.mode = .diagnostic then s.putTxn { t with phase := .done, way := 16, aux := RowResult.code .unrepaired }
    else
      s.putTxn { t with phase := .missed, aux := RowResult.code .repaired }

/-- A data row of a scrub or patrol as owner of its line: the line must still be in its way. -/
def State.scrubLine (s : State) (t : Txn) : State :=
  match s.l2Probe t.line with
  | (s, l) =>
    if l.way = some t.way then
      (s.putTxn { t with phase := .chanRead, tagSave := (l.tagAt t.way).word.toNat }).chanRead (t.way % 8) (s.burst t.line t.way)
        (.txn t.id) t.slotMark
    else s.putTxn { t with phase := .done, way := 16, aux := RowResult.code .clean }

/-- A repair without a requester as owner: it refetches the line, unless another request has brought it back meanwhile (07 R201). -/
def State.repairLine (s : State) (t : Txn) : State :=
  match s.l2Probe t.line with
  | (s, l) => if l.way.isSome then s.endTxn t.id else s.runMissed t

/-- Change the scrub pass. -/
def State.modScrub (s : State) (f : Scrub → Scrub) : State := { s with scrub := s.scrub.map f }

/-- Is the unit of a scrub target fenced or powered off (08 R224)? -/
def State.unitOut (s : State) (target u : Nat) : Bool :=
  if target = 0 then !s.pd 10 || (s.chan u).state == .fenced
  else if target = 1 then s.objBit K.fenceSlice u || !s.pd (sliceDomain u)
  else false

/-- The last row of a unit (08 R222). -/
def State.lastRow (s : State) (target u : Nat) : Nat :=
  if target = 0 then s.burstCount - 1
  else if target = 1 then 2047
  else
    match (s.port u).l1 with
    | some (logSets, _, _, _) => 2 ^ logSets - 1
    | none => 255

/-- Corrected and uncorrectable words among stored words. -/
def wordErrors (l : List Stored) : Nat × Nat :=
  l.foldl (fun a w => match decodeWord w with
    | .clean _ => a
    | .corrected _ _ => (a.1 + 1, a.2)
    | .uncorrectable => (a.1, a.2 + 1)) (0, 0)

/-- One row of tags (08 R223): corrected words and invalidated ways. -/
def State.tagRow (s : State) (h r : Nat) : State × Nat × Nat :=
  let n := wordErrors ((List.range 16).map (fun w => s.word 0 h (r * 16 + w)))
  let bs := s.bucketsOf h
  let rows := 2048 / slotShare bs.length
  let bucket := (bs[r / rows]?).getD 0
  let p : SetPlace := { slice := h, row := r, eff := min s.setsPerBucket rows }
  ((List.range 16).foldl (fun s w => (s.readTag p bucket w).1) s, n.1, n.2)

/-- One mirror set of a port (08 R223): corrected words, entries rebuilt or recalled, entries lost. -/
def State.catRow (s : State) (n m : Nat) : State × Nat × Nat × Nat :=
  let ce := (wordErrors ((List.range 4).flatMap (fun w => (List.range 3).map (fun k => s.word 1 n (catAddr m w + k))))).1
  let r := (List.range 4).foldl (fun (acc : State × Nat × Nat) w =>
    match acc.1.readEntry n m w with
    | (s, .free) => (s, acc.2)
    | (s, .good _) => (s, acc.2)
    | (s, .rebuilt e) => (s.rebuild e false, acc.2.1 + 1, acc.2.2)
    | (s, .lost) => (s.loseEntry n m w, acc.2.1, acc.2.2 + 1)) (s, 0, 0)
  (r.1, ce, r.2.1, r.2.2)

/-- The pass goes to its next row. -/
def Scrub.nextRow (x : Scrub) : Scrub := { x with row := x.row + 1, visited := x.visited + 1 }

/-- The pass goes to its next unit. -/
def Scrub.nextUnit (x : Scrub) : Scrub := { x with units := x.units.drop 1, row := x.first }

/-- A row transaction of the scrub pass is under way. -/
def State.scrubRuns (s : State) : Bool := s.txns.any (fun t => t.kind == .scrubRow)

/-- A transaction that visits the line at a burst address; none where the row is visited but not read (08 R223). -/
def State.rowTxn (s : State) (kind : TxnKind) (c ba : Nat) : State × Bool :=
  match s.lineAt c ba with
  | (s, none) => (s, false)
  | (s, some (line, w, _)) =>
    (s.newTxn { id := 0, kind := kind, line := line, slice := s.sliceOf line, part := s.inForce.supervisor, entry := .waiting, way := w }, true)

/-- One step of the scrub pass; none while its row is under way or nothing is left (08 R223). -/
def State.scrubWork (s : State) : Option State :=
  match s.scrub with
  | none => none
  | some x =>
    match x.units with
    | [] => none
    | u :: _ =>
      if x.aborted || s.pausing || s.scrubRuns then none
      else if min x.last (s.lastRow x.target u) < x.row then some (s.modScrub Scrub.nextUnit)
      else if s.unitOut x.target u then some (s.modScrub (fun x => { x.nextUnit with unread := true }))
      else if x.target = 0 then
        match s.rowTxn .scrubRow u x.row with
        | (s, true) => some s
        | (s, false) => some (s.modScrub Scrub.nextRow)
      else if x.target = 1 then
        match s.tagRow u x.row with
        | (s, ce, bad) => some (s.modScrub (fun x => { x.nextRow with ce := x.ce + ce, repaired := x.repaired + bad }))
      else
        match s.catRow u x.row with
        | (s, ce, rebuilt, lost) =>
          some (s.modScrub (fun x => { x.nextRow with
            ce := x.ce + ce, repaired := x.repaired + rebuilt, unrepaired := x.unrepaired + lost }))

/-- A data row ends (08 R223, R224); a patrol row is not summarised. -/
def State.rowEnds (s : State) (t : Txn) : State :=
  let s := s.endTxn t.id
  if t.kind = .patrolRow then s
  else if t.aux = RowResult.code .unread then s.modScrub (fun x => { x.nextUnit with unread := true })
  else
    let r := if t.poisoned then RowResult.code .unrepaired else t.aux
    s.modScrub (fun x =>
      let c := (x.units.head?).getD 0
      { x.nextRow with
        ce := x.ce + (if r = 1 then 1 else 0), repaired := x.repaired + (if r = 2 then 1 else 0)
        unrepaired := x.unrepaired + (if r = 3 then 1 else 0)
        chips := tset 0 x.chips c (tget 0 x.chips c ||| t.mask.toNat) })

/-- Lookups of the Conservator's transactions and of repairs, once their sets are free (06 R171, R181). -/
def State.consLookup (s : State) (t : Txn) : State :=
  match t.kind with
  | .maintPreload => s.preloadLine t
  | .scrubRow | .patrolRow => s.scrubLine t
  | .repair => s.repairLine t
  | .maintInval | .maintUnlock => s.invalOrUnlock t
  | .readShared | .readOwn | .upgrade | .zeroLine | .loadReserve | .storeCond | .readUnc | .drain | .writeback | .orphan
  | .evictOffer | .siRead | .siReadInval | .siWrite | .recallCapacity | .recallCat | .recallMaint | .recallReset | .recallDrain
  | .recallGive | .poison | .walk | .ledger | .ringLine | .descriptor | .ctrlRead => s

/-- Is this a transaction whose lookup `consLookup` makes? -/
def TxnKind.consKind : TxnKind → Bool
  | .maintPreload | .scrubRow | .patrolRow | .repair | .maintInval | .maintUnlock => true
  | .readShared | .readOwn | .upgrade | .zeroLine | .loadReserve | .storeCond | .readUnc | .drain | .writeback | .orphan
  | .evictOffer | .siRead | .siReadInval | .siWrite | .recallCapacity | .recallCat | .recallMaint | .recallReset | .recallDrain
  | .recallGive | .poison | .walk | .ledger | .ringLine | .descriptor | .ctrlRead => false

/-- What a finished transaction of the Conservator leads to. -/
def State.consDone (s : State) (t : Txn) : State :=
  match t.kind with
  | .maintPreload => s.preloadFill t
  | .recallMaint => s.jobLineEnds t (t.aux == 1) false t.dirty
  | .scrubRow | .patrolRow => s.rowEnds t
  | .maintInval | .maintUnlock | .repair | .readShared | .readOwn | .upgrade | .zeroLine | .loadReserve | .storeCond | .readUnc
  | .drain | .writeback | .orphan | .evictOffer | .siRead | .siReadInval | .siWrite | .recallCapacity | .recallCat | .recallReset
  | .recallDrain | .recallGive | .poison | .walk | .ledger | .ringLine | .descriptor | .ctrlRead => s.endTxn t.id

/-- One step of the Conservator; none when nothing can move. Results come first: a fill follows its data at once. -/
def State.consWork (s : State) : Option State :=
  match s.txns.find? (fun t => t.phase == .done &&
      (t.kind == .maintPreload || t.kind == .recallMaint || t.kind == .scrubRow || t.kind == .patrolRow)) with
  | some t => some (s.consDone t)
  | none =>
    match s.txns.find? (fun t => t.phase == .lookup && t.kind.consKind && !s.setBlocked t) with
    | some t => some (s.consLookup t)
    | none =>
      match s.txns.find? (fun t => t.phase == .lookup && t.kind.consKind && !t.waited) with
      | some t => some ((s.putTxn { t with waited := true }).bump (K.setBlockWaits t.slice))
      | none =>
        match s.jobIssue with
        | some s' => some s'
        | none => s.scrubWork

/-! Starts and ends. -/

/-- The summary of a job (06 R182). -/
def State.jobSummary (s : State) (status visited affected dirty skipped elapsed : Nat) : State :=
  (((((s.setObj K.maintStatus status).setObj K.linesVisited visited).setObj K.linesAffected affected).setObj K.dirtyWritten
    dirty).setObj K.linesSkipped skipped).setObj K.maintElapsed elapsed

/-- MAINT_START with its captured parameters (06 R180); mode and busy flag are judged before. -/
def State.startJob (s : State) : State :=
  let op := s.obj K.maintOp
  let base := s.obj K.maintBase
  let len := s.obj K.maintLength
  let part := s.obj K.maintPart
  if op = 0 ∨ 4 < op ∨ base % 64 ≠ 0 ∨ len % 64 ≠ 0 ∨ len = 0 ∨ 2 ^ 40 < base + len ∨ (15 < part ∧ (op = 3 ∨ op = 4)) then
    ((s.jobSummary 5 0 0 0 0 0).bump K.maintSeq).raiseS 19 ((s.obj K.maintSeq + 1) % 0x100000000)
  else
    { s.setObj K.maintStatus 1 with job := some {
        op := op, next := base / 64, last := (base + len) / 64, part := if op = 3 ∨ op = 4 then part else s.inForce.supervisor
        flags := s.obj K.maintFlags, start := s.deviceTime } }

/-- The job ends once its last line has (06 R182). -/
def State.endJob (s : State) : State :=
  match s.job with
  | none => s
  | some j =>
    if (j.last ≤ j.next || j.aborted) && s.jobLines == 0 then
      let status := if j.aborted then 4 else if j.skipped = 0 then 2 else 3
      let s := s.jobSummary status j.visited j.affected j.dirty j.skipped (s.deviceTime - j.start)
      let s : State := { s.bump K.maintSeq with job := none }
      if j.op = 3 ∨ j.op = 4 then s.raisePS j.part 19 (s.obj K.maintSeq) else s.raiseS 19 (s.obj K.maintSeq)
    else s

/-- The summary of a scrub pass (08 R224). -/
def State.scrubSummary (s : State) (status : Nat) (x : Scrub) (elapsed : Nat) : State :=
  let s := (((((s.setObj K.scrubStatus status).setObj K.rowsVisited x.visited).setObj K.scrubCe x.ce).setObj K.scrubUeRepaired
    x.repaired).setObj K.scrubUeUnrepaired x.unrepaired).setObj K.scrubElapsed elapsed
  (List.range 8).foldl (fun s c => s.setObj (K.chipsImplicated c) (tget 0 x.chips c)) s

/-- Units of a scrub target: channels, slices, ports (08 R222). -/
def scrubUnits (target : Nat) : Nat := if target = 0 then 8 else if target = 1 then 32 else 48

/-- The units that SCRUB_UNIT selects: with 0xFF every enabled one (08 R222). -/
def State.scrubSelect (s : State) (target unit : Nat) : List Nat :=
  if unit ≠ 0xFF then [unit]
  else if target = 0 then (List.range 8).filter s.dcEnabled
  else if target = 1 then List.range 32
  else (List.range 48).filter (fun n => s.obj (K.portEnable n) == 1)

/-- SCRUB_START with its captured parameters (08 R222). -/
def State.startScrub (s : State) : State :=
  let target := s.obj K.scrubTarget
  let unit := s.obj K.scrubUnit
  let first := s.obj K.scrubFirst
  let last := s.obj K.scrubLast
  let x : Scrub := { target := target, units := s.scrubSelect target unit, first := first, row := first, last := last, start := s.deviceTime }
  if 2 < target ∨ (unit ≠ 0xFF ∧ scrubUnits target ≤ unit) ∨ last < first then
    ((s.scrubSummary 5 x 0).bump K.scrubSeq).raiseS 19 ((s.obj K.scrubSeq + 1) % 0x100000000)
  else { s.setObj K.scrubStatus 1 with scrub := some x }

/-- Does a write of the Conservator still wait for its channel (08 R224)? -/
def State.consWrites (s : State) : Bool :=
  s.chans.any (fun x => x.2.queue.any (fun y => y.who == consMark && (match y.op with
    | .write _ _ => true
    | .read _ | .store _ _ _ => false)))

/-- The pass ends once its last row has, and its writes are complete (08 R224). -/
def State.endScrub (s : State) : State :=
  match s.scrub with
  | none => s
  | some x =>
    if (x.units.isEmpty || x.aborted) && !s.scrubRuns && !s.consWrites then
      let status := if x.aborted then 4 else if x.unread then 3 else 2
      let s : State := { ((s.scrubSummary status x (s.deviceTime - x.start)).bump K.scrubSeq) with scrub := none }
      s.raiseS 19 (s.obj K.scrubSeq)
    else s

/-- MAINT_ABORT, and leaving the modes of a job or a pass (06 R182, 08 R224). -/
def State.abortJobs (s : State) : State := { s.modJob (fun j => { j with aborted := true }) with
  scrub := s.scrub.map (fun x => { x with aborted := true }) }

/-- One patrol row of data (08 R221). -/
def State.patrolData (s : State) : State :=
  let row := s.patrolDc % s.burstCount
  let s := ((List.range 8).filter s.chanServes).foldl (fun s c => (s.rowTxn .patrolRow c row).1) s
  if row + 1 = s.burstCount then { s.bump K.patrolPassesDc with patrolDc := 0 } else { s with patrolDc := row + 1 }

/-- One patrol row of tags (08 R221). -/
def State.patrolTags (s : State) : State :=
  let row := s.patrolTag % 2048
  let s := ((List.range 32).filter (fun h => !s.unitOut 1 h)).foldl (fun s h => (s.tagRow h row).1) s
  if row = 2047 then { s.bump K.patrolPassesTag with patrolTag := 0 } else { s with patrolTag := row + 1 }

/-- One patrol row of the catalogue (08 R221), at each port in Run: ports with fewer sets have no row there. -/
def State.patrolCats (s : State) : State :=
  let row := s.patrolCat % 256
  let s := ((List.range 48).filter (fun n => (s.port n).mode == .run && row ≤ s.lastRow 2 n)).foldl (fun s n => (s.catRow n row).1) s
  if row = 255 then { s.bump K.patrolPassesCat with patrolCat := 0 } else { s with patrolCat := row + 1 }

end Sys2Proof.Machine
end

