-- ==== Sys2Proof/Machine/AccOps.lean ====
section
/-! DEFINITION. The accession channels: capture of bytes and packing (12 R313 to R321), reading, MARK, REWIND, RELEASE and FLUSH (R322 to
R325), and the auto-drain engine (R326 to R331). -/

namespace Sys2Proof.Machine

/-! Packets. -/

/-- Words of a packet (12 R318). -/
def PktRec.words (p : PktRec) : Nat := (p.len + 3) / 4

/-- LAST_BYTES (12 R318). -/
def PktRec.lastBytes (p : PktRec) : Nat := if p.len % 4 = 0 then 4 else p.len % 4

/-- The position after the packet's last word. -/
def PktRec.stop (p : PktRec) : Nat := p.first + p.words

/-- Lines of a packet (12 R327). -/
def PktRec.lines (p : PktRec) : Nat := (p.len + 63) / 64

/-- Has the packet in progress reached the bytes that let it be read (12 R322)? -/
def PktRec.through (p : PktRec) : Bool := p.complete || (p.cut != 0 && p.cut ≤ p.len)

/-- Is the word at a position of the packet readable (12 R322)? -/
def PktRec.readable (p : PktRec) (r : Nat) : Bool := p.complete || (p.through && 4 * (r - p.first + 1) ≤ p.len)

/-- W − F (12 R319). -/
def AccSt.level (a : AccSt) : Nat := a.w - a.f

/-- Change the latest packet record. -/
def AccSt.modLast (a : AccSt) (g : PktRec → PktRec) : AccSt :=
  match a.pkts.reverse with
  | [] => a
  | p :: rest => { a with pkts := (g p :: rest).reverse }

/-- Words that F has passed are no longer kept, and the records of packets that it has passed are freed (12 R319, R320). -/
def AccSt.prune (a : AccSt) : AccSt :=
  { a with buf := a.buf.filter (fun x => a.f ≤ x.1 && x.1 < a.w)
           pkts := a.pkts.filter (fun p => !(p.complete && p.stop ≤ a.f)) }

/-- F advances: there is room again (12 R319, R321). -/
def AccSt.releaseTo (a : AccSt) (f : Nat) : AccSt := ({ a with f := f, lossRaised := a.lossRaised && f ≤ a.f } : AccSt).prune

/-- The engine's packet, as its record stands now. -/
def AccSt.refresh (a : AccSt) : AccSt :=
  { a with job := { a.job with pkt := a.job.pkt.map (fun p => (a.pkts.find? (fun q => q.first == p.first)).getD p) } }

/-! Events. -/

/-- Event 21 where the count of a channel has risen to its threshold (12 R332). -/
def State.accThreshold (s : State) (c : Nat) : State :=
  let a := s.acc c
  let raised := fun (count mode : Nat) => s.occur a.cfg.owner 21 (c + mode * 16 + count * 256) 63
  if a.cfg.mode = 0 then
    let t := s.obj (K.threshWords c)
    if a.level < t then s.modAcc c (fun a => { a with armedWords := true })
    else if a.armedWords && t != 0 then (raised a.level 0).modAcc c (fun a => { a with armedWords := false })
    else s
  else
    let t := s.obj (K.threshDesc c)
    let n := (s.obj (K.descHead c) + 0x100000000 - s.obj (K.descTailSeen c)) % 0x100000000
    if n < t then s.modAcc c (fun a => { a with armedDesc := true })
    else if a.armedDesc && t != 0 then (raised n 1).modAcc c (fun a => { a with armedDesc := false })
    else s

/-- Event 22 with its cause, to the owner and the supervisor (12 R332). -/
def State.accOverflow (s : State) (c cause : Nat) : State := s.raisePS (s.acc c).cfg.owner 22 (c + cause * 256)

/-- A loss under DROP: event 22 for the first one since the channel last had room (12 R321). -/
def State.accLoss (s : State) (c cause : Nat) : State :=
  if (s.acc c).lossRaised then s else (s.modAcc c (fun a => { a with lossRaised := true })).accOverflow c cause

/-! Flush. -/

/-- The values of a channel's STAGED objects now. -/
def State.accObjects (s : State) (c : Nat) : AccCfg :=
  { owner := s.obj (K.accOwner c), mode := s.obj (K.accMode c), dataBase := s.obj (K.drainDataBase c),
    dataLog := s.obj (K.drainDataSizeLog2 c), descBase := s.obj (K.drainDescBase c), descLog := s.obj (K.drainDescSizeLog2 c),
    ctrlBase := s.obj (K.drainCtrlBase c) }

/-- The transactions of a channel's engine are nobody's any more: 15 is no channel. -/
def State.accOrphan (s : State) (c : Nat) : State :=
  { s with txns := s.txns.map (fun t =>
      if (t.kind == .ringLine || t.kind == .descriptor || t.kind == .ctrlRead) && t.aux % 16 == c then { t with aux := 15 } else t) }

/-- DATA_HEAD, DESC_HEAD and the tails return to 0 (12 R331, R333). -/
def State.accHeads (s : State) (c : Nat) : State :=
  (((s.setObj (K.dataHead c) 0).setObj (K.descHead c) 0).setObj (K.dataTailSeen c) 0).setObj (K.descTailSeen c) 0

/-- New values of the STAGED objects apply at the flush (12 R331). -/
def State.accApply (s : State) (c : Nat) : State :=
  if !(s.acc c).applyCfg then s
  else
    ((s.accOrphan c).accHeads c).modAcc c (fun a => { a with
      cfg := s.accObjects c, applyCfg := false, job := {}, armedDesc := true, armedWords := true, polling := false })

/-- A flush takes effect (12 R324): every word and record goes. A packet that is wholly moved and waits for its descriptor holds no word
any more and is not discarded. -/
def State.accFlushNow (s : State) (c : Nat) : State :=
  let a := s.acc c
  let n := a.pkts.length
  let keep := match a.job.pkt with
    | some p => p.complete && p.stop ≤ a.f
    | none => false
  let s := if keep then s else (s.accOrphan c).modAcc c (fun a => { a with job := {} })
  let s := s.modAcc c (fun a => { a with
    f := a.w, r := a.w, m := none, buf := [], pkts := [], flushPending := false, lossRaised := false })
  let s := (s.bump (K.flushes c)).occur a.cfg.owner 23 (c + n * 256) 63
  (s.accApply c).accThreshold c

/-- FLUSH (12 R324). -/
def State.accFlush (s : State) (c : Nat) : State :=
  if (s.acc c).inPacket then s.modAcc c (fun a => { a with flushPending := true }) else s.accFlushNow c

/-- The channel is emptied without a flush: hub reset, entry to the working mode, ACC_ENABLE falls (12 R333), fencing (15 R394). -/
def State.accEmpty (s : State) (c : Nat) : State :=
  let s := (s.accOrphan c).accHeads c
  s.modAcc c (fun a => { active := a.active, sampled := a.sampled, req := a.req, ack := a.ack, frame := a.frame, cfg := s.accObjects c })

/-! Capture. -/

/-- The packet in progress ends (12 R316): complete at this device time; a pending flush takes effect (R324). -/
def State.accPacketEnds (s : State) (c : Nat) (truncated : Bool) : State :=
  let s := (s.modAcc c (fun a => { a.modLast (fun p => { p with complete := true, truncated := truncated, time := s.deviceTime }) with
    inPacket := false })).bump (K.packets c)
  let s := if truncated then s.bump (K.packetsTruncated c) else s
  let s := if (s.acc c).flushPending then s.accFlushNow c else s
  s.modAcc c (fun a => a.refresh.prune)

/-- The byte is taken: ACn_ACK rises (12 R314 step 3). -/
def State.accAck (s : State) (c : Nat) : State := s.modAcc c (fun a => { a with ack := true, waitByte := none })

/-- Discard the rest of a packet up to the fall of ACn_FRAME; this byte is the first (12 R316, R321). -/
def State.accDiscard (s : State) (c : Nat) : State :=
  ((s.modAcc c (fun a => { a with discarding := true })).bump (K.bytesDropped c)).accAck c

/-- Store a byte of the packet in progress (12 R318). -/
def State.accStore (s : State) (c : Nat) (d : Byte) : State :=
  match (s.acc c).pkts.getLast? with
  | none => s
  | some p =>
    let k := p.first + p.len / 4
    let s := s.modAcc c (fun a =>
      { a.modLast (fun p => { p with len := p.len + 1 }) with
        w := k + 1
        buf := tput (tget 0 a.buf k ||| BitVec.ofNat 32 (d.toNat * 256 ^ (p.len % 4))) k a.buf })
    (s.accAck c).accThreshold c

/-- A byte arrives with ACn_FRAME high (12 R316, R320, R321). -/
def State.accByte (s : State) (c : Nat) (d : Byte) : State :=
  let a := s.acc c
  let wait := (if a.waitByte.isSome then s else s.bump (K.stalls c)).modAcc c (fun a => { a with waitByte := some d })
  if a.discarding then s.accDiscard c
  else
    match a.inPacket, a.pkts.getLast? with
    | true, some p =>
      if p.len = 65535 then ((s.accPacketEnds c true).accOverflow c 1).accDiscard c
      else if p.len % 4 ≠ 0 ∨ a.level < 4096 then s.accStore c d
      else if s.obj (K.fullPolicy c) = 0 then wait
      else ((s.accPacketEnds c true).accLoss c 1).accDiscard c
    | _, _ =>
      if a.level < 4096 ∧ a.pkts.length < 64 then
        (s.modAcc c (fun a => { a with
          inPacket := true
          pkts := a.pkts ++ [{ first := a.w, len := 0, truncated := false, complete := false, time := 0, cut := s.obj (K.cutThrough c) }] })).accStore c d
      else if s.obj (K.fullPolicy c) = 0 then wait
      else ((s.bump (K.packetsDropped c)).accLoss c 2).accDiscard c

/-- ACn_FRAME falls (12 R316). -/
def State.accFrameLow (s : State) (c : Nat) : State :=
  let s := s.modAcc c (fun a => { a with frame := false, discarding := false })
  if (s.acc c).inPacket then s.accPacketEnds c false else s

/-- ACn_REQ rises with the byte and the level of ACn_FRAME (12 R314, R316, R317). -/
def State.accReqHigh (s : State) (c : Nat) (d : Byte) (frame : Bool) : State :=
  if (s.acc c).req then s
  else
    let s := if (s.acc c).frame && !frame then s.accFrameLow c else s
    let s := s.modAcc c (fun a => { a with req := true, frame := frame })
    if !(s.acc c).active || !(s.acc c).sampled then s
    else if frame then s.accByte c d
    else (s.bump (K.strayBytes c)).accAck c

/-- ACn_REQ falls (12 R314 step 5, R317). -/
def State.accReqLow (s : State) (c : Nat) : State :=
  s.modAcc c (fun a => { a with req := false, ack := false, waitByte := none, sampled := true })

/-- Is the write side to be active (12 R317)? -/
def State.accShould (s : State) (c : Nat) : Bool :=
  s.obj (K.accEnable c) == 1 && s.pd 2 && !s.objBit K.fenceAcc c && s.mode.ports && !s.dead

/-- The write side stops: the packet in progress is discarded (12 R317). -/
def State.accStop (s : State) (c : Nat) : State :=
  let s := if (s.acc c).inPacket && (s.acc c).job.pkt.any (fun p => !p.complete) then s.accOrphan c else s
  let s := s.modAcc c (fun a =>
    let a : AccSt := { a with active := false, sampled := false, waitByte := none, discarding := false }
    if !a.inPacket then a
    else
      let first := match a.pkts.getLast? with
        | some p => max p.first a.f
        | none => a.w
      ({ a with inPacket := false, pkts := a.pkts.dropLast, w := first, r := min a.r first
                m := a.m.filter (fun m => m ≤ min a.r first)
                job := if a.pkts.length = 1 ∧ a.job.pkt.any (fun p => !p.complete) then {} else a.job } : AccSt).prune)
  if (s.acc c).flushPending then s.accFlushNow c else s

/-- The write side starts (12 R317). -/
def State.accStart (s : State) (c : Nat) : State :=
  s.modAcc c (fun a => { a with active := true, sampled := !a.req })

/-! Reading. -/

/-- The packet at R (12 R325). -/
def AccSt.atR (a : AccSt) : Option PktRec := a.pkts.find? (fun p => p.first ≤ a.r && a.r < p.stop)

/-- ACC_WSTAT of the word at a position of a packet (12 R325). -/
def wordStatus (p : PktRec) (r : Nat) : Nat :=
  let last := p.complete && r + 1 == p.stop
  (if last then 2 ^ p.lastBytes - 1 else 15) + last.toNat * 16 + (r == p.first).toNat * 32 + p.truncated.toNat * 128

/-- A read of ACC_DATA (12 R325): the word, and R advances. -/
def State.accRead (s : State) (c : Nat) : State × Nat :=
  let a := s.acc c
  match a.atR with
  | none => (s.modAcc c (fun a => { a with wstat := 64 }), 0)
  | some p =>
    if a.cfg.mode = 0 ∧ p.readable a.r = true then
      (s.modAcc c (fun a => { a with wstat := wordStatus p a.r, r := a.r + 1 }), (tget 0 a.buf a.r).toNat)
    else (s.modAcc c (fun a => { a with wstat := 64 }), 0)

/-- How many readable words of a packet follow from R, at most `n`. -/
def readableWords (p : PktRec) (r : Nat) : Nat → Nat
  | 0 => 0
  | n + 1 => if r < p.stop ∧ p.readable r = true then 1 + readableWords p (r + 1) n else 0

/-- A read of ACC_BLOCK (12 R325): up to 256 readable words of the packet at R. -/
def State.accReadBlock (s : State) (c : Nat) : State × List Byte :=
  let a := s.acc c
  let n := match a.atR with
    | none => 0
    | some p => if a.cfg.mode = 0 then readableWords p a.r 256 else 0
  match a.atR with
  | some p =>
    if n = 0 then (s.modAcc c (fun a => { a with wstat := 64 }), [])
    else
      (s.modAcc c (fun a => { a with wstat := wordStatus p (a.r + n - 1), r := a.r + n }),
        (List.range n).flatMap (fun i => natBytes 4 (tget 0 a.buf (a.r + i)).toNat))
  | none => (s.modAcc c (fun a => { a with wstat := 64 }), [])

/-- ACC_PKT_INFO (12 R334). -/
def AccSt.info (a : AccSt) : Nat :=
  match a.atR with
  | none => 0
  | some p => p.len + (if p.complete then p.lastBytes else 0) * 2 ^ 16 + p.truncated.toNat * 2 ^ 19 + p.complete.toNat * 2 ^ 20 + 2 ^ 21

/-- ACC_PKT_TIME (12 R334). -/
def AccSt.infoTime (a : AccSt) : Nat :=
  match a.atR with
  | none => 0
  | some p => if p.complete then p.time else 0

/-- ACC_STATE (12 R334); FLUSH pending, then waiting for space, then in packet. -/
def State.accStateCode (s : State) (c : Nat) : Nat :=
  let a := s.acc c
  if a.flushPending then 4 else if !a.active then 0 else if a.waitByte.isSome then 3 else if a.inPacket then 2 else 1

/-- MARK (12 R323). -/
def State.accMark (s : State) (c : Nat) : State := s.modAcc c (fun a => { a with m := some a.r })

/-- REWIND with a valid mark (12 R323). -/
def State.accRewind (s : State) (c : Nat) : State := s.modAcc c (fun a => { a with r := a.m.getD a.r })

/-- RELEASE (12 R323). -/
def State.accRelease (s : State) (c : Nat) : State :=
  (s.modAcc c (fun a => ({ a with m := a.m.filter (fun m => m == a.r) } : AccSt).releaseTo a.r)).accThreshold c

/-- Is the ACC_CMD refused as a write that the present state forbids (12 R323, R326)? -/
def State.accCmdForbidden (s : State) (c v : Nat) : Bool :=
  ((s.acc c).cfg.mode == 1 && v < 4) || (v == 2 && (s.acc c).m.isNone)

/-- A write of ACC_CMD (12 R323). -/
def State.accCommand (s : State) (c v : Nat) : State :=
  if v = 1 then s.accMark c else if v = 2 then s.accRewind c else if v = 3 then s.accRelease c else s.accFlush c

/-! Auto-drain. -/

/-- Does the engine run in this mode (12 R331)? -/
def State.accMoves (s : State) : Bool := (s.mode.serving || s.mode == .drain) && !s.dead

/-- The packet the engine works on, as its record stands now. -/
def AccSt.current (a : AccSt) : Option PktRec :=
  match a.refresh.job.pkt with
  | none => a.pkts.head?
  | some p => some p

/-- Is there room for the next line in the data ring (12 R330)? -/
def State.lineRoom (s : State) (c : Nat) : Bool :=
  let used := (s.obj (K.dataHead c) + 64 * (s.acc c).job.moved + 64 + 0x100000000 - s.obj (K.dataTailSeen c)) % 0x100000000
  used ≤ 2 ^ (s.acc c).cfg.dataLog

/-- Is there room for a descriptor (12 R330)? -/
def State.descRoom (s : State) (c : Nat) : Bool :=
  (s.obj (K.descHead c) + 0x100000000 - s.obj (K.descTailSeen c)) % 0x100000000 < 2 ^ (s.acc c).cfg.descLog

/-- What the engine of a channel waits to do next. -/
inductive AccNeed where
  | nothing | line | descriptor
deriving DecidableEq, Repr

/-- What the engine of a channel is ready to do, room apart (12 R327, R328). -/
def AccSt.need (a : AccSt) : AccNeed :=
  match a.current with
  | none => .nothing
  | some p =>
    if a.job.described then .nothing
    else if a.job.moved < p.lines ∧ p.through = true ∧ (p.complete = true ∨ 64 * (a.job.moved + 1) ≤ p.len) then .line
    else if p.complete = true ∧ a.job.moved = p.lines ∧ a.job.ended.length = p.lines then .descriptor
    else .nothing

/-- The 64 bytes of line k of a packet, zero beyond its length (12 R327). -/
def AccSt.lineData (a : AccSt) (p : PktRec) (k : Nat) : Line :=
  BitVec.ofNat 512 ((List.range 16).foldl (fun v i =>
    if 16 * k + i < p.words then v + (tget 0 a.buf (p.first + 16 * k + i)).toNat * 2 ^ (32 * i) else v) 0)

/-- The line of the data ring at a byte count (12 R327). -/
def AccCfg.dataLine (g : AccCfg) (offset : Nat) : Nat := (g.dataBase + offset % 2 ^ g.dataLog) / 64

/-- A transaction of an engine of the hub, admitted at its home slice as its owner's (10 R280, R282); a refused one is offered again
later (DESIGN CHOICE: no credit is issued). -/
def State.admitEngine (s : State) (t : Txn) : Option State :=
  match s.judge t.slice t.part 48 t.line none with
  | .admitted e => some ((s.newTxn { t with entry := e }).peak t.slice)
  | .qos => none
  | .conflict => none
  | .resource => none

/-- Move the next line of the packet (12 R327). -/
def State.accLine (s : State) (c : Nat) (p : PktRec) : Option State :=
  let a := s.acc c
  let k := a.job.moved
  let line := a.cfg.dataLine (s.obj (K.dataHead c) + 64 * k)
  let s := s.modAcc c (fun a => { a with
    polling := false, r := max a.r (min (p.first + 16 * (k + 1)) p.stop)
    job := { a.job with pkt := some p, moved := k + 1 } })
  s.admitEngine { id := 0, kind := .ringLine, line := line, slice := s.sliceOf line, part := a.cfg.owner, mask := fullMask,
                  data := a.lineData p k, aux := c + 16 * k }

/-- The descriptor of a packet (12 R329). -/
def State.descriptorOf (s : State) (c : Nat) (p : PktRec) (error : Bool) : Nat :=
  let i := s.obj (K.descHead c)
  let phase := 1 - i / 2 ^ (s.acc c).cfg.descLog % 2
  p.len + p.lastBytes * 2 ^ 16 + p.truncated.toNat * 2 ^ 19 + error.toNat * 2 ^ 20 + c * 2 ^ 24 + phase * 2 ^ 31 +
    s.obj (K.dataHead c) * 2 ^ 32 + p.time % 2 ^ 64 * 2 ^ 64

/-- Write the descriptor of the packet (12 R328). -/
def State.accDescribe (s : State) (c : Nat) (p : PktRec) : State :=
  let a := s.acc c
  let addr := a.cfg.descBase + 16 * (s.obj (K.descHead c) % 2 ^ a.cfg.descLog)
  let s := s.newTxn { id := 0, kind := .descriptor, line := addr / 64, slice := s.sliceOf (addr / 64), part := a.cfg.owner,
                      entry := .waiting, mask := byteRange (addr % 64) 16
                      data := shiftIn (s.descriptorOf c p a.job.error) (addr % 64), aux := c }
  s.modAcc c (fun a => { a with polling := false, job := { a.job with pkt := some p, described := true } })

/-- Is a transaction of this kind of the channel's engine under way? -/
def State.accHas (s : State) (kind : TxnKind) (c : Nat) : Bool := s.txns.any (fun t => t.kind == kind && t.aux % 16 == c)

/-- Read the control line (12 R330). -/
def State.accCtrlRead (s : State) (c : Nat) : Option State :=
  let line := (s.acc c).cfg.ctrlBase / 64
  (s.modAcc c (fun a => { a with polling := true })).admitEngine
    { id := 0, kind := .ctrlRead, line := line, slice := s.sliceOf line, part := (s.acc c).cfg.owner, aux := c }

/-- Does the engine lack room for what it is ready to do (12 R330)? -/
def State.accLacksRoom (s : State) (c : Nat) : Bool :=
  match (s.acc c).need with
  | .nothing => false
  | .line => !s.lineRoom c
  | .descriptor => !s.descRoom c

/-- The tails of the control line (12 R330): accepted, or ignored as an error. -/
def State.accTails (s : State) (c : Nat) (data : Line) : State :=
  let desc := (data.extractLsb' 0 32).toNat
  let tail := (data.extractLsb' 32 32).toNat
  let a := s.acc c
  if 2 ^ a.cfg.descLog < (s.obj (K.descHead c) + 0x100000000 - desc) % 0x100000000 ∨
      2 ^ a.cfg.dataLog < (s.obj (K.dataHead c) + 0x100000000 - tail) % 0x100000000 ∨ tail % 64 ≠ 0 then
    (s.bump (K.ctrlErrors c)).accOverflow c 3
  else ((s.setObj (K.descTailSeen c) desc).setObj (K.dataTailSeen c) tail).accThreshold c

/-- The longest run of ended lines from line k. -/
def endedRun (l : List Nat) (k : Nat) : Nat → Nat
  | 0 => k
  | n + 1 => if l.contains k then endedRun l (k + 1) n else k

/-- A line of a packet has ended (12 R327, R328). -/
def State.accLineEnds (s : State) (t : Txn) : State :=
  let c := t.aux % 16
  let s := s.endTxn t.id
  if 12 ≤ c then s
  else
    let s := if t.poisoned then s.bump (K.ringWriteErrors c) else s
    let s := s.modAcc c (fun a =>
      let ended := a.job.ended ++ [t.aux / 16]
      let a : AccSt := { a with job := { a.job with ended := ended, error := a.job.error || t.poisoned, pkt := a.current } }
      match a.job.pkt with
      | some p => a.releaseTo (max a.f (min (p.first + 16 * endedRun ended 0 ended.length) (min p.stop a.r)))
      | none => a)
    s.accThreshold c

/-- A descriptor is visible at its home slice once its transaction owns its line (12 R328). -/
def State.descVisible (s : State) (c : Nat) : Bool :=
  (s.acc c).job.described && !(s.txns.any (fun t => t.kind == .descriptor && t.aux % 16 == c && t.phase == .queued))

/-- The descriptor is visible: the heads advance (12 R328), whatever becomes of its memory write. -/
def State.accHeadsAdvance (s : State) (c : Nat) : State :=
  match (s.acc c).job.pkt with
  | none => s
  | some p =>
    let s := (s.addObj (K.dataHead c) (64 * p.lines)).addObj (K.descHead c) 1
    let s : State := { s with txns := s.txns.map (fun t => if t.kind == .descriptor && t.aux % 16 == c then { t with aux := 15 } else t) }
    (s.modAcc c (fun a => { a with job := {} })).accThreshold c

/-- What a finished transaction of an engine leads to. -/
def State.accDone (s : State) (t : Txn) : State :=
  if t.kind = .ringLine then s.accLineEnds t
  else if t.kind = .ctrlRead then
    let s := s.endTxn t.id
    if 12 ≤ t.aux % 16 ∨ t.poisoned = true then s else s.accTails (t.aux % 16) t.data
  else s.endTxn t.id

/-- The next step of one channel: its write side, a byte that waits for space, its engine. A byte delayed under WAIT waits for its space
whatever FULL_POLICY becomes: it is never lost (12 R321), and a new value acts from the next byte (R334). -/
def State.accChan (s : State) (c : Nat) : Option State :=
  let a := s.acc c
  if a.active && !s.accShould c then some (s.accStop c)
  else if !a.active && s.accShould c then some (s.accStart c)
  else
    let space := match a.inPacket, a.waitByte with
      | _, none => none
      | true, some d => if a.level < 4096 then some d else none
      | false, some d => if a.level < 4096 ∧ a.pkts.length < 64 then some d else none
    match space with
    | some d => some (s.accByte c d)
    | none =>
      if a.cfg.mode = 0 || !s.accMoves then none
      else if s.accLacksRoom c then
        if a.polling || s.accHas .ctrlRead c then none else s.accCtrlRead c
      else
        match a.need, a.current with
        | .line, some p => s.accLine c p
        | .descriptor, some p => some (s.accDescribe c p)
        | _, _ => none

/-- One step of the accession engine; none when nothing can move. -/
def State.accWork (s : State) : Option State :=
  if s.dead then none
  else
    match s.txns.find? (fun t => t.phase == .done && (t.kind == .ringLine || t.kind == .descriptor || t.kind == .ctrlRead)) with
    | some t => some (s.accDone t)
    | none => (List.range 12).findSome? s.accChan

end Sys2Proof.Machine
end

