-- ==== Sys2Proof/Machine/FenceOps.lean ====
section
/-! DEFINITION. Moves of buckets between slices (05 R133, 06 R164), fencing and return of units (15 R394, R395), partition reset (10 R273
to R275) and TC_INVAL (10 R271). -/

namespace Sys2Proof.Machine

/-! Moves of buckets. -/

/-- The slice that is to serve a bucket: the one of its map, or the next unfenced slice in ascending order, wrapping at HS31 (15 R394). -/
def State.targetSlice (s : State) (b : Nat) : Nat :=
  let h := s.obj (K.bucketMap b)
  (((List.range 32).map (fun i => (h + i) % 32)).find? (fun h => !s.objBit K.fenceSlice h)).getD h

/-- Are the home slices powered? -/
def State.slicesOn (s : State) : Bool := s.pd 3 && s.pd 4 && s.pd 5 && s.pd 6

/-- Every bucket that is not where it should be is to be moved, one at a time, in ascending order. -/
def State.slicesRetarget (s : State) : State :=
  { s with moving := ((List.range 64).filter (fun b => s.sliceOf b != s.targetSlice b)).map (fun b => (b, s.targetSlice b)) }

/-- The next step of the bucket moves (05 R133): none while transactions of the buckets concerned are under way. -/
def State.moveWork (s : State) : Option State :=
  match s.moving with
  | [] => none
  | (b, h) :: rest =>
    if s.sliceOf b = h then some { s with moving := rest }
    else
      let bs := s.movedBuckets b h
      if s.slicesOn && s.txns.any (fun t => bs.contains (bucketOf t.line) && (t.entry != .waiting || t.phase != .queued)) then none
      else some { (bs.foldl (fun s x => s.invalBucket x) s).withSlice b h with moving := rest }

/-! Fencing. -/

/-- The bits of `new` that `old` has not. -/
def newBits (old new : Nat) : List Nat := (List.range 64).filter (fun i => new.testBit i && !old.testBit i)

/-- A write of FENCE_SLICE (15 R394, R395). -/
def State.fenceSlices (s : State) (v : Nat) : State :=
  let old := s.obj K.fenceSlice
  let s := (newBits old v).foldl (fun s h => s.fenceUnit K.fenceSlice 0 h) s
  (s.setObj K.fenceSlice v).slicesRetarget.toWorking

/-- A write of FENCE_DC (15 R394, R395; 07 R200). -/
def State.fenceChans (s : State) (v : Nat) : State :=
  let old := s.obj K.fenceDc
  let s := (newBits old v).foldl (fun s c => s.fenceChan c) s
  let s := s.setObj K.fenceDc v
  ((newBits v old).foldl (fun s c => s.chanReturns c) s).calSettled.toWorking

/-- May these links be fenced: each is dual and its partner serves (15 R394)? -/
def State.mlFenceOk (s : State) (v : Nat) : Bool :=
  (newBits (s.obj K.fenceMl) v).all (fun k =>
    s.partnerServes k && !(match s.partner k with
      | some j => v.testBit j
      | none => true))

/-- A write of FENCE_ML (15 R394, R395; 09 R241). -/
def State.fenceLinks (s : State) (v : Nat) : State :=
  let old := s.obj K.fenceMl
  let s := (newBits old v).foldl (fun s k => match s.partner k with
    | some j => s.mlFence k j
    | none => s) s
  let s := s.setObj K.fenceMl v
  ((newBits v old).foldl (fun s k => s.mlTo k (if s.mlEnabled k then .bringup else .notEnabled)) s).toWorking

/-- A write of FENCE_PORT (15 R394, R395). -/
def State.fencePorts (s : State) (v : Nat) : State :=
  let old := s.obj K.fencePort
  let s := (newBits old v).foldl (fun s n => (s.portDies n).fenceUnit K.fencePort 3 n) s
  (s.setObj K.fencePort v).toWorking

/-- A write of FENCE_ACC (15 R394, R395; 12 R317, R333). -/
def State.fenceAccs (s : State) (v : Nat) : State :=
  let old := s.obj K.fenceAcc
  let s := (newBits old v).foldl (fun s c => ((s.fenceUnit K.fenceAcc 4 c).accStop c).accEmpty c) s
  (s.setObj K.fenceAcc v).toWorking

/-! Translation caches. -/

/-- Every entry of a port's translation cache is invalid (10 R271). -/
def State.tcClear (s : State) (n : Nat) : State :=
  { s with arrays := s.arrays.filter (fun x => x.1 / 2 ^ 16 != 0x300 + n) }.modPort n (fun p => { p with tcOrder := [] })

/-- Is a walk that was in progress at a TC_INVAL of the partition still running (10 R271)? -/
def State.tcWalks (s : State) (p : Nat) : Bool :=
  (s.membersOf p).any (fun n => match (s.port n).walk with
    | some w => !w.install
    | none => false)

/-- A write of 1 to TC_INVAL (10 R271): busy while walks in progress end without installing. -/
def State.tcInvalOp (s : State) (p : Nat) : State :=
  let s := (s.membersOf p).foldl (fun s n => (s.tcClear n).modPort n (fun q =>
    { q with walk := q.walk.map (fun w => { w with install := false }) })) s
  if s.tcInval.contains p then s else { s with tcInval := s.tcInval ++ [p] }

/-- TC_INVAL is over: TC_INVAL_BUSY returns to 0; the writes that wait for it are answered as the hub goes on (10 R271). -/
def State.tcInvalEnd (s : State) (p : Nat) : State := { s with tcInval := s.tcInval.erase p }

/-! Partition reset. -/

/-- The reset of a partition that is running. -/
def State.resetOf (s : State) (p : Nat) : Option PartReset := s.resets.find? (fun r => r.part == p)

/-- Step 1 for a member port (10 R274): what it has not yet admitted is held, waits end, and it leaves sleep. -/
def State.resetHoldPort (s : State) (n : Nat) : State :=
  let s := (s.endWait n).loanLost n
  s.modPort n (fun p => { p with
    resetHold := true, wake := false, mode := if p.mode = .sleeping then .run else p.mode, sleepTid := none
    accesses := p.accesses.filter (fun a => match a.key with
      | .load t => !(p.waiting.any (fun r => r.op != .writeback && r.tid == t))
      | .store _ | .dev _ | .wb _ => true)
    resetReqs := p.resetReqs ++ (p.waiting.filter (fun r => r.op != .writeback)).map (fun r => (r.tid, r.op.resp)) ++
      (match p.sleepTid with
        | some t => [(t, DownOp.sleepAck)]
        | none => [])
    waiting := p.waiting.filter (fun r => r.op == .writeback)
    walk := match p.walk with
      | some w => if w.req.op = .writeback then some w else none
      | none => none })

/-- The entries of the member ports of a partition that no recall of its reset covers yet; a dead port's are its reclamation's. -/
def State.unrecalled (s : State) (p : Nat) : List CatEntry :=
  ((s.membersOf p).filter (fun n => !s.deaf n)).flatMap (fun n => (s.entriesOf n).filter (fun e =>
    !(s.txns.any (fun t => t.kind == .recallReset && t.aux == p && t.line == e.line))))

/-- Recall those entries, one transaction for each line (10 R274 step 2G). -/
def State.recallForReset (s : State) (p : Nat) : State :=
  let s := (s.membersOf p).foldl (fun s n => (s.sweepPort n).1) s
  let es := s.unrecalled p
  let s := s.addObj (K.linesRecalled p) es.length
  ((es.map (·.line)).eraseDups).foldl (fun s l =>
    s.newTxn { id := 0, kind := .recallReset, line := l, slice := s.sliceOf l, entry := .waiting, part := p, aux := p }) s

/-- PART_RESET 1 or 2, accepted (10 R273, R274 steps 1 and 2). -/
def State.startReset (s : State) (p : Nat) (immediate : Bool) : State :=
  let s := s.setObj (K.resetState p) (if immediate then 3 else 1)
  let s : State := { s with resets := s.resets ++ [{ part := p, immediate := immediate }] }
  let ms := s.membersOf p
  let s := ms.foldl (fun s n => s.resetHoldPort n) s
  if immediate then ms.foldl (fun s n => s.portDies n) s
  else s.recallForReset p

/-- Has step 2 of a reset ended (10 R274)? -/
def State.resetRecalled (s : State) (r : PartReset) : Bool :=
  if r.immediate then (s.membersOf r.part).all (fun n => (s.port n).reclaim == .idle)
  else !(s.txns.any (fun t => t.kind == .recallReset && t.aux == r.part))

/-- Step 3 begins: accepted stores drain (10 R274). -/
def State.resetStores (s : State) (p : Nat) : State :=
  let s : State := { s with resets := s.resets.map (fun r => if r.part = p then { r with stores := true } else r) }
  (s.membersOf p).foldl (fun s n => s.drainAll n) s

/-- Has every line that a request admitted before step 1 took since the recalls began been recalled as well? A GRACEFUL reset loses no
data (10 R275). -/
def State.resetClean (s : State) (r : PartReset) : Bool := r.immediate || (s.resetRecalled r && (s.unrecalled r.part).isEmpty)

/-- Has a member port completed what was admitted and accepted before step 1 (10 R274 step 3)? -/
def State.resetQuiet (s : State) (n : Nat) : Bool :=
  let p := s.port n
  !(s.txns.any (fun t => t.port == n && (t.kind.resp != .complete || t.kind == .storeCond || t.kind == .drain))) && p.sb.isEmpty &&
    !(p.accesses.any Access.isStore) && p.owedErrors.isEmpty && p.barriers.isEmpty && p.waiting.isEmpty

/-- The per-port counters of a partition reset (02 R55, 04 R129, 05 R161, 13 R351). -/
def portCounters (n : Nat) : List Nat :=
  [K.sbForwards n, K.sbPartialWaits n, K.sbFullStalls n, K.sbAgeDrains n, K.barriersOk n, K.scSuccess n, K.scFail n] ++
  [K.aaliveGlitches n, K.bringupFails n, K.versionRefusals n, K.upwireWaits n, K.codeViolations n, K.crcFailures n,
    K.framingErrors n, K.resyncsUp n, K.resyncsDown n, K.linkFails n, K.decodeErrors n, K.retriesSent n] ++
  [K.capacityRecalls n, K.staleSnoops n, K.linesPoisoned n, K.protocolErrors n] ++
  [K.losses n, K.fenceDiscards n, K.heldRefusals n, K.lossCause n, K.firstLossTime n, K.deviceErrors n, K.poisonAnswers n, K.permFaults n]

/-- The partition's own counters (10 R286). -/
def partCounters (p : Nat) : List Nat :=
  [K.faultCount p, K.tcMisses p, K.linesRecalled p, K.throttled p, K.refusedQos p, K.qosRefusedResource p, K.qosRefusedConflict p]

/-- Steps 4 and 5 for a member port (10 R274). -/
def State.resetPort (s : State) (n : Nat) : State :=
  let s := ((portCounters n).foldl (fun s k => s.setObj k 0) s).setObj (K.loanFlag n) 0
  let s := (s.tcClear n).modPort n (fun p => { p with reservation := none, fence := .normal, discardAfter := none, resetHold := false })
  let held := (s.port n).resetReqs
  let bars := (s.port n).resetBars
  let s := s.modPort n (fun p => { p with resetReqs := [], resetBars := [] })
  if (s.link (portLink n)).phase = .up then
    let s := s.modPort n (fun p => { p with mode := .awaitDescribe, map := none, mapNext := none, mapAcked := 0, waitEvent := none })
    let s := bars.foldl (fun s t => (s.bump (K.barriersOk n)).respond n { op := .complete, tid := t, epoch := (s.port n).epoch }) s
    held.foldl (fun s r =>
      let s := if r = (0xFFF, DownOp.complete) then s.bump (K.scFail n) else s
      (s.bump (K.decodeErrors n)).refuse n r.1 (s.port n).epoch r.2 14) s
  else s

/-- Steps 4 to 6 of a partition reset (10 R274). -/
def State.resetEnd (s : State) (r : PartReset) : State :=
  let p := r.part
  let s := s.setObj (K.resetState p) 2
  let s := s.ctlReset p
  let s := (partCounters p).foldl (fun s k => s.setObj k 0) s
  let s := ((List.range 12).filter (fun c => (s.acc c).cfg.owner == p)).foldl (fun s c => s.accFlush c) s
  let s := (s.membersOf p).foldl (fun s n => s.resetPort n) s
  let s := (s.setObj (K.resetState p) 0).bump (K.resetsDone p)
  let s : State := { s with resets := s.resets.erase r }
  s.raiseS 20 (p + (if r.immediate then 2 else 1) * 256)

/-- A recall of a partition reset has ended, or a member port has been granted a line since the recalls began (10 R274, R275). -/
def State.resetWork (s : State) : Option State :=
  match s.txns.find? (fun t => t.phase == .done && t.kind == .recallReset) with
  | some t => some (s.endTxn t.id)
  | none => (s.resets.find? (fun r => !r.immediate && !(s.unrecalled r.part).isEmpty)).map (fun r => s.recallForReset r.part)

end Sys2Proof.Machine
end

