-- ==== Sys2Proof/Machine/CommitOps.lean ====
section
/-! DEFINITION. Staged copies, the consistency rules and the commit instant (16 R412 to R414; 05 R133; 10 R281; 11 R303, R305, R311;
12 R326, R331). -/

namespace Sys2Proof.Machine

/-- The staged copy of a STAGED object (16 R412); `staged` lists the copies that differ from the value in force. -/
def State.stagedOf (s : State) (k : Nat) : Nat := tget (s.obj k) s.staged k

/-- Write a staged copy. -/
def State.stageOp (s : State) (k v : Nat) : State :=
  { s with staged := if v = s.obj k then tdel k s.staged else tput v k s.staged }

/-- Values bound to a port's epoch: translation objects, the target map and EVICT_OFFER_EN (16 R414). -/
def portBound (k : Nat) : Bool :=
  let i := k / 256
  let sub := k % 256
  (0x2100 ≤ i && i ≤ 0x210F && 2 ≤ sub && sub ≤ 5) || i == 0x2510 || i == 0x2511 || i == 0x2512 ||
    (0x2000 ≤ i && i ≤ 0x202F && sub == 3)

/-! Consistency. -/

/-- Does a staged device region overlap the bytes from `a` to `b`? -/
def State.stagedRegionHits (s : State) (a b : Nat) : Bool :=
  (List.range 32).any (fun e =>
    let size := s.stagedOf (K.drSize e)
    let lo := s.stagedOf (K.drBase e) / 2 ^ size * 2 ^ size
    size != 0 && lo < b && a < lo + 2 ^ size)

/-- Do these bytes lie wholly in Normal memory under the staged target map? -/
def State.ringNormal (s : State) (base bytes : Nat) : Bool :=
  base + bytes ≤ 2 ^ 40 && !s.stagedRegionHits base (base + bytes) &&
    !(s.inForce.console < base + bytes && base < s.inForce.console + consoleSize)

/-- Ledger objects that break R303: the base of a ledger, and MODE with ledger 0 disabled. -/
def State.ledgerFaults (s : State) : List Nat :=
  (List.range 16).flatMap (fun p =>
    (if s.stagedOf (K.intMode p) = 1 ∧ s.stagedOf (K.ledgerEnable p 0) = 0 then [K.intMode p] else []) ++
    ((List.range 4).filter (fun l =>
      let bytes := 2 ^ (s.stagedOf (K.ledgerSizeLog2 p l) + 4)
      let base := s.stagedOf (K.ledgerBase p l)
      base % bytes != 0 || !s.ringNormal base bytes)).map (K.ledgerBase p))

/-- The share at which a running sum first passes its limit (10 R281). -/
def State.sumFault (s : State) (limit : Nat) (key : Nat → Nat) : List Nat :=
  ((List.range 16).foldl (fun (a : Nat × List Nat) p =>
    let t := a.1 + s.stagedOf (key p)
    (t, if limit < t ∧ a.2.isEmpty then [key p] else a.2)) (0, [])).2

/-- Shares that break R281. -/
def State.shareFaults (s : State) : List Nat :=
  (List.range 16).flatMap (fun p =>
    (if s.stagedOf (K.sliceCap p) < s.stagedOf (K.sliceShare p) then [K.sliceShare p] else []) ++
    (if s.stagedOf (K.archCap p) < s.stagedOf (K.archShare p) then [K.archShare p] else []) ++
    (if s.stagedOf (K.dcCap p) < s.stagedOf (K.dcShare p) then [K.dcShare p] else [])) ++
  s.sumFault 52 K.sliceShare ++ s.sumFault 256 K.archShare ++ s.sumFault 256 K.dcShare

/-- Entries of BUCKET_MAP that the commit changes to a fenced slice or one that is powered off (05 R133). -/
def State.bucketFaults (s : State) : List Nat :=
  ((List.range 64).filter (fun b =>
    let h := s.stagedOf (K.bucketMap b)
    h != s.obj (K.bucketMap b) && (s.objBit K.fenceSlice h || !s.pd (sliceDomain h)))).map K.bucketMap

/-- Ring objects of channels in auto-drain mode that break R326. -/
def State.ringFaults (s : State) : List Nat :=
  (List.range 12).flatMap (fun c =>
    if s.stagedOf (K.accMode c) = 0 then []
    else
      let bad := fun (key bytes : Nat) =>
        let base := s.stagedOf key
        if base % bytes = 0 ∧ s.ringNormal base bytes = true then [] else [key]
      bad (K.drainDataBase c) (2 ^ s.stagedOf (K.drainDataSizeLog2 c)) ++
        bad (K.drainDescBase c) (2 ^ (s.stagedOf (K.drainDescSizeLog2 c) + 4)) ++ bad (K.drainCtrlBase c) 64)

/-- The first failing object in ascending index and subindex (16 R413). -/
def State.commitFault (s : State) : Option Nat :=
  (s.ledgerFaults ++ s.shareFaults ++ s.bucketFaults ++ s.ringFaults).foldl (fun m k =>
    match m with
    | none => some k
    | some j => some (min j k)) none

/-! The commit instant. -/

/-- Answered with the epoch of the moment the answer leaves: barriers, WAIT_EVENT, SLEEP_REQ and requests held by a partition reset
(04 R103). -/
def PortSt.unbound (p : PortSt) (tid : Nat) : Bool :=
  p.barriers.any (fun b => b.tid == tid) || p.waitEvent == some tid || p.sleepTid == some tid || p.resetBars.contains tid ||
    p.resetReqs.any (fun r => r.1 == tid)

/-- A port adopts the new epoch and invalidates its translation cache (04 R103, 10 R263). -/
def State.adopt (s : State) (n : Nat) : State :=
  (s.tcClear n).modPort n (fun p => { p with
    epoch := s.epoch
    outstanding := p.outstanding.map (fun o => if p.unbound o.1 then (o.1, s.epoch) else o)
    walk := p.walk.map (fun w => { w with install := false }) })

/-- Does the commit change one of these objects? -/
def State.changes (s : State) (ks : List Nat) : Bool := ks.any (fun k => s.staged.any (fun x => x.1 == k))

/-- The objects of a channel whose change flushes it (12 R331). -/
def ringKeys (c : Nat) : List Nat :=
  [K.accOwner c, K.accMode c, K.drainDataBase c, K.drainDataSizeLog2 c, K.drainDescBase c, K.drainDescSizeLog2 c, K.drainCtrlBase c]

/-- Ledgers that the commit enables, or whose base or size it changes (11 R305). -/
def State.ledgersChanged (s : State) : List (Nat × Nat) :=
  ((List.range 16).flatMap (fun p => (List.range 4).map (fun l => (p, l)))).filter (fun x =>
    s.changes [K.ledgerBase x.1 x.2, K.ledgerSizeLog2 x.1 x.2] ||
      (s.changes [K.ledgerEnable x.1 x.2] && s.stagedOf (K.ledgerEnable x.1 x.2) == 1))

/-- The buckets of a changed map keep their slices until they are moved (05 R133). -/
def State.holdBuckets (s : State) : State :=
  (List.range 64).foldl (fun s b =>
    if s.changes [K.bucketMap b] then { s with bucketMap := tput (s.sliceOf b) b s.bucketMap } else s) s

/-- An entry of the present map that names the slice serving its bucket needs no override. -/
def State.trimBuckets (s : State) : State :=
  { s with bucketMap := s.bucketMap.filter (fun x => s.obj (K.bucketMap x.1) != x.2) }

/-- The commit instant (16 R414). -/
def State.commitNow (s : State) : State :=
  let ledgers := s.ledgersChanged
  let modes := (List.range 16).filter (fun p => s.changes [K.intMode p])
  let rings := (List.range 12).filter (fun c => s.changes (ringKeys c))
  let bound := (s.staged.filter (fun x => portBound x.1)).map (fun x => (x.1, s.obj x.1))
  let values := s.staged
  let s := s.holdBuckets
  let s : State := { s with epoch := (s.epoch + 1) % 16, oldBound := bound, staged := [], commitState := true }
  let s := values.foldl (fun s x => s.setObj x.1 x.2) s
  let s := s.trimBuckets.slicesRetarget
  let s := (List.range 48).foldl (fun s n => s.adopt n) s
  let pending := (List.range 48).foldl (fun m n => if (s.port n).epochClean s.epoch then m else m ||| (1#64 <<< n)) (0 : BitVec 64)
  let s : State := { s with commitPending := pending }
  let s := ledgers.foldl (fun s x => s.ledgerRestart x.1 x.2) s
  let s := modes.foldl (fun s p => if s.ledgerMode p then s.lineToLedger p else s.ledgerToLine p) s
  rings.foldl (fun s c => (s.modAcc c (fun a => { a with applyCfg := true })).accFlush c) s

/-- COMMIT (16 R413, R414): the status of its answer. -/
def State.commitOp (s : State) : State × Nat :=
  if s.commitState then (s, 7)
  else
    match s.commitFault with
    | some k => (s.setObj K.commitError k, 9)
    | none => (s.commitNow, 0)

/-- The switch is over (16 R414). -/
def State.commitEnds (s : State) : State :=
  if s.commitState && s.commitPending == 0 && s.moving.isEmpty && !s.dead then
    (({ s with commitState := false, oldBound := [] } : State).bump K.commits).raiseS 29 s.epoch
  else s

/-- STAGE_DISCARD (16 R412). -/
def State.discardStaged (s : State) : State := { s with staged := [] }

end Sys2Proof.Machine
end

