-- ==== Sys2Proof/Machine/ModeOps.lean ====
section
/-! DEFINITION. Mode transitions: MODE_REQ (14 R356, R357), bring-up (R359), the way to the working mode and to Diagnostic (R361), Park
and Retain (R362 to R364), Drain (15 R381), the surprise path (15 R383) and Fault-hold (13 R348). -/

namespace Sys2Proof.Machine

/-! Which transitions exist. -/

/-- ML_ENABLE and ML_DUAL allow the working mode (09 R242). -/
def State.linksLegal (s : State) : Bool :=
  let e := s.obj K.mlEnable
  e != 0 && (List.range 4).all (fun k => !s.objBit K.mlDual k || (e.testBit (2 * k) && e.testBit (2 * k + 1)))

/-- Is a MODE_REQ value out of range (14 R357)? -/
def modeReqBad (v : Nat) : Bool := v == 0 || v == 5 || v == 9 || 11 ≤ v

/-- Does MODE_REQ v name a transition from the present mode (14 R356)? -/
def State.modeReqNamed (s : State) (v : Nat) : Bool :=
  match s.mode with
  | .configure => v == 1 || v == 2 || (v == 4 && s.linksLegal) || v == 10
  | .run | .degraded | .sole => v == 6 || v == 7 || v == 8
  | .park => v == 4 || v == 8 || ((v == 1 || v == 2) && s.parkQuiet)
  | .retain => v == 4 || v == 8
  | .diagnostic => v == 2 || v == 3
  | .faultHold => v == 2
  | .bringup => v == 2
  | .off | .standby | .drain => false

/-- Is the MODE_REQ refused as one that the present state forbids (14 R357; R356: while nSTBY is low the hub enters no other mode, but
nSTBY is ignored in Fault-hold)? -/
def State.modeReqForbidden (s : State) (v : Nat) : Bool := !s.modeReqNamed v || s.trans != .none || (!s.nstby && s.mode != .faultHold)

/-! Archive links follow the mode. -/

/-- May an Archive link be up in this mode (09 R232, 14 R355)? -/
def State.mlMode (s : State) : Bool := s.pd 11 && (s.mode == .configure || s.mode.ports)

/-- One Archive link follows the mode and its enable (09 R232, R259). -/
def State.mlJudgeOne (s : State) (k : Nat) : State :=
  let lower := fun (s : State) => if s.ready (archLink k) then (s.mlLower k).mlEnds k k else s
  if !s.mlEnabled k then (lower s).mlTo k .notEnabled
  else if !s.mlMode then
    if (s.ml k).state = .fenced then lower s else (lower s).mlTo k .off
  else if s.objBit K.fenceMl k then s
  else if (s.ml k).state = .notEnabled ∨ (s.ml k).state = .off ∨ (s.ml k).state = .fenced then s.mlTo k .bringup
  else s

/-- Every Archive link follows the mode and its enable. -/
def State.mlJudge (s : State) : State := (List.range 8).foldl (fun s k => s.mlJudgeOne k) s

/-! Bring-up. -/

/-- What Bring-up samples: NODEID, whether TBIN is in range, the untrimmed offset in ppm and the PLCA status (14 R359, R365; 16 R398). -/
structure Samples where
  nodeId : BitVec 6
  tbin : Bool
  offset : Nat
  plcaOk : Bool
deriving DecidableEq, Repr

/-- PD1 comes on: NODEID is sampled and the PLCA settings are captured (16 R397, R398). -/
def State.fieldUp (s : State) (nodeId : BitVec 6) (plcaOk : Bool) : State :=
  { s with nodeId := nodeId, plcaOn := s.obj K.plcaEnable == 1 && nodeId != 0x3F, plcaOk := plcaOk,
           plcaNodes := s.obj K.plcaNodeCount, plcaTimer := s.obj K.plcaToTimer, jop := { s.jop with up := s.viom } }

/-- Bring-up from Standby, steps 2 to 6 (14 R359). -/
def State.bringUp (s : State) (x : Samples) : State :=
  let s : State := { s with domains := 3, transStart := s.deviceTime, tbState := if x.tbin then 1 else 0 }
  let s := if x.tbin then s.setObj K.tbOffset x.offset else s
  (s.enterMode .bringup).fieldUp x.nodeId x.plcaOk

/-- The present samples, for a MODE_REQ 2 that carries none. -/
def State.presentSamples (s : State) : Samples :=
  { nodeId := s.nodeId, tbin := s.tbState == 1, offset := s.obj K.tbOffset, plcaOk := s.plcaOk }

/-- Presence is agreed: PD2 and PD11 come on and Configure is entered (14 R359 step 8). -/
def State.toConfigure (s : State) : State :=
  let s : State := { s.setObj K.presState 2 with domains := 0x807 }
  (s.enterMode .configure).mlJudge

/-! From Configure. -/

/-- The membership that the MEMBERS objects state (10 R262). -/
def State.capturedMembers (s : State) : Tab Nat :=
  (List.range 48).foldl (fun t n =>
    match (List.range 16).find? (fun p => s.objBit (K.members p) n) with
    | some p => tset 1 t n (p + 1)
    | none => tset 1 t n 0) []

/-- The supervisor that the SUPERVISOR objects state (10 R261). -/
def State.capturedSupervisor (s : State) : Nat := ((List.range 16).find? (fun p => s.obj (K.supervisor p) == 1)).getD 0

/-- The L2 capacity: at most what DC_DENSITY holds (06 R162; chapter 07, corners). -/
def State.capturedCapacity (s : State) : Nat := if s.obj K.dcDensity = 0 then min 2 (s.obj K.l2Capacity) else s.obj K.l2Capacity

/-- Step 2 of R361: the values captured at the entry to Run from Configure are fixed. -/
def State.fixConfig (s : State) : State :=
  let g : InForce := {
    members := s.capturedMembers, supervisor := s.capturedSupervisor, l2cap := s.capturedCapacity, dcEnable := s.obj K.dcEnable,
    dcRate := s.obj K.dcRate, mlEnable := s.obj K.mlEnable, mlDual := s.obj K.mlDual, interleave := interleaveOf (s.obj K.mlEnable),
    console := s.obj K.consoleBase }
  { s with inForce := g }.mlJudge

/-- MODE_REQ 4 in Configure (14 R361 steps 1 and 2). -/
def State.leaveConfigure (s : State) : State := { s.fixConfig.beginTransition .powering with linkWaited := false }

/-- The arrays 0 to 3 return to their free and invalid values (08 R227; 14 R361 step 4); no count of a way's errors is left. -/
def State.freeArrays (s : State) : State :=
  let s := { s.invalTags with arrays := [], wayErrs := [] }
  (List.range 48).foldl (fun s n => s.modPort n (fun p => { p with tcOrder := [] })) s

/-- Full calibrations start with CLK as the timebase allows (14 R361 step 4, R364 step 2, R366). -/
def State.freshCal (s : State) : State := (s.clkTo (s.tbState == 1)).calAll

/-- A transition goes on with its next part. -/
def State.goOn (s : State) (t : Transition) : State := { s with trans := t }

/-- PD3 to PD10 are on: calibration, tag invalidation and freeing of the catalogue (14 R361 steps 3 and 4). -/
def State.domainsOn (s : State) : State :=
  match s.trans with
  | .powering => ({ s with domains := s.fullDomains }.freeArrays.timedInval.freshCal).goOn .calibrating
  | .diagPowering => ({ s with domains := 0x7FF }.freeArrays.timedInval.freshCal).goOn .diagCalibrating
  | .none | .calibrating | .diagCalibrating | .toPark | .toRetain | .retainExit | .drainAck | .drainRecall | .drainGive
  | .toFaultHold => s

/-- Does a full calibration run? -/
def State.calibrating (s : State) : Bool := (List.range 8).any (fun c => (s.chan c).state == .calibrating)

/-- Links that are enabled, not fenced and not yet serving (14 R361 step 5). -/
def State.lateLinks (s : State) : List Nat :=
  (List.range 8).filter (fun k => s.mlEnabled k && !s.objBit K.fenceMl k && !s.mlServes k)

/-- Does the pair let the working mode be entered (15 R390)? -/
def State.pairReady (s : State) : Bool := !s.paired || !s.pair.rdyi || s.pair.state == 2 || s.pair.state == 5

/-- The way to the working mode is abandoned: PD3 to PD10 go off (14 R361). -/
def State.giveUp (s : State) : State :=
  ({ s.freeArrays.chansOff with domains := 0x807 }).abandon 3

/-- The working mode is entered from Configure (14 R361 step 6; 12 R333; 11 R289). -/
def State.enterWorking (s : State) : State :=
  match s.joinPair with
  | none => s.giveUp
  | some s =>
    let s := s.enterMode s.workingMode
    let s := (List.range 12).foldl (fun s c => s.accEmpty c) s
    if s.nvm.fatalValid then s.raiseS 31 (s.nvm.fatalCause % 256 + s.nvm.fatalUnit % 2 ^ 16 * 2 ^ 8) else s

/-- WORKING_MODE_ENTERED where its conditions hold (14 R361 step 5). -/
def State.workingEntered (s : State) : State :=
  if s.trans = .calibrating ∧ s.calibrating = false ∧ s.lateLinks = [] ∧ s.pairReady = true then s.enterWorking else s

/-- LINK_WAIT has elapsed (14 R361 step 5; 15 R390): links whose partner serves are fenced, otherwise the path is abandoned. Step 4 ends
first. -/
def State.linkWaitOver (s : State) : State :=
  if s.trans ≠ .calibrating then s
  else if s.calibrating then { s with linkWaited := true }
  else if !s.pairReady || s.lateLinks.any (fun k => !s.partnerServes k) then s.giveUp
  else s.lateLinks.foldl (fun s k => match s.partner k with
    | some j => s.mlFence k j
    | none => s) s

/-! Diagnostic. -/

/-- MODE_REQ 10 (14 R361). -/
def State.leaveForDiagnostic (s : State) : State := s.beginTransition .diagPowering

/-- Diagnostic is entered once no channel calibrates; PD11 stays off (14 R355, R361). -/
def State.enterDiagnostic (s : State) : State :=
  let s := if s.ready .pair then s.pairLower else s
  let s := if s.pair.state = 2 ∨ s.pair.state = 5 then s.pairTo 1 else s
  ({ s with domains := 0x7FF }.enterMode .diagnostic).mlJudge

/-- A row under way in a scrub pass is dropped, and the pass ends as aborted (08 R224). -/
def State.stopScrub (s : State) : State :=
  let s := s.abortJobs
  ({ s with txns := s.txns.filter (fun t => t.kind != .scrubRow && t.kind != .patrolRow) } : State).endScrub

/-- Diagnostic is left: the arrays return to their free values and PD3 to PD10 go off (08 R227; 14 R356). -/
def State.leaveDiagnostic (s : State) : State :=
  let s := s.stopScrub.freeArrays.chansOff
  let s : State := { s with txns := [], domains := 0x807, transStart := s.deviceTime }
  (s.enterMode .configure).mlJudge

/-! Park and Retain. -/

/-- Every store buffer starts to drain (14 R362 step 2; 15 R381 step 3). -/
def State.drainPorts (s : State) : State := (List.range 48).foldl (fun s n => s.drainAll n) s

/-- MODE_REQ 6 or 7 (14 R362 steps 1 and 2). -/
def State.quiesce (s : State) (t : Transition) : State := (s.beginTransition t).drainPorts

/-- Are all admitted transactions and store-buffer writes over (14 R362 step 2), partition resets included (chapter 14, corners)? -/
def State.quiesced (s : State) : Bool :=
  s.txns.isEmpty && s.ports.all (fun x => x.2.sb.isEmpty && x.2.waiting.isEmpty) &&
    s.mls.all (fun x => !(x.2.outstanding.any (fun o => o.2.devPort.isSome)) && !(x.2.waiting.any (fun r => r.devPort.isSome))) &&
    s.resets.isEmpty

/-- PD10 goes off: bursts under way are not waited for (14 R362 step 4). -/
def State.dataOff (s : State) : State :=
  let reads := (List.range 8).flatMap (fun c => (s.chan c).owedReads)
  reads.foldl State.readEnded { s.chansOff with domains := s.domains &&& 0xBFF }

/-- The quiesce is complete (14 R362 steps 3 to 5). -/
def State.quiesceEnds (s : State) : State :=
  if !s.quiesced then s
  else if s.trans = .toPark then s.abortJobs.enterMode .park
  else if s.trans = .toRetain then s.abortJobs.dataOff.enterMode .retain
  else s

/-- MODE_REQ 4 in Park (14 R364). -/
def State.leavePark (s : State) : State :=
  let s : State := { s with drained := false, transStart := s.deviceTime }
  s.enterMode s.workingMode

/-- PD10 comes on with full calibrations, if any channel is enabled. -/
def State.dataOn (s : State) : State :=
  if s.inForce.dcEnable = 0 then s else ({ s with domains := s.domains ||| 0x400 } : State).freshCal

/-- MODE_REQ 4 in Retain (14 R364 steps 1 and 2). -/
def State.leaveRetain (s : State) : State := (s.beginTransition .retainExit).dataOn

/-- Retain is left (14 R364 steps 3 and 4). -/
def State.retainExitEnds (s : State) : State :=
  if s.trans = .retainExit ∧ s.calibrating = false then
    let s := s.timedInval
    s.enterMode s.workingMode
  else s

/-! Drain. -/

/-- Step 4 of Drain: every entry is recalled (15 R381). -/
def State.startDrainRecall (s : State) : State :=
  let s := (s.goOn .drainRecall).drainPorts
  s.recallLines .recallDrain allBuckets

/-- Drain is entered (15 R381 steps 1 and 2; 14 corner: from Retain, with PD10 and the steps of R364). -/
def State.enterDrain (s : State) : State :=
  let retained := s.mode == .retain
  let s : State := if s.trans = .none then { s with transStart := s.deviceTime } else s
  let s := (s.abortJobs).enterMode .drain
  let s : State := { s with drained := false, transStart := s.deviceTime }
  let s := if retained then ({ s with missAll := true } : State).dataOn.calSettled else s
  if s.partnerUp then
    let s : State := { s with pair := { s.pair with giving := s.homeNow, recalling := false } }
    (s.pairSettle.sendMaps .give).goOn .drainAck
  else s.startDrainRecall

/-- DRAIN_HOME_MAP_ACKED (15 R381 step 2). -/
def State.drainAcked (s : State) : State := if s.trans = .drainAck ∧ s.giveAcked = true then s.startDrainRecall else s

/-- Lines that some port that is up still holds and no recall is under way for. -/
def State.drainLeft (s : State) : Bool :=
  (s.heldLines allBuckets).any (fun l =>
    !(s.txns.any (fun t => t.line == l && t.kind == .recallDrain)) &&
      (List.range 48).any (fun n => !s.deaf n && (s.entriesOf n).any (fun e => e.line == l)))

/-- Is every entry free and every write acknowledged (15 R381 step 4)? -/
def State.drainClean (s : State) : Bool :=
  s.catEmpty && s.txns.all (fun t => t.kind == .ledger) && s.ports.all (fun x => x.2.sb.isEmpty && x.2.reclaim == .idle)

/-- Drain ends in Park, quiet: event 30 (15 R381 step 6). -/
def State.drainEnds (s : State) (given : Bool) : State :=
  let s := s.enterMode .park
  ({ s with drained := true } : State).raiseS 30 given.toNat

/-- DRAIN_RECALLS_DONE (15 R381 steps 4 to 6). -/
def State.drainRecalled (s : State) : State :=
  if s.trans ≠ .drainRecall ∨ s.drainClean = false then s
  else if s.pair.giving ≠ 0 then s.giveNow.goOn .drainGive
  else s.drainEnds false

/-! Leaving without a hand-over. -/

/-- Entry to Standby: the journal is written out first (16 R415). -/
def State.goStandby (s : State) : State := s.journalOut.toStandby

/-- MODE_REQ 2: a hub reset straight into Bring-up (14 R356, R358), with the result of the change of mode (R357). -/
def State.goBringUp (s : State) (x : Samples) : State :=
  let t := ((s.journalOut.hubReset 2).bringUp x).setObj K.modePrev s.mode.code
  (t.setObj K.modeResult 2).setObj K.transitionTime ((s.deviceTime - s.transStart) % 0x100000000)

/-- The surprise path (15 R383): SURPRISE, ready wires low, a journal entry for the cause and a hub reset into Standby. -/
def State.surprisePath (s : State) (drainLimit : Bool) : State :=
  let s := if s.paired && s.homeNow != 0 && (s.link .pair).phase == .up then s.sendPair { op := .surprise } else s
  let s := if s.pd 1 then
      (if drainLimit then s.journalHub K.modeResult (s.obj K.modeResult) 4 else s.journalHub K.presState (s.obj K.presState) 0).journalOut
    else s
  let s := s.hubReset 1
  if drainLimit then s.setObj K.modeResult 4 else s

/-- DRAIN_LIMIT expires (14 R356). -/
def State.drainExpires (s : State) : State := if s.mode = .drain then s.surprisePath true else s

/-- A running job or scrub pass ends as aborted with its summary, its lines and rows under way being dropped (06 R182, 08 R224). -/
def State.jobsCut (s : State) : State :=
  let s := s.abortJobs
  ({ s with
      txns := s.txns.filter (fun t => !t.kind.jobLine && t.kind != .scrubRow)
      chans := s.chans.map (fun x => (x.1, { x.2 with queue := [] })) } : State).endScrub.endJob

/-- Fault-hold is entered (13 R348 step 4, R349): every ready wire low, PD0 and PD1 on, the objects, the field interface and the fence
states kept. -/
def State.enterFaultHold (s : State) : State :=
  let old := s.mode
  let s := s.jobsCut
  let c := s.cleared
  let s' : State := { c with
    mode := .faultHold, domains := 3, objs := s.objs, staged := s.staged, oldBound := s.oldBound, inForce := s.inForce
    epoch := s.epoch, fatalKept := s.fatalKept, commitState := s.commitState, commitPending := s.commitPending, nvm := s.nvm
    jop := { s.jop with segs := [] }, nodeId := s.nodeId, plcaOk := s.plcaOk, plcaOn := s.plcaOn, plcaNodes := s.plcaNodes
    plcaTimer := s.plcaTimer, hot := s.hot, warned := s.warned, homeNow := s.homeNow, pair := { state := s.pair.state, rdyi := s.pair.rdyi }
    ports := (s.ports.filter (fun x => x.2.fence != .normal)).map (fun x => (x.1, { fence := x.2.fence : PortSt })) }
  let s' := (s'.setObj K.modePrev old.code).setObj K.transitionTime ((s.deviceTime - s.transStart) % 0x100000000)
  if s'.obj K.modeResult = 1 then s'.setObj K.modeResult 2 else s'

/-- FAULT_HOLD_FLUSH_DONE (13 R348). -/
def State.flushDone (s : State) : State := if s.trans = .toFaultHold then s.enterFaultHold else s

/-! The requests. -/

/-- MODE_REQ v, accepted: MODE_RESULT is 1 until MODE_NOW changes (14 R357). -/
def State.modeReqOp (s : State) (v : Nat) (x : Samples) : State :=
  let s := s.setObj K.modeResult 1
  let s := if v = 3 ∨ v = 10 ∨ v = 4 then s else { s with transStart := s.deviceTime }
  if v = 1 then s.goStandby
  else if v = 2 then s.goBringUp x
  else if v = 3 then s.leaveDiagnostic
  else if v = 4 then
    if s.mode = .park then s.leavePark else if s.mode = .retain then s.leaveRetain else s.leaveConfigure
  else if v = 6 then s.quiesce .toRetain
  else if v = 7 then s.quiesce .toPark
  else if v = 8 then s.enterDrain
  else if v = 10 then s.leaveForDiagnostic
  else s

/-- nSTBY goes low (14 R356): at once from Bring-up and Configure; from Diagnostic through Configure; ignored in Fault-hold; the other
modes follow in `modeWork`. -/
def State.nstbyFalls (s : State) : State :=
  let was := s.nstby
  let s : State := { s with nstby := false }
  match s.mode with
  | .bringup | .configure => if s.dead then s else s.goStandby
  | .diagnostic => if s.dead then s else s.leaveDiagnostic.goStandby
  | .off | .standby | .run | .degraded | .sole | .retain | .park | .drain => s
  | .faultHold => { s with nstby := was }

/-- nPARK_REQ has been sampled low 100 times (15 R381). -/
def State.parkRequested (s : State) : State :=
  if s.dead then s
  else
    match s.mode with
    | .run | .degraded | .sole | .retain | .park => s.enterDrain
    | .off | .standby | .bringup | .configure | .drain | .diagnostic | .faultHold => s

/-- What the modes do on their own: the next step of Drain, the end of the way to Diagnostic, and nSTBY low. -/
def State.modeWork (s : State) : Option State :=
  if s.dead then none
  else
    match s.trans with
    | .drainAck =>
      if s.partnerUp then none
      else some (({ s with pair := { s.pair with giving := 0, recalling := false } } : State).startDrainRecall)
    | .drainRecall => if s.drainLeft then some (s.recallLines .recallDrain allBuckets) else none
    | .drainGive => if s.pair.given = 0 ∨ s.partnerUp = false then some (s.drainEnds (s.homeNow == 0)) else none
    | .diagCalibrating => if s.calibrating then none else some s.enterDiagnostic
    | .none | .toPark | .toRetain | .retainExit =>
      if s.nstby then none
      else
        match s.mode with
        | .park => some (if s.parkQuiet then s.goStandby else s.enterDrain)
        | .run | .degraded | .sole | .retain => some s.enterDrain
        | .bringup => some s.goStandby
        | .off | .standby | .configure | .drain | .diagnostic | .faultHold => none
    | .calibrating => if s.linkWaited && !s.calibrating then some (({ s with linkWaited := false } : State).linkWaitOver) else none
    | .powering | .diagPowering | .toFaultHold => none

end Sys2Proof.Machine
end

