-- ==== Sys2Proof/Machine/PowerOps.lean ====
section
/-! DEFINITION. Power, presence, the timebase and telemetry (14 R356, R365 to R369, R373; 15 R376 to R378; 18 R447). -/

namespace Sys2Proof.Machine

/-! Rails and reset pins. -/

/-- VAON rises: Off to Standby; device time starts at 0 (14 R356, R358). -/
def State.vaonUp (s : State) : State :=
  if s.mode = .off then { s with mode := .standby, domains := 1, deviceTime := 0 } else s

/-- VAON falls: Off, every register lost but the journal NVM; the levels that the board drives stay (14 R356; 18 R447; 13 R350). -/
def State.vaonDown (s : State) : State :=
  { pending := s.pending, sent := s.sent, freeCtr := s.freeCtr, nstby := s.nstby, presA := s.presA, presB := s.presB,
    viom := s.viom, vnvm := s.vnvm, nvm := { s.nvm with queue := [] } }

/-- nRESET goes low (14 R356). -/
def State.nresetFalls (s : State) : State := if s.mode = .off then s else s.hubReset 1

/-- nRESET and nSTBY are high with every rail in limits (14 R356, R359); TEST_EN high keeps the hub in Standby (18 R442). -/
def State.released (s : State) (x : Samples) (testEn : Bool) : State :=
  if s.mode = .standby ∧ testEn = false then ({ s with nstby := true, viom := true, vnvm := true } : State).bringUp x else s

/-- VIOM leaves its range (18 R447). -/
def State.viomFails (s : State) : State :=
  { s with
    viom := false, plcaOk := false
    due := s.due.filter (fun x => match x.1 with
      | .status (.net _) _ => false
      | .status (.console _ _) _ | .complete _ _ => true)
    jop := { s.jop with up := false, waiting := none, queue := [], kept := [], segs := [] } }

/-- VIOM returns: the field interface restarts (18 R447, 16 R398); subscriptions are kept (16 R411). -/
def State.viomReturns (s : State) (nodeId : BitVec 6) (plcaOk : Bool) : State :=
  let s : State := { s with viom := true }
  if s.pd 1 then s.fieldUp nodeId plcaOk else s

/-- VNVM leaves its range (18 R447). -/
def State.vnvmFails (s : State) : State := if s.vnvm then { s.nvmInterrupted with vnvm := false } else s

/-! Presence. -/

/-- A bounce is counted when its episode ends (15 R376). -/
def State.bounceEnds (s : State) : State := if s.obj K.presState = 1 then s.bump K.presBounces else s

/-- Presence is being judged: Bring-up with no discrepancy latched (15 R376, R377). -/
def State.judging (s : State) : Bool := s.mode == .bringup && !s.presLatched && !s.dead

/-- Both inputs are high (15 R376). -/
def State.presAgree (s : State) : State :=
  if s.judging then ({ s.bounceEnds with presA := true, presB := true, transStart := s.deviceTime } : State).toConfigure else s

/-- The inputs start to disagree, or a disagreement ends with both low (15 R376). -/
def State.presDiffer (s : State) (a b : Bool) : State :=
  if !s.judging || (a && b) then s
  else
    let s : State := { s with presA := a, presB := b }
    if a == b then s.bounceEnds.setObj K.presState 0 else s.setObj K.presState 1

/-- A disagreement has lasted PRES_DISC_TIME in Bring-up (15 R377). -/
def State.presDiscrepant (s : State) (a b : Bool) : State :=
  if !s.judging || a == b then s
  else { s.setObj K.presState 3 with presA := a, presB := b, presLatched := true }

/-- Both inputs have been low for 100 ticks (15 R377). -/
def State.presReleased (s : State) : State :=
  if s.mode = .bringup ∧ s.presLatched = true then { s.setObj K.presState 0 with presA := false, presB := false, presLatched := false } else s

/-- The modes in which PRES_B is watched: from Configure onwards (15 R378). -/
def State.watched (s : State) : Bool := s.mode == .configure || s.mode.ports || s.mode == .diagnostic

/-- PRES_B is lost (15 R378, R383). -/
def State.presBLost (s : State) : State :=
  if s.watched then ({ s with presB := false } : State).surprisePath false else s

/-- PRES_A reads low with PRES_B high for PRES_DISC_TIME ticks (15 R378): DETAIL has PRES_A 0, PRES_B 1, and 1 in bit 8. -/
def State.presALow (s : State) : State :=
  if s.watched && !s.presFault then
    ({ s.setObj K.presState 3 with presA := false, presB := true, presFault := true } : State).raiseS 3 (2 + 2 ^ 8)
  else s

/-- PRES_A has been high for 100 ticks (15 R378). -/
def State.presAHigh (s : State) : State :=
  if s.presFault then { s.setObj K.presState 2 with presA := true, presFault := false } else s

/-! The timebase. -/

/-- TB_STATE changes: event 2 (14 R366). -/
def State.tbTo (s : State) (v : Nat) : State :=
  let old := s.tbState
  ({ s with tbState := v } : State).raiseS 2 (v + old * 256)

/-- Is the oscillator running (14 R359 step 2)? -/
def State.clocked (s : State) : Bool := s.mode != .off && s.mode != .standby

/-- TBIN appears on an untrimmed timebase (14 R365). -/
def State.tbAppears (s : State) (offset : Nat) : State :=
  if s.clocked ∧ s.tbState = 0 then (s.setObj K.tbOffset offset).tbTo 1 else s

/-- A correction of the trim (14 R365). -/
def State.tbCorrects (s : State) (offset : Nat) : State :=
  if s.clocked ∧ s.tbState = 1 then s.setObj K.tbOffset offset else s

/-- TBIN is lost (14 R366): holdover, and CLK moves to its untrimmed frequency, at every loss with a full calibration and a tag
invalidation. -/
def State.tbLost (s : State) : State :=
  if s.clocked ∧ s.tbState = 1 then
    let s := s.tbTo 2
    if s.mode.serving || s.mode == .park then
      ({ s.clkTo false with missAll := true } : State).calAll.calSettled
    else if s.trans = .retainExit then s.clkTo false else s
  else s

/-- TBIN has returned (14 R366). -/
def State.tbReturns (s : State) : State := if s.clocked ∧ s.tbState = 2 then s.tbTo 1 else s

/-! Telemetry. -/

/-- A U32 or I32 value as a signed number. -/
def signed32 (v : Nat) : Int := if v < 0x80000000 then (v : Int) else (v : Int) - 0x100000000

/-- The values of an update are stored from the first key upwards. -/
def State.setAll (s : State) (key : Nat → Nat) (l : List Nat) : State :=
  (List.range l.length).foldl (fun s i => s.setObj (key i) ((l[i]?).getD 0)) s

/-- All telemetry values are updated together (14 R368). -/
def State.telemetry (s : State) (t : Telemetry) : State :=
  let s := s.setAll K.temp (t.temp.map BitVec.toNat)
  let s := s.setAll K.volt (t.volt.map BitVec.toNat)
  let s := s.setAll K.rateMon (t.rateMon.map BitVec.toNat)
  let s := s.setAll K.portRate (t.portRate.map BitVec.toNat)
  s.setAll K.mlRate (t.mlRate.map BitVec.toNat)

/-- A sensor or monitor of a class is judged against its band (14 R369): `out` says that its value is outside, `inside` that it lies
inside by the margin. Event 1 is raised on leaving and on return. -/
def State.warn (s : State) (cls num : Nat) (out inside : Bool) : State :=
  let k := cls * 256 + num
  if s.warned.contains k then
    if inside then ({ s with warned := s.warned.erase k } : State).raiseS 1 k else s
  else if out then ({ s with warned := s.warned ++ [k] } : State).raiseS 1 (k + 2 ^ 10)
  else s

/-- The sensors against TEMP_WARN, an upper limit. -/
def State.warnTemps (s : State) : State :=
  let w := signed32 (s.obj K.tempWarn)
  (List.range 16).foldl (fun s t =>
    let v := signed32 (s.obj (K.temp t))
    s.warn 0 t (decide (w < v)) (decide (v ≤ w - 200))) s

/-- The VCORE monitors 0, 1 and 7 against VCORE_WARN_LO and VCORE_WARN_HI. -/
def State.warnVolts (s : State) : State :=
  let lo := s.obj K.vcoreWarnLo
  let hi := s.obj K.vcoreWarnHi
  [0, 1, 7].foldl (fun s m =>
    let v := s.obj (K.volt m)
    s.warn 1 m (decide (v < lo) || decide (hi < v)) (decide (lo + 10 ≤ v) && decide (v + 10 ≤ hi))) s

/-- The rate monitors against RATE_WARN; 0 turns the judgement off. -/
def State.warnRates (s : State) : State :=
  let w := s.obj K.rateWarn
  if w = 0 then s
  else (List.range 32).foldl (fun s m =>
    let v := s.obj (K.rateMon m)
    s.warn 2 m (decide (w < v)) (decide (v + 50 ≤ w))) s

/-- TEMP_TRIP in two updates in a row is fatal cause 16 (14 R369, R373). -/
def State.judgeTrip (s : State) : State :=
  let now := (List.range 16).filter (fun t => decide (signed32 (s.obj K.tempTrip) ≤ signed32 (s.obj (K.temp t))))
  let again := now.any s.hot.contains
  let s : State := { s with hot := now }
  if again then s.fatal 16 0xFFFF 0 else s

/-- Triggers of background calibrations by temperature and voltage (14 R371). -/
def State.judgeCal (s : State) : State :=
  (List.range 8).foldl (fun s c =>
    let dt := (signed32 (s.obj (K.temp (8 + c))) - signed32 (s.chan c).refTemp).natAbs
    let dv := (signed32 (s.obj (K.volt 7)) - signed32 (s.chan c).refVolt).natAbs
    if s.obj K.calTempDelta < dt ∨ s.obj K.calVoltDelta < dv then s.calTrigger c else s) s

/-- A telemetry update with its judgements (14 R368, R369, R371). -/
def State.telemetryOp (s : State) (t : Telemetry) : State :=
  if s.pd 1 then (s.telemetry t).warnTemps.warnVolts.warnRates.judgeCal.judgeTrip else s

/-! Calibration. -/

/-- A due calibration starts at an idle slot, or is forced (14 R371). -/
def State.calStarts (s : State) (c : Nat) (r : CalResult) (forced : Bool) : State :=
  let h := s.chan c
  if !h.calDue || h.hold || !s.chanServes c then s
  else if forced then (s.bump K.calForced).backgroundCal c r
  else if h.reads.isEmpty && h.queue.isEmpty then s.backgroundCal c r
  else s

end Sys2Proof.Machine
end

