-- ==== Sys2Proof/Machine/DiagOps.lean ====
section
/-! DEFINITION. Direct array access in Diagnostic (08 R225, R226). Its reads and writes are neither counted nor logged. -/

namespace Sys2Proof.Machine

/-- Units of arrays 0 to 4, and the first word address past a unit's last (08 R213, R457). -/
def State.diagSize (s : State) : Nat → Nat × Nat
  | 0 => (32, 32768)
  | 1 => (48, 4096)
  | 2 => (32, 512)
  | 3 => (48, 128)
  | _ => (1, s.journalCapacity)

/-- Is the operation refused: a unit or address out of range (word 3 of a catalogue entry names no word of the array), a write to array 4, or a channel that is not enabled or is fenced
(08 R225)? -/
def State.diagRefused (s : State) (op : Nat) : Bool :=
  let a := s.obj K.diagArray
  let u := s.obj K.diagUnit
  let addr := s.obj K.diagAddr
  if a = 5 then 8 ≤ u || !s.dcEnabled u || (s.chan u).state == .fenced || s.burstCount ≤ addr / 4
  else (s.diagSize a).1 ≤ u || (s.diagSize a).2 ≤ addr || (a == 1 && addr % 4 == 3) || (a == 4 && op != 1)

/-- DIAG_RESULT and, where the table gives one, DIAG_BIT. -/
def State.diagFinds (s : State) (result : Nat) (bit : Option Nat) : State :=
  let s := s.setObj K.diagResult result
  match bit with
  | some b => s.setObj K.diagBit b
  | none => s

/-- READ of a word of arrays 0 to 4, without correction. -/
def State.diagWordRead (s : State) (w : Stored) : State :=
  let s := s.setObj K.diagData (storedData w).toNat
  let s := s.setObj K.diagCheck (storedCheck w).toNat
  let s := s.setObj K.diagSyndrome (syndrome w).toNat
  match decodeWord w with
  | .clean _ => s.diagFinds 0 none
  | .corrected _ b => s.diagFinds (if b < 32 then 1 else 2) (some b)
  | .uncorrectable => s.diagFinds 3 none

/-- The beat that DIAG_BEAT holds: word k holds chips 4k to 4k+3. -/
def State.diagBeat (s : State) : Beat :=
  BitVec.ofNat 160 ((List.range 5).foldl (fun a k => a + s.obj (K.diagBeat k) * 2 ^ (32 * k)) 0)

/-- READ of a beat, decoded with no marks (07 R197). -/
def State.diagBeatRead (s : State) (b : Beat) : State :=
  let s := (List.range 5).foldl (fun s k => s.setObj (K.diagBeat k) (b.extractLsb' (32 * k) 32).toNat) s
  let s := s.setObj K.diagRsSyndrome (bytesNat (rsSyndromes b))
  match rsDecode [] b with
  | .clean _ => s.diagFinds 0 none
  | .corrected _ chips => s.diagFinds 1 chips.head?
  | .uncorrectable => s.diagFinds 3 none

/-- A write of a beat masks the other three beats. -/
def State.diagBeatWrite (s : State) (b : Beat) : State :=
  s.emit (.chanWrite (s.obj K.diagUnit) (s.obj K.diagAddr / 4) [(s.obj K.diagAddr % 4, b)])

/-- DIAG_GO with the operation given; `beat` is what a READ of a data channel finds (08 R225). -/
def State.diagGo (s : State) (op : Nat) (beat : Beat) : State :=
  let a := s.obj K.diagArray
  let u := s.obj K.diagUnit
  let addr := s.obj K.diagAddr
  let data : Word := BitVec.ofNat 32 (s.obj K.diagData)
  if s.diagRefused op then s.setObj K.diagResult 0xFF
  else if op = 1 then
    if a = 5 then (s.emit (.chanRead u (addr / 4))).diagBeatRead beat
    else s.diagWordRead (if a = 4 then s.metaWord addr else s.word a u addr)
  else if a = 5 then s.diagBeatWrite (if op = 2 then rsEncode (s.diagBeat.extractLsb' 0 128) else s.diagBeat)
  else if op = 2 then s.setWord a u addr data
  else s.setRaw a u addr (BitVec.ofNat 7 (s.obj K.diagCheck) ++ data)

/-- A beat of a channel that no operand gives: a free value (assumption 3). -/
def State.freeBeat (s : State) : State × Beat := (s.free.1, BitVec.ofNat 160 s.free.2)

end Sys2Proof.Machine
end

