-- ==== Sys2Proof/Machine/Objects.lean ====
section
/-! DEFINITION. The object engine: what every object reads (17 R424 to R438 and the object tables), who may access it (10 R279), and a
read or a write with its checks in order, its journal entry and its effect (16 R406, R407, R412, R415; 17 R421 to R429). -/

namespace Sys2Proof.Machine

/-! Values that the state decides. -/

/-- The characters of SERIAL (17 R436). -/
def serialBytes : List Byte :=
  [0x4B, 0x4D, 0x34, 0x38, 0x33, 0x32, 0x2D, 0x43, 0x31, 0x2D] ++
    (List.range 10).map (fun i =>
      let d := (Config.serialDigits.extractLsb' (36 - 4 * i) 4).toNat
      BitVec.ofNat 8 (if d < 10 then 0x30 + d else 0x37 + d))

/-- The characters of ORDERING_CODE, "KM-4832-C1-FB7396" (00 R1, 17 R435). -/
def orderingBytes : List Byte :=
  [0x4B, 0x4D, 0x2D, 0x34, 0x38, 0x33, 0x32, 0x2D, 0x43, 0x31, 0x2D, 0x46, 0x42, 0x37, 0x33, 0x39, 0x36]

/-- The hub's MAC address (16 R399). -/
def hubMac : BitVec 48 := 0x02#8 ++ Config.serialDigits

/-- SLICE_STATE (05 R161). -/
def State.sliceState (s : State) (h : Nat) : Nat := if s.objBit K.fenceSlice h then 1 else if s.pd (sliceDomain h) then 0 else 2

/-- DC_STATE (07 R212); its default until PD10 first comes on (17 R429). -/
def State.dcState (s : State) (c : Nat) : Nat :=
  if (s.chan c).state = .fenced ∨ s.objBit K.fenceDc c then 3
  else if !s.dcEnabled c then 0
  else if !s.pd 10 then (if s.chansUsed then 4 else 0)
  else if (s.chan c).state = .serving then 2 else 1

/-- PORT_FENCE_STATE (13 R340). -/
def Fence.code : Fence → Nat
  | .normal => 0 | .pending => 1 | .held => 2

/-- A port number, or 0xFF for none. -/
def portOr (o : Option Nat) : Nat := o.getD 0xFF

/-- Objects that stand alone and that the state decides. -/
def aloneObjs : List (Nat × (State → Nat)) := [
  (K.modeNow, fun s => s.mode.code), (K.hubStatus, State.hubStatus), (K.deviceTime, fun s => s.deviceTime % 2 ^ 64),
  (K.domainState, fun s => s.domains.toNat), (K.tbState, fun s => s.tbState),
  (K.journalCapacity, State.journalCapacity), (K.nvmSpares, fun s => s.nvm.spares.length), (K.nvmMaxErases, State.maxErases),
  (K.journalQueue, fun s => min 64 s.nvm.queue.length), (K.journalNext, State.journalNext), (K.journalOldest, State.journalOldest),
  (K.parkRdyNow, fun s => s.parkRdy.toNat)] ++ [
  (K.pairState, fun s => s.pair.state), (K.homeNow, fun s => s.homeNow.toNat), (K.partnerHome, fun s => s.pair.partnerHome.toNat),
  (K.nodeId, fun s => s.nodeId.toNat), (K.macAddress, fun _ => hubMac.toNat), (K.plcaStatus, fun s => s.plcaOk.toNat),
  (K.epoch, fun s => s.epoch), (K.commitState, fun s => s.commitState.toNat), (K.commitPending, fun s => s.commitPending.toNat),
  (K.stagedDiffer, fun s => s.staged.length), (K.subActive, fun s => s.jop.subs.length)] ++ [
  (K.l2CapacityNow, fun s => s.inForce.l2cap), (K.maintBusy, fun s => s.consBusy.toNat), (K.consBusy, fun s => s.consBusy.toNat),
  (K.mlInterleaveNow, fun s => s.inForce.interleave),
  (K.evinLevel 0, fun s => (s.evinLevel.extractLsb' 0 32).toNat), (K.evinLevel 1, fun s => (s.evinLevel.extractLsb' 32 32).toNat),
  (K.fatalCause, fun s => s.nvm.fatalCause), (K.fatalTime, fun s => s.nvm.fatalTime % 2 ^ 64), (K.fatalUnit, fun s => s.nvm.fatalUnit),
  (K.fatalDetail, fun s => s.nvm.fatalDetail), (K.fatalValid, fun s => s.nvm.fatalValid.toNat), (K.fatalCount, fun s => s.nvm.fatalCount)]

/-- Families in the subindex, by index: what unit u (subindex u + 1) reads. -/
def unitObjs : List (Nat × (State → Nat → Nat)) := [
  (0x2201, fun s u => (s.port u).sb.length), (0x2209, fun s u => ((s.port u).fence != .normal).toNat),
  (0x2212, State.sliceState), (0x2218, State.catCount), (0x221D, fun s u => (s.reclaiming u).toNat),
  (0x2303, State.lockedLines), (0x2401, State.dcState), (0x2502, fun s u => (s.ml u).state.code), (0x2503, fun s u => (s.ml u).tags),
  (0x2522, fun s u => portOr (s.ml u).owner), (0x2800, fun s u => (s.port u).fence.code)]

/-- Objects of port n that the state decides, by subindex (04 R129). -/
def portObjs : List (Nat × (State → Nat → Nat)) := [(0x05, fun s n => (s.port n).code), (0x08, fun s n => (s.port n).epoch)]

/-- Objects of accession channel c that the state decides, by subindex (12 R334). -/
def accObjs : List (Nat × (State → Nat → Nat)) := [
  (0x08, fun s c => (s.acc c).wstat), (0x09, fun s c => (s.acc c).info), (0x0A, fun s c => (s.acc c).infoTime % 2 ^ 64),
  (0x0D, fun s c => (s.acc c).level), (0x0E, State.accStateCode)]

/-- Objects of the interrupt controller of partition p that the state decides (11 R312). -/
def State.ctlObj (s : State) (p sub : Nat) : Option Nat :=
  if sub = 0x07 then some (s.ctl p).running
  else if sub = 0x08 then some (s.ctl p).stack.length
  else if sub = 0x0C then some (portOr (s.presenter p))
  else if sub = 0x0E then some (s.ctl p).top
  else if 0x10 ≤ sub ∧ sub < 0x18 then some ((s.ctl p).pending.extractLsb' (32 * (sub - 0x10)) 32).toNat
  else if 0x18 ≤ sub ∧ sub < 0x20 then some ((s.ctl p).active.extractLsb' (32 * (sub - 0x18)) 32).toNat
  else if sub = 0x41 then some ((s.obj (K.intidCfg p 1)) % 2 ^ 24 + s.intCfg p 7 * 2 ^ 24)
  else none

/-- What the state decides of an object; none for one whose value is kept. -/
def State.decided (s : State) (k : Nat) : Option Nat :=
  let index := k / 256
  let sub := k % 256
  if sub = 0 then none
  else
    match aloneObjs.lookup k, unitObjs.lookup index with
    | some f, _ => some (f s)
    | none, some f => some (f s (sub - 1))
    | none, none =>
      if 0x2000 ≤ index ∧ index < 0x2030 then (portObjs.lookup sub).map (fun f => f s (index - 0x2000))
      else if 0x2700 ≤ index ∧ index < 0x270C then (accObjs.lookup sub).map (fun f => f s (index - 0x2700))
      else if 0x2110 ≤ index ∧ index < 0x2120 then s.ctlObj (index - 0x2110) sub
      else if 0x2120 ≤ index ∧ index < 0x2130 ∧ sub % 16 = 0x0A then
        some (if s.ledgerOn (index - 0x2120) (sub / 16) then (s.ledger (index - 0x2120) (sub / 16)).state else 0)
      else if 0x2100 ≤ index ∧ index < 0x2110 ∧ sub = 0x07 then some (s.tcInval.contains (index - 0x2100)).toNat
      else none

/-- The value in force of an object, without the effect that a read of it may have (17 R424). -/
def State.objGet (s : State) (k : Nat) : Nat := (s.decided k).getD (s.obj k)

/-- The bytes of a value (17 R421, R422); SERIAL and ORDERING_CODE are the only STR objects. -/
def State.objBytes (s : State) (k : Nat) (r : ORow) (staged : Bool) : List Byte :=
  match r.ty with
  | .str => if k = K.serial then serialBytes else orderingBytes
  | .domain => []
  | .bool | .u8 | .u16 | .u32 | .u64 | .i32 | .bits32 => natBytes r.ty.bytes (if staged then s.stagedOf k else s.objGet k)

/-! Who may access an object, and when. -/

/-- Objects that a field-network read reaches in Fault-hold (13 R349). -/
def holdReadable (index : Nat) : Bool :=
  index / 256 == 0x10 || index / 256 == 0x11 || (0x1200 ≤ index && index ≤ 0x1206) || index == 0x1212 || index == 0x1301 ||
    index / 256 == 0x28

/-- The mode check of a read: 0, or the status that refuses it (14 R360, 13 R349, 16 R407). -/
def State.readMode (s : State) (k : Nat) : Nat :=
  match s.mode with
  | .bringup => if k / 256 = 0x1000 ∨ (k / 256 = 0x1100 ∧ 1 ≤ k % 256 ∧ k % 256 ≤ 6) then 0 else 8
  | .faultHold => if holdReadable (k / 256) then 0 else 7
  | .off | .standby | .configure | .run | .degraded | .retain | .park | .drain | .sole | .diagnostic => 0

/-- The mode check of a write or of a STAGE. -/
def State.writeMode (s : State) (k : Nat) (stage : Bool) : Nat :=
  match s.mode with
  | .bringup => 8
  | .faultHold => if !stage && (k == K.fatalValid || k == K.modeReq) then 0 else 7
  | .off | .standby | .configure | .run | .degraded | .retain | .park | .drain | .sole | .diagnostic => 0

/-- Is port n a member of the supervisor partition? -/
def State.isSupervisor (s : State) (n : Nat) : Bool := s.memberOf n == some s.inForce.supervisor

/-- May the source read the object, or write it (10 R279)? STR and DOMAIN objects do not pass through the console window. -/
def State.permits (s : State) (src : Src) (k : Nat) (ty : OType) (write : Bool) : Bool :=
  match src with
  | .net _ => true
  | .console n q =>
    let index := k / 256
    if ty = .str ∨ ty = .domain then false
    else if s.isSupervisor n then true
    else if write then index == 0x2110 + q || index == 0x2120 + q || k == K.tcInval q
    else index == 0x1000 || index == 0x2100 + q || index == 0x2110 + q || index == 0x2120 + q || index == 0x2130 + q ||
      (0x2000 ≤ index && index < 0x2030 && s.memberOf (index - 0x2000) == some q.val)

/-! Reading. -/

/-- The value that a read returns, with the effect of the three objects whose read has one (17 R425). -/
def State.readEffect (s : State) (k : Nat) (r : ORow) (staged : Bool) : State × List Byte :=
  let index := k / 256
  let sub := k % 256
  if 0x2110 ≤ index ∧ index < 0x2120 ∧ sub = 0x04 then
    ((s.claimOp (index - 0x2110)).1, natBytes 4 (s.claimOp (index - 0x2110)).2)
  else if 0x2700 ≤ index ∧ index < 0x270C ∧ sub = 0x07 then
    ((s.accRead (index - 0x2700)).1, natBytes 4 (s.accRead (index - 0x2700)).2)
  else if 0x2700 ≤ index ∧ index < 0x270C ∧ sub = 0x0C then s.accReadBlock (index - 0x2700)
  else (s, s.objBytes k r staged)

/-- Does the read of the object have an effect (17 R425)? -/
def readActs (k : Nat) : Bool :=
  let index := k / 256
  let sub := k % 256
  (0x2110 ≤ index && index < 0x2120 && sub == 0x04) || (0x2700 ≤ index && index < 0x270C && (sub == 0x07 || sub == 0x0C))

/-- A read with its checks in order: the status and, with 0, the value (16 R406). -/
def State.objRead (s : State) (src : Src) (k : Nat) (staged : Bool) : State × Nat × List Byte :=
  if s.readMode k ≠ 0 then (s, s.readMode k, [])
  else
    match lookupRow (k / 256) (k % 256) with
    | none => (s, 2, [])
    | some r =>
      if !s.permits src k r.ty false then (s, 0xFF, [])
      else if staged && r.acc != .staged then (s, 0x0A, [])
      else if r.acc = .wo then (s, 4, [])
      else
        match s.readEffect k r staged with
        | (s', v) => (s', 0, v)

/-! Writing. -/

/-- Range rules that the dictionary's row does not state (10 R262; 11 R293, R300, R305; 07 R202; 14 R357; 15 R394). -/
def State.rangeBad (s : State) (k v : Nat) : Bool :=
  let index := k / 256
  let sub := k % 256
  if 0x2100 ≤ index ∧ index < 0x2110 ∧ sub = 0x01 then
    2 ^ 48 ≤ v || (List.range 16).any (fun q => q != index - 0x2100 && s.obj (K.members q) &&& v != 0)
  else if 0x2110 ≤ index ∧ index < 0x2120 ∧ (sub = 0x02 ∨ sub = 0x03) then
    v != 0xFF && !s.objBit (K.members (index - 0x2110)) v
  else if 0x2110 ≤ index ∧ index < 0x2120 ∧ sub = 0x06 then v % 256 < 96
  else if 0x2120 ≤ index ∧ index < 0x2130 ∧ sub % 16 = 0x05 then !s.tailOk (index - 0x2120) (sub / 16) v
  else if index = 0x2403 then v != 0xFF && s.obj (K.dcMarkB (sub - 1)) == v
  else if index = 0x2404 then v != 0xFF && s.obj (K.dcMarkA (sub - 1)) == v
  else if k = K.modeReq then modeReqBad v
  else if k = K.fenceSlice then v == 0xFFFFFFFF
  else if k = K.fenceMl then !s.mlFenceOk v
  else false

/-- Are all of PD3 to PD6 on, for the Conservator (14 R352)? -/
def State.consOn (s : State) : Bool := s.slicesOn

/-- Writes that the present state forbids (06 R180; 08 R222, R225; 10 R262, R273; 12 R323; 13 R341; 14 R357; 15 R384; 17 R429). -/
def State.stateBad (s : State) (src : Src) (k v : Nat) : Bool :=
  let index := k / 256
  let sub := k % 256
  if k = K.modeReq then s.modeReqForbidden v
  else if k = K.pairEnable ∨ k = K.pairRole ∨ k = K.pairMask ∨ (0x2100 ≤ index ∧ index < 0x2110 ∧ sub = 0x01) then
    s.mode != .configure
  else if k = K.maintStart then !s.mode.serving || s.consBusy || !s.consOn
  else if k = K.scrubStart then !(s.mode.serving || s.mode == .diagnostic) || s.consBusy || !s.consOn
  else if k = K.diagGo then s.mode != .diagnostic
  else if 0x2100 ≤ index ∧ index < 0x2110 ∧ sub = 0x06 then
    !(s.membersOf (index - 0x2100)).isEmpty && (s.membersOf (index - 0x2100)).all (fun n => !s.pd (portDomain n))
  else if 0x2100 ≤ index ∧ index < 0x2110 ∧ sub = 0x08 then
    !s.mode.serving || (s.resetOf (index - 0x2100)).isSome || (match src with
      | .net _ => false
      | .console n _ => s.memberOf n == some (index - 0x2100))
  else if 0x2700 ≤ index ∧ index < 0x270C ∧ sub = 0x0B then !s.pd 2 || s.accCmdForbidden (index - 0x2700) v
  else if 0x2110 ≤ index ∧ index < 0x2120 ∧ (sub = 0x05 ∨ sub = 0x06) then !s.pd 2
  else if index = 0x2801 then !s.pd (portDomain (sub - 1)) || (s.port (sub - 1)).fence != .held
  else if 0x2000 ≤ index ∧ index < 0x2030 ∧ sub = 0x07 then !s.pd (portDomain (index - 0x2000))
  else false

/-- What a write brings beside its value, where the command gives it: the samples of a MODE_REQ 2 and the beat of a diagnostic read. -/
structure Extras where
  samples : Option Samples := none
  beat : Option Beat := none
deriving DecidableEq, Repr

/-- The port that EOI and DOORBELL report: 63 over the field network (11 R298, R304). -/
def srcPort : Src → Nat
  | .net _ => 63
  | .console n _ => n.val

/-- HELD_ACK (13 R341). -/
def State.heldAck (s : State) (n : Nat) : State :=
  ((s.setObj (K.lossCause n) 0).setObj (K.firstLossTime n) 0).modPort n (fun p => { p with fence := .normal, discardAfter := none })

/-- Writing 1 to bits of WAY_DISABLED (06 R184). -/
def State.enableWays (s : State) (h bits : Nat) : State :=
  ((List.range 16).filter (fun w => bits.testBit w && s.objBit (K.wayDisabled h) w)).foldl (fun s w =>
    let s : State := { s with wayErrs := tset 0 s.wayErrs (h * 16 + w) 0 }
    (s.clearWay h w).setObjBit (K.wayDisabled h) w false) s

/-- A mark written by software (07 R202): a cleared mark starts its chip's count afresh. -/
def State.markWrite (s : State) (k c v : Nat) : State :=
  let old := s.obj k
  let s : State := if old ≠ v ∧ old < 20 then { s with chipErrs := tset 0 s.chipErrs (c * 32 + old) 0 } else s
  s.setObj k v

/-- CE_LOG_CLEAR (08 R220). -/
def State.ceClear (s : State) : State :=
  let s := (List.range 32).foldl (fun s e => s.setObjBit (K.ceWhere e) 0 false) s
  { (s.setObj K.ceLogUsed 0).setObj K.ceUnlogged 0 with ceArm := true, ceUnlogArm := true }

/-- LL_CLEAR (13 R346). -/
def State.llClear (s : State) : State :=
  let s := (List.range 32).foldl (fun s e => s.setObjBit (K.llInfo e) 31 false) s
  (s.setObj K.llNext 0).setObj K.llTotal 0

/-- A write of ACC_ENABLE (12 R317, R333). -/
def State.accEnableWrite (s : State) (c v : Nat) : State :=
  let old := s.obj (K.accEnable c)
  let s := s.setObj (K.accEnable c) v
  if old = 1 ∧ v = 0 then (s.accStop c).accEmpty c else s

/-- A write of PORT_ENABLE: 0 lowers APn_PRDY (04 R129). -/
def State.portEnableWrite (s : State) (n v : Nat) : State :=
  let s := s.setObj (K.portEnable n) v
  if v = 0 then s.portDies n else s

/-- WAKE_REQ 1 (04 R126). -/
def State.wakePort (s : State) (n : Nat) : State :=
  if (s.port n).mode = .sleeping then s.modPort n (fun p => { p with wake := true }) else s

/-- A diagnostic operation by DIAG_GO; a beat that no operand gives is free (08 R225; assumption 3). -/
def State.diagStart (s : State) (x : Extras) : State :=
  match x.beat with
  | some b => s.diagGo (s.obj K.diagOp) b
  | none => (s.freeBeat.1).diagGo (s.obj K.diagOp) s.freeBeat.2

/-- Effects of the objects of blocks 0x1000 to 0x1FFF beside their value. -/
def State.effect1 (s : State) (k v : Nat) (x : Extras) : State :=
  if k = K.modeReq then (s.setObj k v).modeReqOp v (x.samples.getD s.presentSamples)
  else if k = K.pairEnable ∨ k = K.pairRole ∨ k = K.pairMask then (s.setObj k v).pairConfigured
  else if k = K.fenceSlice then s.fenceSlices v
  else if k = K.fenceDc then s.fenceChans v
  else if k = K.fenceMl then s.fenceLinks v
  else if k = K.fencePort then s.fencePorts v
  else if k = K.fenceAcc then s.fenceAccs v
  else if k = K.stageDiscard then (if v = 1 then s.discardStaged else s)
  else s.setObj k v

/-- Effects of the objects of the partitions: 0x2100 to 0x212F. -/
def State.effectPart (s : State) (src : Src) (k v : Nat) : State :=
  let index := k / 256
  let sub := k % 256
  if index < 0x2110 then
    let p := index - 0x2100
    if sub = 0x06 then (if v = 1 then s.tcInvalOp p else s)
    else if sub = 0x08 then s.startReset p (v == 2)
    else s.setObj k v
  else if index < 0x2120 then
    let p := index - 0x2110
    if sub = 0x05 then s.eoiOp p v (srcPort src)
    else if sub = 0x06 then s.doorbellOp p v (srcPort src)
    else if 0x10 ≤ sub ∧ sub < 0x18 then s.pendingClearOp p (sub - 0x10) v
    else s.setObj k v
  else if sub % 16 = 0x05 then s.tailOp (index - 0x2120) (sub / 16) v
  else s.setObj k v

/-- Effects of the other objects of blocks 0x2000 to 0x2FFF. -/
def State.effect2 (s : State) (k v : Nat) (x : Extras) : State :=
  let index := k / 256
  let sub := k % 256
  if k = K.maintStart then (if v = 1 then s.startJob else s)
  else if k = K.scrubStart then (if v = 1 then s.startScrub else s)
  else if k = K.maintAbort then (if v = 1 then s.abortJobs else s)
  else if k = K.diagGo then (if v = 1 then s.diagStart x else s)
  else if k = K.ceLogClear then (if v = 1 then s.ceClear else s)
  else if k = K.llClear then (if v = 1 then s.llClear else s)
  else if k = K.fatalValid then (if v = 1 then { s with nvm := { s.nvm with fatalValid := false } } else s)
  else if 0x2000 ≤ index ∧ index < 0x2030 ∧ sub = 0x01 then s.portEnableWrite (index - 0x2000) v
  else if 0x2000 ≤ index ∧ index < 0x2030 ∧ sub = 0x07 then (if v = 1 then s.wakePort (index - 0x2000) else s)
  else if index = 0x2304 then s.enableWays (sub - 1) v
  else if index = 0x2403 ∨ index = 0x2404 then s.markWrite k (sub - 1) v
  else if index = 0x2526 then (if v = 1 then s.setObj k 0 else s)
  else if index = 0x2602 then (s.setObj k v).routeChanges (sub - 1) (s.obj k) v
  else if index = 0x2801 then (if v = 1 then s.heldAck (sub - 1) else s)
  else if 0x2700 ≤ index ∧ index < 0x270C ∧ sub = 0x01 then s.accEnableWrite (index - 0x2700) v
  else if 0x2700 ≤ index ∧ index < 0x270C ∧ sub = 0x0B then s.accCommand (index - 0x2700) v
  else s.setObj k v

/-- The effect of an accepted write, as its Takes effect column states (17 R427). -/
def State.writeEffect (s : State) (src : Src) (k v : Nat) (acc : OAccess) (x : Extras) : State :=
  let index := k / 256
  if acc = .staged then s.stageOp k v
  else if index < 0x2000 then s.effect1 k v x
  else if 0x2100 ≤ index ∧ index < 0x2130 then s.effectPart src k v
  else s.effect2 k v x

/-- OLD of the journal entry: the staged copy, or what the object read; 0 for one that cannot be read (16 R416). -/
def State.oldValue (s : State) (k : Nat) (acc : OAccess) : Nat :=
  match acc with
  | .staged => s.stagedOf k
  | .wo => 0
  | .const | .ro | .rw | .w1c => s.objGet k

/-- The source that the journal records: for the console, the port and its partition (10 R279, 16 R416). -/
def State.journalSrc (s : State) : Src → Src
  | .net m => .net m
  | .console n _ => .console n (Fin.ofNat 16 (s.partOf n))

/-- A write of 1 to COMMIT, or the opcode (16 R413 to R416): the journal entry names the two epochs. -/
def State.commitWrite (s : State) (src : Src) : State × Nat :=
  match s.commitOp with
  | (s', 0) => (s'.journal K.commitObj 3 (s.journalSrc src) false 1 s.epoch s'.epoch, 0)
  | (s', n) => (s', n)

/-- A write that has passed its checks: its journal entry, then its effect (16 R415, R416). -/
def State.accept (s : State) (src : Src) (k v : Nat) (r : ORow) (x : Extras) : State × Nat :=
  if k = K.commitObj ∧ v = 1 then s.commitWrite src
  else
    let kind := if r.acc = .staged then 2 else 1
    ((s.journal k kind (s.journalSrc src) false r.ty.bytes (s.oldValue k r.acc) v).writeEffect src k v r.acc x, 0)

/-- The status of a write or a STAGE, its checks in order; 0 where it is accepted (16 R406). -/
def State.writeStatus (s : State) (src : Src) (k : Nat) (value : List Byte) (stage : Bool) : Nat :=
  if s.writeMode k stage ≠ 0 then s.writeMode k stage
  else
    match lookupRow (k / 256) (k % 256) with
    | none => 2
    | some r =>
      let v := bytesNat value &&& r.keep
      if !s.permits src k r.ty true then 0xFF
      else if stage && r.acc != .staged then 0x0A
      else if r.acc = .const ∨ r.acc = .ro then 3
      else if 1024 < value.length then 0x0B
      else if value.length ≠ r.ty.bytes then 5
      else if (r.ty == .bool && 1 < v) || !r.rng.ok v || s.rangeBad k v then 6
      else if !(r.acc == .wo && r.ty == .bool && v == 0) && s.stateBad src k v then 7
      else 0

/-- A write or a STAGE: refused with a status that changes nothing, or accepted (16 R405, R406). -/
def State.objWrite (s : State) (src : Src) (k : Nat) (value : List Byte) (stage : Bool) (x : Extras) : State × Nat :=
  if s.writeStatus src k value stage ≠ 0 then (s, s.writeStatus src k value stage)
  else
    match lookupRow (k / 256) (k % 256) with
    | none => (s, 2)
    | some r => s.accept src k (bytesNat value &&& r.keep) r x

/-! Register writes as commands. -/

/-- May the source make an access now: the field network with PD1 and VIOM on, a console only from a port in Run (16 R407, 10 R276)? -/
def State.srcPresent (s : State) (src : Src) : Bool :=
  match src with
  | .net _ => s.jop.up && s.pd 1
  | .console n p => (s.port n).mode == .run && !s.dead && (s.isSupervisor n || s.memberOf n == some p.val)

/-- Must the answer of a write wait? `before` is the state before the write (10 R271, 14 R372). -/
def State.writeWait (s before : State) (k status v : Nat) : WriteWait :=
  if status ≠ 0 then .no
  else if 0x2100 ≤ k / 256 ∧ k / 256 < 0x2110 ∧ k % 256 = 6 ∧ v = 1 then
    (if s.tcInval.contains (k / 256 - 0x2100) then .tc (k / 256 - 0x2100) else .no)
  else if before.journalFull then .journal before.nvm.next else .no

/-- The answer of a write, whose effect is in `s`: its status now, or OK once its wait is over. -/
def State.answerWrite (s before : State) (src : Src) (k status v : Nat) : State :=
  match s.writeWait before k status v with
  | .no => s.emit (.objStatus src k status [])
  | w => { s with due := s.due ++ [(.status src k, w)] }

/-- A register write as a command, with its bytes: it answers the status, at once or when its wait is over (16 R405, 10 R278). -/
def State.bytesWrite (s : State) (src : Src) (k : Nat) (value : List Byte) (x : Extras := {}) : State :=
  if !s.srcPresent src then s
  else
    match s.objWrite src k value false x with
    | (s', st) => s'.answerWrite s src k st (bytesNat value)

/-- A register write as a command, with its value in n bytes. -/
def State.regWrite (s : State) (src : Src) (k n v : Nat) (x : Extras := {}) : State := s.bytesWrite src k (natBytes n v) x

/-- A register read as a command. -/
def State.regRead (s : State) (src : Src) (k : Nat) : State :=
  if !s.srcPresent src then s
  else
    match s.objRead src k false with
    | (s', st, v) => s'.emit (.objStatus src k st v)

end Sys2Proof.Machine
end

