-- ==== Sys2Proof/Machine/Console.lean ====
section
/-! DEFINITION. The console window: which page and register an access reaches, and what reading or writing it does (10 R276 to R279). -/

namespace Sys2Proof.Machine

/-- Does the system address lie in the console window (10 R276)? -/
def State.inConsole (s : State) (sa : Nat) : Bool := s.inForce.console ≤ sa && sa < s.inForce.console + consoleSize

/-- The page of a console address, 0 to 255. -/
def State.conPage (s : State) (sa : Nat) : Nat := (sa - s.inForce.console) / 0x10000

/-- May port n reach page q (10 R276)? A port of the supervisor partition reaches every page. -/
def State.reaches (s : State) (n q : Nat) : Bool := s.isSupervisor n || s.memberOf n == some q

/-- The place of the registers of a port at a page. -/
def conKey (n q : Nat) : Nat := n * 16 + q

/-- The registers that a port selects with at a page. -/
def State.con (s : State) (n q : Nat) : ConsoleRegs := tget {} s.consoles (conKey n q)

/-- Change them. -/
def State.modCon (s : State) (n q : Nat) (f : ConsoleRegs → ConsoleRegs) : State :=
  { s with consoles := tset {} s.consoles (conKey n q) (f (s.con n q)) }

/-- A port and a page as the source of an object access. -/
def conSrc (n q : Nat) : Src := .console (Fin.ofNat 48 n) (Fin.ofNat 16 q)

/-- OBJ_CTRL 1: the selected object is read into OBJ_DATA0 and OBJ_DATA1. -/
def State.conObjRead (s : State) (n q : Nat) : State :=
  match s.objRead (conSrc n q) ((s.con n q).sel % 2 ^ 24) false with
  | (s', 0, v) => s'.modCon n q (fun c => { c with
      status := 0, data0 := bytesNat v % 2 ^ 32, data1 := bytesNat v / 2 ^ 32 % 2 ^ 32 })
  | (s', st, _) => s'.modCon n q (fun c => { c with status := st })

/-- OBJ_CTRL 2: OBJ_LEN bytes of OBJ_DATA are written to the selected object. -/
def State.conObjWrite (s : State) (n q : Nat) : State × WriteWait :=
  let c := s.con n q
  let k := c.sel % 2 ^ 24
  let data := c.data0 + c.data1 * 2 ^ 32
  match s.objWrite (conSrc n q) k (natBytes (min 9 c.len) data) false {} with
  | (s', st) => (s'.modCon n q (fun c => { c with status := st }), s'.writeWait s k st (data % 256))

/-- A read of TIME_LO latches the high half for the port. -/
def State.timeLo (s : State) (n : Nat) : State × Nat :=
  (s.modPort n (fun p => { p with timeHi := s.deviceTime / 2 ^ 32 % 2 ^ 32 }), s.deviceTime % 2 ^ 32)

/-- A 4-byte read at an offset of a page (10 R277, R278): unlisted offsets, the write registers and the unused pages read 0. -/
def State.conRead (s : State) (n q off : Nat) : State × Nat :=
  let c := s.con n q
  if 16 ≤ q then (s, 0)
  else if off = 0x0000 then
    match s.objRead (conSrc n q) (K.claim q) false with
    | (s', _, v) => (s', bytesNat v)
  else if off = 0x0008 then s.timeLo n
  else if off = 0x000C then (s, (s.port n).timeHi)
  else if off = 0x0010 then (s, (s.port n).epoch)
  else if off = 0x0014 then (s, n + s.partOf n * 2 ^ 8)
  else if off = 0x0100 then (s, c.sel)
  else if off = 0x0104 then (s, c.len)
  else if off = 0x010C then (s, c.status)
  else if off = 0x0110 then (s, c.data0)
  else if off = 0x0114 then (s, c.data1)
  else (s, 0)

/-- A 4-byte write at an offset of a page: other offsets, the read registers and the unused pages ignore it. -/
def State.conWrite (s : State) (n q off v : Nat) : State × WriteWait :=
  if 16 ≤ q then (s, .no)
  else if off = 0x0004 then
    match s.objWrite (conSrc n q) (K.eoi q) (natBytes 4 v) false {} with
    | (s', st) => (s', s'.writeWait s (K.eoi q) st v)
  else if off = 0x0100 then (s.modCon n q (fun c => { c with sel := v % 2 ^ 24 }), .no)
  else if off = 0x0104 then (s.modCon n q (fun c => { c with len := v }), .no)
  else if off = 0x0108 then
    (if v = 1 then (s.conObjRead n q, .no) else if v = 2 then s.conObjWrite n q else (s, .no))
  else if off = 0x0110 then (s.modCon n q (fun c => { c with data0 := v }), .no)
  else if off = 0x0114 then (s.modCon n q (fun c => { c with data1 := v }), .no)
  else (s, .no)

/-- The first answer of a write whose wait is over leaves (10 R271, 14 R372). -/
def State.dueWork (s : State) : Option State :=
  match s.due.find? (fun x => s.waitEnded x.2) with
  | none => none
  | some x =>
    let s : State := { s with due := s.due.erase x }
    match x.1 with
    | .status src k => some (s.emit (.objStatus src k 0 []))
    | .complete n tid => some (s.respond n { op := .complete, tid := tid, epoch := s.epochOf n tid })

end Sys2Proof.Machine
end

