-- ==== Sys2Proof/Machine/JopOps.lean ====
section
/-! DEFINITION. Field control, the Jozor object protocol: frames, answers, segmented transfers, subscriptions and JOURNAL_READ
(16 R400 to R417). -/

namespace Sys2Proof.Machine

/-! Answers. -/

/-- Ticks for which an answer is kept and a transfer may be idle: 1 s (16 R403, R409). -/
def oneSecond : Nat := 100000000

/-- Send an answer and keep it for a repeat of its request: the latest of each of the last 8 sources (16 R402, R403). -/
def State.jopAnswer (s : State) (mac : BitVec 48) (op : Nat) (seq : BitVec 16) (status : Nat) (payload : List Byte) : State :=
  if !s.jop.up then s
  else
    let body := if status = 0 then payload else []
    let k : Kept := { mac := mac, seq := seq, op := op, status := status, payload := body, time := s.deviceTime }
    let s : State := { s with jop := { s.jop with kept := (k :: s.jop.kept.filter (fun x => x.mac != mac)).take 8 } }
    (s.bump K.framesTx).emit (.answer mac op seq status body)

/-- The kept answer that a repeated request receives. -/
def State.keptFor (s : State) (f : JopFrame) : Option Kept :=
  s.jop.kept.find? (fun k => k.mac == f.mac && k.seq == f.seq && s.deviceTime < k.time + oneSecond)

/-! Frames. -/

/-- Bytes i to i + n − 1 of a payload as a number. -/
def payloadNat (p : List Byte) (i n : Nat) : Nat := bytesNat ((p.drop i).take n)

/-- The object that an ITEM names (16 R404). -/
def itemKey (p : List Byte) : Nat := okey (payloadNat p 0 2) (payloadNat p 2 1)

/-- The payload lengths of an opcode (16 R404). -/
def lenOk (op len : Nat) : Bool :=
  if op = 0x01 ∨ op = 0x05 then len == 0
  else if op = 0x02 then len == 4
  else if op = 0x03 ∨ op = 0x04 then 4 ≤ len && len ≤ 1040
  else if op = 0x06 then len == 12
  else if op = 0x08 then len == 5
  else if op = 0x09 then 12 ≤ len && len ≤ 1036
  else false

/-- Opcodes whose payload starts with an ITEM. -/
def hasItem (op : Nat) : Bool := op == 0x02 || op == 0x03 || op == 0x04 || op == 0x06 || op == 0x09

/-- BAD_FRAME (16 R401, R405, R409, R410). -/
def frameBad (op : Nat) (f : JopFrame) : Bool :=
  let p := f.payload
  f.version != 1 || f.reserved != 0 || f.len.toNat != p.length || !lenOk op p.length ||
    (if op = 0x02 then f.flags.toNat / 2 != 0 else f.flags != 0) ||
    (hasItem op && payloadNat p 3 1 != 0) ||
    (op == 0x06 && payloadNat p 5 3 != 0) ||
    (op == 0x09 && (payloadNat p 5 3 != 0 || 8 ≤ payloadNat p 4 1 || (payloadNat p 4 1 % 2 == 0 && p.length != 12)))

/-! Subscriptions. -/

/-- The subscription with a SUB_ID. -/
def State.sub (s : State) (i : Nat) : Option Subscription := s.jop.subs.find? (fun x => x.id == i)

/-- Replace the subscriptions. -/
def State.setSubs (s : State) (l : List Subscription) : State := { s with jop := { s.jop with subs := l } }

/-- The width of a fixed-length object in bytes. -/
def objWidth (k : Nat) : Nat :=
  match lookupRow (k / 256) (k % 256) with
  | some r => r.ty.bytes
  | none => 0

/-- One NOTIFY with the present value (16 R410). -/
def State.notify (s : State) (x : Subscription) : State :=
  let v := s.objGet x.key
  let payload := [BitVec.ofNat 8 x.id, 0] ++ natBytes 2 (x.key / 256) ++ natBytes 1 x.key ++ [0, 0, 0] ++ natBytes 8 s.deviceTime ++
    natBytes (objWidth x.key) v
  let s := s.setSubs (s.jop.subs.map (fun y =>
    if y.id = x.id then { y with lastValue := v, lastTime := s.deviceTime, seq := (y.seq + 1) % 65536 } else y))
  ((s.bump K.framesTx).bump K.notifySent).emit (.notify x.mac x.seq payload)

/-- May a NOTIFY of the object be sent now (16 R410)? -/
def State.notifiable (s : State) (k : Nat) : Bool := s.jop.up && s.readMode k == 0

/-- A periodic subscription's PERIOD elapses: a send that cannot be made is skipped, and the period runs on (16 R410). -/
def State.periodElapses (s : State) (i : Nat) : State :=
  match s.sub i with
  | none => s
  | some x =>
    if x.onChange then s
    else if s.notifiable x.key then s.notify x
    else s.setSubs (s.jop.subs.map (fun y => if y.id = i then { y with lastTime := s.deviceTime } else y))

/-- An on-change subscription sends a value that differs from the one last sent (16 R410). -/
def State.changeSends (s : State) (i : Nat) : State :=
  match s.sub i with
  | none => s
  | some x => if x.onChange && s.notifiable x.key && s.objGet x.key != x.lastValue then s.notify x else s

/-- A subscription ends (16 R411). -/
def State.subEnds (s : State) (i : Nat) : State := s.setSubs (s.jop.subs.filter (fun x => x.id != i))

/-- The lowest SUB_ID that is free. -/
def State.freeSub (s : State) : Option Nat := (List.range 16).find? (fun i => (s.sub i).isNone)

/-- What serving a request gives: the state, the status, the payload, how long the answer waits and the subscription that a NOTIFY
follows. -/
structure Served where
  state : State
  status : Nat
  payload : List Byte := []
  wait : WriteWait := .no
  follow : Option Nat := none
deriving DecidableEq, Repr

/-- Make or renew a subscription. -/
def State.subscribe (s : State) (mac : BitVec 48) (k mode period : Nat) : Served :=
  let x : Subscription := { id := 0, mac := mac, key := k, onChange := mode == 2, period := period, lastValue := 0, lastTime := 0, seq := 0 }
  match s.jop.subs.find? (fun y => y.mac == mac && y.key == k) with
  | some y =>
    let l := s.jop.subs.map (fun z => if z.id = y.id then { x with id := y.id, seq := y.seq, lastValue := y.lastValue } else z)
    { state := s.setSubs l, status := 0, payload := [BitVec.ofNat 8 y.id], follow := some y.id }
  | none =>
    match s.freeSub with
    | none => { state := s, status := 0x0D }
    | some i =>
      { state := s.setSubs (s.jop.subs ++ [{ x with id := i }]), status := 0, payload := [BitVec.ofNat 8 i], follow := some i }

/-- MODE 0 (16 R410). -/
def State.unsubscribe (s : State) (mac : BitVec 48) (k : Nat) : Served :=
  match s.jop.subs.find? (fun y => y.mac == mac && y.key == k) with
  | some y => { state := s.subEnds y.id, status := 0, payload := [BitVec.ofNat 8 y.id] }
  | none => { state := s, status := 0, payload := [0xFF] }

/-- SUBSCRIBE with its checks in order (16 R406, R410, R425). -/
def State.serveSubscribe (s : State) (f : JopFrame) : Served :=
  let p := f.payload
  let k := itemKey p
  let mode := payloadNat p 4 1
  let period := payloadNat p 8 4
  if s.readMode k ≠ 0 then { state := s, status := s.readMode k }
  else
    match lookupRow (k / 256) (k % 256) with
    | none => { state := s, status := 2 }
    | some r =>
      if r.acc = .wo then { state := s, status := 4 }
      else if mode = 0 then s.unsubscribe f.mac k
      else if 2 < mode ∨ (mode = 1 ∧ (period < 10000 ∨ 4000000000 < period)) ∨ (mode = 2 ∧ period ≠ 0) then { state := s, status := 6 }
      else if r.ty = .str ∨ r.ty = .domain ∨ readActs k = true then { state := s, status := 7 }
      else s.subscribe f.mac k mode period

/-! Segmented transfers. -/

/-- The transfer that a source has open. -/
def State.seg (s : State) (mac : BitVec 48) : Option Segment := s.jop.segs.find? (fun x => x.mac == mac)

/-- Close a source's transfer. -/
def State.segClose (s : State) (mac : BitVec 48) : State := { s with jop := { s.jop with segs := s.jop.segs.filter (fun x => x.mac != mac) } }

/-- Open or replace a source's transfer. -/
def State.segPut (s : State) (x : Segment) : State :=
  { s with jop := { s.jop with segs := s.jop.segs.filter (fun y => y.mac != x.mac) ++ [x] } }

/-- The payload of a SEGMENT answer. -/
def segHead (p : List Byte) (last : Bool) : List Byte :=
  p.take 4 ++ [BitVec.ofNat 8 (payloadNat p 4 1 % 4 + last.toNat * 4), 0, 0, 0] ++ (p.drop 8).take 4

/-- The next bytes of a snapshot, at most 1,024 (16 R409). -/
def State.segNext (s : State) (p : List Byte) (x : Segment) (last : Bool) : Served :=
  let chunk := (x.data.drop x.offset).take 1024
  let stop := x.offset + chunk.length
  let done := last || x.data.length ≤ stop
  let s := if done then s.segClose x.mac else s.segPut { x with offset := stop }
  { state := s, status := 0, payload := segHead p done ++ chunk }

/-- Bytes of a value; the request with LAST applies the whole value as one write (16 R409). -/
def State.segStore (s : State) (p : List Byte) (x : Segment) (last : Bool) : Served :=
  let x : Segment := { x with data := x.data ++ p.drop 12, offset := x.offset + (p.drop 12).length }
  if !last then { state := s.segPut x, status := 0, payload := segHead p false }
  else
    match (s.segClose x.mac).objWrite (.net x.mac) x.key x.data false {} with
    | (s', st) => { state := s', status := st, payload := segHead p true, wait := s'.writeWait s x.key st (bytesNat x.data) }

/-- SEGMENT with its checks in order (16 R406, R409). -/
def State.serveSegment (s : State) (f : JopFrame) : Served :=
  let p := f.payload
  let k := itemKey p
  let ctrl := payloadNat p 4 1
  let write := ctrl % 2 == 1
  let start := ctrl / 2 % 2 == 1
  let last := ctrl / 4 == 1
  let offset := payloadNat p 8 4
  let mode := if write then s.writeMode k false else s.readMode k
  if mode ≠ 0 then { state := s, status := mode }
  else
    match lookupRow (k / 256) (k % 256) with
    | none => { state := s, status := 2 }
    | some r =>
      if write && (r.acc == .const || r.acc == .ro) then { state := s, status := 3 }
      else if !write && r.acc == .wo then { state := s, status := 4 }
      else if r.ty ≠ .domain then { state := s, status := 0x0C }
      else if start then
        if offset ≠ 0 then { state := s, status := 0x0C }
        else if (s.seg f.mac).isNone && 4 ≤ s.jop.segs.length then { state := s, status := 0x0D }
        else
          let x : Segment := { mac := f.mac, key := k, write := write, offset := 0, data := [] }
          if write then (s.segClose f.mac).segStore p x last
          else
            match s.readEffect k r false with
            | (s', v) => (s'.segClose f.mac).segNext p { x with data := v } last
      else
        match s.seg f.mac with
        | none => { state := s, status := 0x0C }
        | some x =>
          if x.key ≠ k ∨ x.write ≠ write ∨ x.offset ≠ offset then { state := s, status := 0x0C }
          else if write then s.segStore p x last
          else s.segNext p x last

/-- A transfer idle for 1 s is abandoned: the i-th one open (16 R409). -/
def State.segIdle (s : State) (i : Nat) : State :=
  match s.jop.segs[i]? with
  | none => s
  | some x => s.segClose x.mac

/-! Requests. -/

/-- IDENT (16 R404). -/
def State.identPayload (s : State) : List Byte :=
  natBytes 4 (s.objGet K.vendorId) ++ natBytes 4 (s.objGet K.product) ++ natBytes 4 (s.objGet K.revision) ++
    [BitVec.ofNat 8 s.mode.code, BitVec.ofNat 8 s.epoch, s.nodeId.setWidth 8, 0] ++ serialBytes

/-- READ. -/
def State.serveRead (s : State) (f : JopFrame) : Served :=
  match s.objRead (.net f.mac) (itemKey f.payload) (f.flags == 1) with
  | (s', st, v) => { state := s', status := st, payload := f.payload.take 4 ++ v }

/-- WRITE or STAGE. -/
def State.serveWrite (s : State) (f : JopFrame) (stage : Bool) : Served :=
  let k := itemKey f.payload
  let v := f.payload.drop 4
  match s.objWrite (.net f.mac) k v stage {} with
  | (s', st) => { state := s', status := st, payload := f.payload.take 4, wait := s'.writeWait s k st (bytesNat v) }

/-- COMMIT (16 R407, R413, R414). -/
def State.serveCommit (s : State) (f : JopFrame) : Served :=
  if s.writeMode K.commitObj true ≠ 0 then { state := s, status := s.writeMode K.commitObj true }
  else
    match s.commitWrite (.net f.mac) with
    | (s', st) => { state := s', status := st, payload := [BitVec.ofNat 8 s'.epoch],
                    wait := s'.writeWait s K.commitObj st 1 }

/-- JOURNAL_READ (16 R407, R417; 13 R349). -/
def State.serveJournal (s : State) (f : JopFrame) : Served :=
  if s.readMode K.journalNext ≠ 0 then { state := s, status := s.readMode K.journalNext }
  else
    let start := payloadNat f.payload 0 4
    let max := payloadNat f.payload 4 1
    { state := s.journalScan start max, status := 0, payload := s.journalPayload start max }

/-- Serve one request: the frame check first (16 R406). -/
def State.serve (s : State) (op : Nat) (f : JopFrame) : Served :=
  if frameBad op f then { state := s, status := 1 }
  else if op = 0x01 then { state := s, status := 0, payload := s.identPayload }
  else if op = 0x02 then s.serveRead f
  else if op = 0x03 then s.serveWrite f false
  else if op = 0x04 then s.serveWrite f true
  else if op = 0x05 then s.serveCommit f
  else if op = 0x06 then s.serveSubscribe f
  else if op = 0x08 then s.serveJournal f
  else if op = 0x09 then s.serveSegment f
  else { state := s, status := 1 }

/-- The answer of a served request leaves, or waits; a NOTIFY follows a SUBSCRIBE directly (16 R402, R410). A request that powers the
field interface down or resets it is answered as it takes effect: every request served gets one answer (R402). -/
def State.answerServed (s : State) (op : Nat) (f : JopFrame) (r : Served) : State :=
  let w : Waiting := { mac := f.mac, op := op, seq := f.seq, status := r.status, payload := r.payload, wait := r.wait }
  if !s.jop.up then s.emit (.answer f.mac op f.seq r.status (if r.status = 0 then r.payload else []))
  else match r.wait with
  | .tc _ | .journal _ => { s with jop := { s.jop with waiting := some w } }
  | .no =>
    let s := s.jopAnswer f.mac op f.seq r.status r.payload
    match r.follow.bind s.sub with
    | some x => s.notify x
    | none => s

/-- A request whose turn has come: a repeat gets the kept answer and is not performed again (16 R403). -/
def State.perform (s : State) (op : Nat) (f : JopFrame) : State :=
  match s.keptFor f with
  | some k => ((s.bump K.duplicates).bump K.framesTx).emit (.answer k.mac k.op k.seq k.status k.payload)
  | none =>
    let r := s.serve op f
    r.state.answerServed op f r

/-- A request frame arrives (16 R400, R402): only IDENT may be broadcast; while an answer waits, up to 16 requests wait behind it. -/
def State.jopRequest (s : State) (op : Nat) (f : JopFrame) : State :=
  if !s.jop.up || !s.pd 1 then s
  else if f.broadcast && op != 0x01 then s.bump K.netDiscarded
  else
    let s := s.bump K.framesRx
    if s.jop.waiting.isNone then s.perform op f
    else if 16 ≤ s.jop.queue.length then s.bump K.requestsDropped
    else { s with jop := { s.jop with queue := s.jop.queue ++ [{ op := op, frame := f }] } }

/-- A frame that the hub does not accept, or one that finds the queue full (16 R400, R402). -/
def State.frameDiscarded (s : State) (full : Bool) : State :=
  if !s.jop.up || !s.pd 1 then s
  else if full then (s.bump K.framesRx).bump K.requestsDropped
  else s.bump K.netDiscarded

/-- The next step of the field interface: an answer that waited leaves, or the next request is served. -/
def State.jopWork (s : State) : Option State :=
  match s.jop.waiting, s.jop.queue with
  | some w, _ =>
    if s.waitEnded w.wait then
      some (({ s with jop := { s.jop with waiting := none } } : State).jopAnswer w.mac w.op w.seq w.status w.payload)
    else none
  | none, q :: rest => some (({ s with jop := { s.jop with queue := rest } } : State).perform q.op q.frame)
  | none, [] => none

end Sys2Proof.Machine
end

