-- ==== Sys2Proof/Machine/LinkRows.lean ====
section
/-! DEFINITION. The links' own events: reception, LINK_ACK, resynchronisation, LINK_HELLO, and the rise and fall of the ready wires
(03 R74 to R91; 09 R232 to R234, R250, R251; 15 R385, R386, R392). -/

namespace Sys2Proof.Machine

/-! Reception. -/

/-- A message arrives on a link: nothing is heard while the link is down or while its direction is resynchronised; before the LINK_HELLO
exchange has ended anything but the first LINK_HELLO is a failed bring-up; afterwards a good message is delivered and an error starts
resynchronisation (03 R78, R82, R83, R87, R88). A port whose DESCRIBE was illegal hears the link layer alone (04 R110; DEDUCED, assumption
80). `hello` says that the message is a LINK_HELLO, `numbered` that it is numbered; `syms` are its symbols. -/
def State.receive (s : State) (l : LinkId) (hello numbered : Bool) (rx : RxState) (syms : List Nat) (f : State → State) : State :=
  match (s.link l).phase with
  | .down => s
  | .hello | .refused =>
    (match rx with
    | .framing => s.rxError l 2
    | .badCrc => s.rxError l 1
    | .good => if hello then f (s.capture l syms) else s.bringupFails l)
  | .up | .leaving =>
    if (s.link l).rxResync then s
    else
      (match rx with
      | .framing => s.rxError l 2
      | .badCrc => (s.capture l syms).rxError l 1
      | .good =>
        if numbered then (if (s.link l).phase = .leaving then id else f) ((s.capture l syms).delivered l)
        else f (s.capture l syms))

/-- The CRC symbol received. -/
def rxCrc (rx : Rx) : List Nat :=
  match rx with
  | .crc c => [c.toNat]
  | .framing => []

/-- A numbered message of a Vitrine link arrives. -/
def State.recv8 (s : State) (l : LinkId) (body : List Byte) (rx : Rx) (f : State → State) : State :=
  s.receive l false true (rx8 body rx) (body.map BitVec.toNat ++ rxCrc rx) f

/-- A numbered packet of an Archive link arrives. -/
def State.recv32 (s : State) (l : LinkId) (body : List Word) (rx : Rx) (f : State → State) : State :=
  s.receive l false true (rx32 body rx) (body.map BitVec.toNat ++ rxCrc rx) f

/-- A link-layer message arrives, with its opcode, argument, version and flags (03 R77, 09 R234). -/
def State.recvLink (s : State) (l : LinkId) (op : Byte) (arg version flags : Byte) (rx : Rx) (f : State → State) : State :=
  let hello := op == 0xFB
  if isArch l then
    let body : List Word := [version ++ flags ++ arg ++ op]
    s.receive l hello false (rx32 body rx) (body.map BitVec.toNat ++ rxCrc rx) f
  else
    let body : List Byte := if hello then [op, version, flags] else [op, arg]
    s.receive l hello false (rx8 body rx) (body.map BitVec.toNat ++ rxCrc rx) f

/-! LINK_ACK and resynchronisation. -/

/-- LINK_ACK k: everything up to number k leaves the replay buffer; a number not yet sent fails the link (03 R85, R89), one sent earlier
covers nothing. DESIGN CHOICE (assumption 80): the bits above the number, which the sender must leave zero (R77), are ignored, and so is
an acknowledge of the number before the first. -/
def State.ackArrives (s : State) (l : LinkId) (k : Nat) : State :=
  let e := s.link l
  let m := numberMod l
  let left := (e.txNext + 2 * m - 1 - k % m) % m
  if left ≤ e.replay.length then (s.setLink l { e with replay := e.replay.drop (e.replay.length - left) }).pumpTx l
  else if left ≤ replayDepth l && left ≤ e.txSent then s
  else s.linkFails l

/-- LINK_RESYNC k: launching stops until LINK_READY (03 R88, R89). -/
def State.resyncArrives (s : State) (l : LinkId) (k : Nat) : State :=
  let s := s.countLink l 4
  let times := recentTimes s.deviceTime (s.link l).resyncsOut
  let s := s.modLink l (fun e => { e with resyncsOut := times })
  let e := s.link l
  let m := numberMod l
  if 16 ≤ times.length ∨ e.replay.length < (e.txNext + m - k % m) % m then s.linkFails l
  else s.setLink l { e with txResync := some (k % m) }

/-- Put messages on the wire again with their numbers from k on (03 R88 step 7). -/
def State.relaunch (s : State) (l : LinkId) (k : Nat) : List WireMsg → State
  | [] => s
  | m :: rest => ((s.launch l (m.wire k)).emit (.msg l m)).relaunch l ((k + 1) % numberMod l) rest

/-- LINK_READY with the acknowledge level found: LINK_ACK, then the replay (03 R88 steps 6 and 7). -/
def State.readyArrives (s : State) (l : LinkId) (ack : Bool) : State :=
  match (s.link l).txResync with
  | none => s
  | some k =>
    let s := s.modLink l (fun e => { e with ackIn := ack, unacked := 0, txResync := none })
    let s := s.sendAck l
    let e := s.link l
    let m := numberMod l
    let again := e.replay.drop (e.replay.length - (e.txNext + m - k) % m)
    (s.relaunch l k again).pumpTx l

/-- 1,000 ticks after LINK_RESYNC: the present rail levels are references and LINK_READY is sent (03 R88 steps 4 and 5). -/
def State.resyncSettles (s : State) (l : LinkId) (rails : BitVec 64) : State :=
  if (s.link l).rxResync && (s.link l).txResync.isNone && (s.link l).ended then
    (s.modLink l (fun e => { e with railsIn := rails, rxResync := false })).sendLink l .ready
  else s

/-- 200 ticks after the oldest delivery that is not acknowledged (03 R86). -/
def State.ackTimer (s : State) (l : LinkId) : State :=
  let e := s.link l
  if e.ended && 0 < e.rxUnacked && e.txResync.isNone then s.sendAck l else s

/-- No progress for 10,000 ticks (03 R89): of LINK_ACK with messages in the replay buffer, of the acknowledge of a symbol, or of LINK_READY
after LINK_RESYNC. -/
def State.noProgress (s : State) (l : LinkId) : State :=
  let e := s.link l
  if !e.replay.isEmpty || 0 < e.unacked || e.txResync.isSome then s.linkFails l else s

/-! LINK_HELLO. -/

/-- Is a LINK_HELLO refused (03 R79, R91; 09 R232)? Only the partner of a pair is a hub. -/
def helloRefused (l : LinkId) (version flags : Nat) : Bool :=
  version != 1 || 4 ≤ flags || flags / 2 % 2 != (match l with
    | .pair => 1
    | .port _ => 0
    | .arch _ => 0)

/-- The exchange has ended at this end when LINK_HELLO has been sent and received (03 R78): the link is up with numbers from 0. -/
def State.helloEnds (s : State) (l : LinkId) : State :=
  let e := s.link l
  if e.phase == .hello && e.helloSent && e.helloSeen then
    let s := s.setLink l { e with phase := .up }
    match l with
    | .port n =>
      (s.modPort n (fun p => { p with mode := .awaitDescribe })).raisePS (s.partOf n) 4 (n + 0x100) n
    | .arch k => s.modMl k (fun m => { m with describable := true })
    | .pair => s
  else s

/-- A LINK_HELLO arrives (03 R78, R79; 09 R232; R91). On a port the hub answers with its own; on the others each end sends its own when
both ready wires are high. -/
def State.helloArrives (s : State) (l : LinkId) (version flags : Nat) : State :=
  let e := s.link l
  if e.ended then s.linkFails l
  else if e.helloSeen then s.bringupFails l
  else
    let s := s.modLink l (fun e => { e with helloSeen := true, short := e.near && flags % 2 == 1 })
    let s := match l with
      | .port _ => s.sendHello l
      | .arch _ => s
      | .pair => s
    if helloRefused l version flags then
      let s := s.modLink l (fun e => { e with phase := .refused, barred := true })
      match l with
      | .port n => s.bump (K.versionRefusals n)
      | .arch _ => s
      | .pair => s
    else s.helloEnds l

/-- No valid LINK_HELLO in time (03 R78). -/
def State.helloTimeout (s : State) (l : LinkId) : State :=
  let e := s.link l
  if e.phase == .hello && !e.helloSeen then s.bringupFails l else s

/-- 100,000 ticks after a failed bring-up (03 R78); the pair link has its own restart (15 R392). -/
def State.mayRetry (s : State) (l : LinkId) : State :=
  match l with
  | .port _ => s.modLink l (fun e => { e with backoff := false })
  | .arch _ => s.modLink l (fun e => { e with backoff := false })
  | .pair => s

/-- 100 ticks after a refusal (03 R79, 04 R110): the ready wire falls. -/
def State.refusalEnds (s : State) (l : LinkId) : State :=
  if (s.link l).phase = .refused ∨ (s.link l).phase = .leaving then
    match l with
    | .port n => s.portDies n
    | .arch k => (s.mlLower k).mlTo k .down
    | .pair => s.pairLower.modLink .pair (fun e => { e with backoff := false })
  else s

/-! Ports. -/

/-- May APn_PRDY rise, the agent and its wires apart (03 R75, 10 R262, 05 R156)? -/
def State.portMayRise (s : State) (n : Nat) : Bool :=
  let e := s.link (portLink n)
  s.mode.ports && !s.dead && s.obj (K.portEnable n) == 1 && (s.memberOf n).isSome && !(s.objBit K.fencePort n) &&
    s.pd (portDomain n) && e.phase == .down && !e.backoff && !e.barred && !s.reclaiming n

/-- APn_PRDY rises (03 R75): link bring-up starts. -/
def State.prdyRises (s : State) (n : Nat) : State :=
  if s.portMayRise n then
    (s.modLink (portLink n) (·.raised (s.ownReach (portLink n)))).modPort n (fun p => { p with mode := .bringup, alive := true })
  else s

/-- The up wires are not low (03 R75). -/
def State.upwiresHigh (s : State) (n : Nat) : State := if s.portMayRise n then s.bump (K.upwireWaits n) else s

/-- APn_AALIVE has been low for 200 ticks (03 R74): the port is dead; a refusal no longer bars it. -/
def State.aaliveFalls (s : State) (n : Nat) : State :=
  ((s.portDies n).modLink (portLink n) (fun e => { e with barred := false })).modPort n (fun p => { p with alive := false })

/-- A shorter low of APn_AALIVE (03 R74). -/
def State.aaliveGlitches (s : State) (n : Nat) : State := if s.pd (portDomain n) then s.bump (K.aaliveGlitches n) else s

/-- No DESCRIBE in time (04 R110). -/
def State.describeLate (s : State) (n : Nat) : State :=
  if (s.link (portLink n)).phase = .up ∧ (s.port n).mode = .awaitDescribe then s.portBringupFails n else s

/-- A HOME_MAP is not acknowledged in time (04 R127, 15 R389): the port is dead; lines of buckets being taken are lost uncounted by any
catalogue, so ORPHAN_LOST takes a free number (assumption 3). -/
def State.mapLate (s : State) (n : Nat) : State :=
  match (s.port n).map with
  | none => s
  | some m =>
    let s := if m.why = .take ∨ (s.port n).mapNext = some .take then s.free.1.addObj K.orphanLost (s.free.2 % 0x100000000) else s
    s.portFails n

/-! Archive links. -/

/-- May MLn_RDYO rise (09 R232)? -/
def State.mlMayRise (s : State) (k : Nat) : Bool :=
  let e := s.link (archLink k)
  s.mlMode && !s.dead && s.mlEnabled k && !(s.objBit K.fenceMl k) && e.phase == .down && !e.backoff && !e.barred

/-- MLn_RDYO rises. -/
def State.mlRises (s : State) (k : Nat) : State :=
  if s.mlMayRise k then (s.modLink (archLink k) (·.raised (s.ownReach (archLink k)))).mlTo k .bringup else s

/-- Both ready wires are high: LINK_HELLO is sent (09 R232). -/
def State.mlBothReady (s : State) (k : Nat) : State :=
  let e := s.link (archLink k)
  if (e.phase == .hello || e.phase == .refused) && !e.helloSent then
    ((s.modMl k (fun m => { m with rdyi := true })).sendHello (archLink k)).helloEnds (archLink k)
  else s

/-- ML_DESCRIBE: the link serves, or its bring-up fails (09 R232, R233). A later ML_DESCRIBE changes nothing. -/
def State.mlDescribed (s : State) (k tags siMax : Nat) (dual : Bool) : State :=
  if !(s.ml k).describable then s
  else if 16 < siMax || (!dual && (s.partner k).isSome) then s.mlBringupFails k
  else
    let s := s.modMl k (fun m => { m with
      describable := false, tags := tags, siMax := siMax, dual := dual, expired := false, away := false })
    (s.setObj (K.mlTags k) tags).mlTo k .serving

/-- MLn_RDYI falls (09 R232, R250): a link that serves fails, one in bring-up fails its bring-up, and a refusal no longer bars the link.
DEDUCED (assumption 46): no row carries the rise of MLn_RDYI alone, so ML_RDYO_RAISE after a refusal says that it has risen again. -/
def State.mlRdyiFalls (s : State) (k : Nat) : State :=
  let s := s.modMl k (fun m => { m with rdyi := false })
  let s := if s.mlServes k then s.mlFails k
    else
      match (s.link (archLink k)).phase with
      | .up | .leaving => s.mlBringupFails k
      | .hello => if (s.link (archLink k)).helloSent then s.mlBringupFails k else s
      | .refused => (s.mlLower k).mlTo k .down
      | .down => s
  s.modLink (archLink k) (fun e => { e with barred := false })

/-- ML_DOWN_LIMIT has passed since the failure of a link whose partner does not serve (09 R251). -/
def State.mlExpires (s : State) (k : Nat) : State :=
  let st := (s.ml k).state
  if s.mlMode && !s.dead && (st == .down || st == .bringup) && !s.partnerServes k && !(s.ml k).expired then
    (s.modMl k (fun m => { m with expired := true })).bump (K.mlDownExpiries k)
  else s

/-! The pair link. -/

/-- PL_RDYO rises under the mode conditions (03 R91, 15 R396). -/
def State.plRises (s : State) : State :=
  if s.plMayRise && !(s.link .pair).backoff && !(s.link .pair).barred then s.plRise.helloEnds .pair else s

/-- 500 ticks after a failure of the pair link (15 R392). -/
def State.plRestarts (s : State) : State :=
  if (s.link .pair).backoff then
    let s := s.modLink .pair (fun e => { e with backoff := false })
    if s.plMayRise && !(s.link .pair).barred then s.plRise else s
  else s

/-- PL_RDYI rises (03 R91). -/
def State.plRdyiRises (s : State) : State :=
  let s : State := { s with pair := { s.pair with rdyi := true } }
  let e := s.link .pair
  if (e.phase == .hello || e.phase == .refused) && !e.helloSent then (s.sendHello .pair).helloEnds .pair else s

/-- PL_RDYI falls (15 R392): the partner restarts its link or is lost; this unit lowers PL_RDYO as well. -/
def State.plRdyiFalls (s : State) : State :=
  let s : State := { s with pair := { s.pair with rdyi := false } }
  let s := if s.ready .pair then
      let s := s.pairLower
      if s.pair.state = 2 ∨ s.pair.state = 5 ∨ s.pair.state = 4 then s.pairTo 1 else s
    else s
  s.modLink .pair (fun e => { e with barred := false })

/-- PL_RDYI has been low for PAIR_LOSS_TIME (15 R392). -/
def State.plLoss (s : State) : State := if s.pair.rdyi then s else s.partnerLost 2

/-- A message of the pair link arrives and is acted on (15 R386). -/
def State.recvPair (s : State) (m : PairMsg) (tid : Tid) (rx : Rx) (f : State → State) : State :=
  s.recv8 .pair (m.symbols tid) rx f

end Sys2Proof.Machine
end

