-- ==== Sys2Proof/Machine/PortOps.lean ====
section
/-! DEFINITION. What a port does with the requests it has taken: translation and its cache (10 R263 to R271), admission (05 R141, R142),
the store buffer (02 R28 to R33), barriers (02 R35, R51), device and console accesses (02 R23 to R27; 09 R243, R254; 10 R276, R277) and
orphan write-backs (04 R107). Requests are performed in the order they were received. -/

namespace Sys2Proof.Machine

/-! What a port takes part in. -/

/-- Is every request that may be answered PARKED answered so (14 R362, R363, R364; 15 R381)? -/
def State.parked (s : State) : Bool :=
  s.trans == .toPark || s.trans == .toRetain || s.mode == .park || s.mode == .retain || s.mode == .drain

/-- Requests of the write class (02 R53). -/
def ReqOp.writes : ReqOp → Bool
  | .readOwn | .upgrade | .putPartial | .putLine | .zeroLine | .loadReserve | .storeCond => true
  | .readShared | .readUnc | .writeback => false

/-- Requests that only NORMAL-WB pages take (04 R106). -/
def ReqOp.coherent : ReqOp → Bool
  | .readShared | .readOwn | .upgrade | .zeroLine | .loadReserve | .storeCond => true
  | .readUnc | .putPartial | .putLine | .writeback => false

/-- The line of a partition address as far as its bucket goes (04 R127). -/
def Req.line (r : Req) : Nat := r.pa / 64

/-- Is the unit home for a line as far as a request goes: as the port sees it now, or, for a request that was outstanding when its
bucket began to be given away, as long as the unit is home at all (04 R127 and its corner). In Drain every request for a bucket of the
unit is answered HOME_LOST once the partner takes over (15 R381 step 2). -/
def State.homeFor (s : State) (n : Nat) (r : Req) (line : Nat) : Bool :=
  s.isHome n line || (r.mine && s.mode != .drain && s.homeNow.getLsbD (bucketOf line))

/-- A request is no longer the port's; a LOAD_RESERVE ends the port's reservation, however it is answered (02 R45). -/
def State.takeOut (s : State) (n : Nat) (r : Req) : State :=
  s.modPort n (fun p => { p with
    reservation := if r.op = .loadReserve then none else p.reservation
    waiting := p.waiting.filter (fun x => x.seq != r.seq)
    walk := match p.walk with
      | some w => if w.req.seq = r.seq then none else some w
      | none => none })

/-- Change a waiting request. -/
def State.modReq (s : State) (n : Nat) (r : Req) (f : Req → Req) : State :=
  s.modPort n (fun p => { p with waiting := p.waiting.map (fun x => if x.seq = r.seq then f x else x) })

/-- A STORE_COND is answered otherwise than OK: it is counted, and the reservation ends (02 R45, R55). -/
def State.condFails (s : State) (n : Nat) : State := (s.bump (K.scFail n)).modPort n (fun p => { p with reservation := none })

/-- Answer a waiting request with a status that carries no fields. -/
def State.turnAway (s : State) (n : Nat) (r : Req) (status : Nat) : State :=
  let s := if r.op = .storeCond then s.condFails n else s
  (s.takeOut n r).refuse n r.tid r.epoch r.op.resp status

/-- PERMISSION_FAULT (13 R351). -/
def State.permFault (s : State) (n : Nat) (r : Req) : State := (s.bump (K.permFaults n)).turnAway n r 7

/-- The port enters Held: its reservation ends and event 6 is raised (02 R45, 13 R340). -/
def State.toHeld (s : State) (n : Nat) : State :=
  (s.modPort n (fun p => { p with fence := .held, discardAfter := none, reservation := none })).raisePS (s.partOf n) 6 n n

/-! Barriers. -/

/-- Has every access before a barrier reached its PORT and PARTITION completion point (02 R34)? -/
def PortSt.nearBefore (p : PortSt) (seq : Nat) : Bool := p.accesses.all (fun a => seq ≤ a.seq || a.near)

/-- Has every access before a place reached both completion points? -/
def PortSt.doneBefore (p : PortSt) (seq : Nat) : Bool := p.accesses.all (fun a => seq ≤ a.seq)

/-- Answer a barrier. -/
def State.answerBarrier (s : State) (n : Nat) (b : Barrier) (status : Nat) : State :=
  s.respondNow n { op := .complete, tid := b.tid, status := status }

/-- A barrier leaves the port's list. -/
def State.dropBarrier (s : State) (n : Nat) (b : Barrier) : State :=
  s.modPort n (fun p => { p with barriers := p.barriers.erase b })

/-- What one barrier can do now (02 R35, R51, R53): an unanswered one is answered when its scope allows, FENCE_BROKEN or HELD; an
answered PORT barrier goes when everything before it is complete. -/
def State.barrierStep (s : State) (n : Nat) (b : Barrier) : Option State :=
  let p := s.port n
  if b.answered then (if p.doneBefore b.seq then some (s.dropBarrier n b) else none)
  else
    match p.fence with
    | .held => some (((s.dropBarrier n b).bump (K.heldRefusals n)).answerBarrier n b 10)
    | .pending => some (((s.dropBarrier n b).toHeld n).answerBarrier n b 11)
    | .normal =>
      let ok := fun (s : State) => (s.bump (K.barriersOk n)).answerBarrier n b 0
      match b.scope with
      | .port => some (ok (s.modPort n (fun p => { p with
          barriers := p.barriers.map (fun x => if x = b then { x with answered := true } else x) })))
      | .partition => if p.nearBefore b.seq then some (ok (s.dropBarrier n b)) else none
      | .system => if p.doneBefore b.seq then some (ok (s.dropBarrier n b)) else none

/-- The first barrier of a port that can do something. -/
def State.barrierWork (s : State) (n : Nat) : Option State := (s.port n).barriers.findSome? (fun b => s.barrierStep n b)

/-- May a later access be performed: is no barrier and no DEV-S or console access in its way (02 R24, R35)? -/
def State.gateOpen (s : State) (n seq : Nat) : Bool :=
  let p := s.port n
  p.barriers.all (fun b => seq ≤ b.seq || (b.answered && p.nearBefore b.seq)) &&
    !(p.accesses.any (fun a => a.seq < seq && !a.near && (match a.key with
      | .dev _ => true
      | .load _ | .store _ | .wb _ => false))) && !(s.due.any (fun x => x.1.isOf n))

/-! The translation cache (10 R270). -/

/-- Does a tag word match a partition address? -/
def tcMatches (w : Word) (pa : Nat) : Bool :=
  w.getLsbD 20 && (if w.getLsbD 21 then (w.extractLsb' 10 10).toNat == pa / 2 ^ 22 else (w.extractLsb' 0 20).toNat == pa / 2 ^ 12)

/-- An entry of the cache becomes invalid. -/
def State.tcDrop (s : State) (n i : Nat) : State :=
  ((s.setWord 3 n (2 * i) 0).setWord 3 n (2 * i + 1) 0).modPort n (fun p => { p with tcOrder := p.tcOrder.erase i })

/-- Look an address up among the entries: the level-1 block entry or level-2 entry found. An uncorrectable word invalidates its entry
(08 R217). -/
def State.tcFind (s : State) (n pa : Nat) : List Nat → State × Option (Bool × Word)
  | [] => (s, none)
  | i :: rest =>
    match s.readWord 3 n (2 * i) with
    | (s, none) => (s.tcDrop n i).tcFind n pa rest
    | (s, some w) =>
      if tcMatches w pa then
        match s.readWord 3 n (2 * i + 1) with
        | (s, none) => (s.tcDrop n i).tcFind n pa rest
        | (s, some e) => (s, some (w.getLsbD 21, e))
      else s.tcFind n pa rest

/-- Install an entry: a free place, or that of the oldest. -/
def State.tcInstall (s : State) (n pa : Nat) (block : Bool) (e : Word) : State :=
  let order := (s.port n).tcOrder
  let i := ((List.range 64).find? (fun i => !(order.contains i))).getD (order.headD 0)
  let tag := if block then pa / 2 ^ 22 * 2 ^ 10 + 2 ^ 20 + 2 ^ 21 else pa / 2 ^ 12 + 2 ^ 20
  ((s.setWord 3 n (2 * i) (BitVec.ofNat 32 tag)).setWord 3 n (2 * i + 1) e).modPort n (fun p => { p with
    tcOrder := p.tcOrder.erase i ++ [i] })

/-- What an entry gives for an address: system address, type code and WRITE (10 R264 to R266). -/
def entryResult (block : Bool) (e : Word) (pa : Nat) : Nat × Nat × Bool :=
  let frame := if block then (e.extractLsb' 10 18).toNat * 2 ^ 10 + pa / 2 ^ 12 % 2 ^ 10 else (e.extractLsb' 0 28).toNat
  (frame * 2 ^ 12 + pa % 2 ^ 12, (e.extractLsb' 28 2).toNat, if block then e.getLsbD 9 else e.getLsbD 30)

/-! Admission and walks. -/

/-- Admission of a drain or a walk, which no agent hears of: refused with a credit it is tried again with it at once, refused without
one it waits (10 R267). -/
def State.admitHeld (s : State) (q n line : Nat) : Option (State × Entry) :=
  let h := s.sliceOf line
  let withCredit := match s.issueCredit h n line with
    | (_, none) => (none : Option (State × Entry))
    | (s, some tok) =>
      match s.judge h q n line (some tok) with
      | .admitted e => some (s.useCredit h e, e)
      | .qos | .conflict | .resource => none
  match s.judge h q n line none with
  | .admitted e => some (s, e)
  | .qos => none
  | .conflict => withCredit
  | .resource => withCredit

/-- A translation faults (10 R269). An orphan write-back that faults loses its data: a line is written back with poison and logged (04
R107, 13 R346); the spec names no system address for it, so the line is free (assumption 3). -/
def State.translationFault (s : State) (n : Nat) (r : Req) (cause : Nat) : State :=
  let q := s.partOf n
  let s := (s.setObj (K.faultPa q) r.pa).setObj (K.faultInfo q) (n + cause * 256)
  let s := (s.bump (K.faultCount q)).raisePS q 12 r.pa n
  let s := s.turnAway n r 6
  if r.op = .writeback then
    match s.free with
    | (s, v) => s.newTxnFirst { id := 0, kind := .poison, line := v % 2 ^ 34, slice := s.sliceOf (v % 2 ^ 34), port := n, part := q,
                                entry := .waiting, lost := some (n, 3), mask := fullMask }
  else s

/-- A walk is to read an entry: device regions and the console window fault (10 R266). -/
def State.walkAt (s : State) (n : Nat) (w : Walk) : State :=
  if s.inConsole w.addr || (s.region w.req.epoch w.addr).isSome then s.translationFault n w.req 4
  else s.modPort n (fun p => { p with walk := some w })

/-- A translation-cache miss: the walk begins with the level-1 entry (10 R266). -/
def State.startWalk (s : State) (n : Nat) (r : Req) : State :=
  let q := s.partOf n
  let addr := s.objAt r.epoch (K.ttBase q) + r.pa / 2 ^ 22 * 4
  (s.bump (K.tcMisses q)).walkAt n { req := r, addr := addr, install := r.epoch == (s.port n).epoch }

/-- A walk whose read has not been admitted asks again (10 R267); the read of a line of a bucket that is being moved waits (05 R133). -/
def State.walkIssue (s : State) (n : Nat) : Option State :=
  match (s.port n).walk with
  | none => none
  | some w =>
    let line := w.addr / 64
    if w.txn.isSome || s.moveHolds line then none
    else
      match s.admitHeld (s.partOf n) n line with
      | none => none
      | some (s, e) =>
        let id := s.nextTxn
        let s := s.newTxn { id := 0, kind := .walk, line := line, slice := s.sliceOf line, port := n, pa := w.addr, part := s.partOf n,
                            epoch := w.req.epoch, entry := e }
        some ((s.modPort n (fun p => { p with walk := some { w with txn := some id } })).peak (s.sliceOf line))

/-- The walk has found its answer. -/
def State.walkFinds (s : State) (n : Nat) (w : Walk) (block : Bool) (e : Word) : State :=
  let s := if w.install then s.tcInstall n w.req.pa block e else s
  (s.modPort n (fun p => { p with walk := none })).modReq n w.req (fun r => { r with found := some (entryResult block e r.pa) })

/-- A walk's entry is judged (10 R264 to R266). -/
def State.walkJudge (s : State) (n : Nat) (w : Walk) (e : Word) : State :=
  if w.second then
    if !e.getLsbD 31 then s.translationFault n w.req 2 else s.walkFinds n w false e
  else if !e.getLsbD 31 then s.translationFault n w.req 1
  else if e.getLsbD 30 then
    if e.extractLsb' 0 9 != 0 then s.translationFault n w.req 3 else s.walkFinds n w true e
  else if e.extractLsb' 28 2 != 0 then s.translationFault n w.req 3
  else
    s.walkAt n { w with second := true, txn := none, addr := (e.extractLsb' 0 28).toNat * 2 ^ 12 + w.req.pa / 2 ^ 12 % 2 ^ 10 * 4 }

/-- WALK_READ_DONE: the read of a walk has returned (10 R266). -/
def State.walkDone (s : State) (n : Nat) : State :=
  match (s.port n).walk with
  | none => s
  | some w =>
    match w.txn.bind s.txn with
    | none => s
    | some t =>
      if t.phase ≠ .done then s
      else
        let s := s.endTxn t.id
        if t.poisoned then s.translationFault n w.req 5
        else s.walkJudge n w ((shiftOut t.data (w.addr % 64)).extractLsb' 0 32)

/-- A walk that no port waits for any more ends. -/
def State.walkOrphaned (s : State) (t : Txn) : Bool :=
  t.kind == .walk && t.phase == .done && !(match (s.port t.port).walk with
    | some w => w.txn == some t.id
    | none => false)

/-- What the translation of a request gives. -/
inductive Xlate where
  | at (sa ty : Nat) (write : Bool)
  | walks            -- a walk is needed, or runs
deriving DecidableEq, Repr

/-- Translate a request's address (10 R263, R270). -/
def State.translate (s : State) (n : Nat) (r : Req) : State × Xlate :=
  match r.found with
  | some (sa, ty, w) => (s, .at sa ty w)
  | none =>
    let q := s.partOf n
    if s.objAt r.epoch (K.ttMode q) = 1 then
      if r.pa < 0xFF000000 then (s, .at (s.objAt r.epoch (K.flatBase q) + r.pa) (s.objAt r.epoch (K.mtDefault q)) true)
      else (s, .at (s.inForce.console + (r.pa - 0xFF000000)) 2 true)
    else if (s.port n).walk.isSome || r.epoch != (s.port n).epoch then (s, .walks)
    else
      match s.tcFind n r.pa (s.port n).tcOrder with
      | (s, some (block, e)) =>
        (match entryResult block e r.pa with
        | (sa, ty, w) => (s, .at sa ty w))
      | (s, none) => (s, .walks)

/-! Normal requests. -/

/-- The transaction of a request. -/
def ReqOp.kind : ReqOp → TxnKind
  | .readShared => .readShared | .readOwn => .readOwn | .upgrade => .upgrade | .zeroLine => .zeroLine | .loadReserve => .loadReserve
  | .storeCond => .storeCond | .readUnc => .readUnc | .writeback => .orphan | .putPartial => .drain | .putLine => .drain

/-- Refuse with a RETRY status and its token (04 R96, R97; 05 R142; 10 R285). -/
def State.retryAnswer (s : State) (n : Nat) (r : Req) (status : Nat) (token : Option Nat) : State :=
  ((s.bump (K.retriesSent n)).takeOut n r).respond n
    { op := r.op.resp, tid := r.tid, epoch := r.epoch, status := status, bit4 := token.isSome, token := token }

/-- The transaction of a request, before it has an entry. -/
def State.reqTxn (s : State) (n : Nat) (r : Req) (line : Nat) (e : Entry) : Txn :=
  { id := 0, kind := r.op.kind, line := line, slice := s.sliceOf line, port := n, tid := r.tid, pa := r.pa, part := s.partOf n,
    epoch := r.epoch, entry := e, size := r.size, stream := r.stream }

/-- Slice admission of a request that may be refused (05 R141, R142; 10 R282, R285). -/
def State.admitReq (s : State) (n : Nat) (r : Req) (line : Nat) : State :=
  let q := s.partOf n
  let h := s.sliceOf line
  match s.judge h q n line r.token with
  | .admitted e =>
    let s := (s.useCredit h e).takeOut n r
    (s.newTxn (s.reqTxn n r line e)).peak h
  | .qos => (s.bump (K.refusedQos q)).retryAnswer n r 4 none
  | .conflict =>
    (match ((s.bump (K.refusedConflict h)).bump (K.qosRefusedConflict q)).issueCredit h n line with
    | (s, tok) => s.retryAnswer n r 2 tok)
  | .resource =>
    (match ((s.bump (K.refusedResource h)).bump (K.qosRefusedResource q)).issueCredit h n line with
    | (s, tok) => s.retryAnswer n r 3 tok)

/-- The line of the entries of a store buffer. -/
def PortSt.buffered (p : PortSt) (line : Nat) : List SbEntry := p.sb.filter (fun e => e.line == line)

/-- A coherent request at the home: STORE_COND is never refused (05 R140), but one that came before the COMP_ACK of its LOAD_RESERVE
fails (04, corners of R115). Entries of the line drain first (02 R31). -/
def State.coherentAt (s : State) (n : Nat) (r : Req) (line : Nat) : Option State :=
  let l := (s.port n).buffered line
  if r.op = .storeCond ∧ r.early = true then some ((s.bump (K.retriesSent n)).turnAway n r 2)
  else if l.any (·.isOpen) then some (s.drainLine n line)
  else if !l.isEmpty then none
  else if r.op = .storeCond then some ((s.takeOut n r).newTxn (s.reqTxn n r line .waiting))
  else some (s.admitReq n r line)

/-- A READ_UNC of Normal memory: forwarded from the store buffer, held behind the entries of a partial overlap that there are now, or
read at the home (02 R33). DEDUCED (assumption 30): with no overlapping byte the buffer plays no part and nothing is drained. -/
def State.readUncAt (s : State) (n : Nat) (r : Req) (line : Nat) : Option State :=
  let l := (s.port n).buffered line
  let want := byteRange (r.pa % 64) (2 ^ r.size)
  let have_ := l.foldl (fun (m : Mask64) e => m ||| e.mask) 0 &&& want
  if have_ = 0 then some (s.admitReq n r line)
  else if have_ = want then
    let data := l.foldl (fun (d : Line) e => overlay d e.data e.mask) 0
    some (((s.bump (K.sbForwards n)).takeOut n r).respond n
      { op := .rdata, tid := r.tid, epoch := r.epoch, size := r.size, data := shiftOut data (r.pa % 64) })
  else some (((s.bump (K.sbPartialWaits n)).drainLine n line).modReq n r (fun r => { r with behind := some (line, l.map (·.id)) }))

/-- The lowest free place of a store buffer. -/
def PortSt.freeSlot (p : PortSt) : Nat := ((List.range 16).find? (fun i => !(p.sb.any (fun e => e.slot == i)))).getD 0

/-- A store is accepted: merged into an open entry or placed in a new one, and answered (02 R28, R29). Behind a later barrier the entry
drains at once (R31). -/
def State.acceptStore (s : State) (n : Nat) (r : Req) (line : Nat) : State :=
  let p := s.port n
  let late := p.barriers.any (fun b => r.seq < b.seq)
  let ok := fun (s : State) => (s.takeOut n r).respond n { op := .complete, tid := r.tid, epoch := r.epoch }
  match p.sb.find? (fun e => e.line == line && e.isOpen) with
  | some e =>
    ok (s.modPort n (fun p => { p with
      sb := p.sb.map (fun x => if x.id = e.id then
        { x with mask := x.mask ||| r.mask, data := overlay x.data r.data r.mask, isOpen := !late } else x)
      accesses := p.accesses ++ [{ seq := r.seq, key := .store e.id }] }))
  | none =>
    let e : SbEntry := { slot := p.freeSlot, id := r.seq, line := line, mask := r.mask, data := r.data, isOpen := !late,
                         part := s.partOf n, epoch := r.epoch }
    ok (s.modPort n (fun p => { p with sb := p.sb ++ [e], accesses := p.accesses ++ [{ seq := r.seq, key := .store r.seq }] }))

/-- Drain the oldest open entry of a full store buffer (02 R30). -/
def State.drainOldest (s : State) (n : Nat) : State :=
  match (s.port n).sb.find? (·.isOpen) with
  | none => s
  | some e => s.modPort n (fun p => { p with sb := p.sb.map (fun x => if x.id = e.id then { x with isOpen := false } else x) })

/-- Is a store of this place discarded: the port is fence-pending and a PORT barrier after the lost store came before it (02 R51 step
2)? -/
def PortSt.discards (p : PortSt) (seq : Nat) : Bool :=
  p.fence == .pending && (match p.discardAfter with
    | some b => b < seq
    | none => false)

/-- A store is accepted and discarded (02 R51 step 2; 13 R339). -/
def State.discardStore (s : State) (n : Nat) (r : Req) : State :=
  ((s.bump (K.fenceDiscards n)).takeOut n r).respond n { op := .complete, tid := r.tid, epoch := r.epoch }

/-- A store to Normal memory (02 R28 to R30, R51 step 2). -/
def State.storeAt (s : State) (n : Nat) (r : Req) (line : Nat) : Option State :=
  let p := s.port n
  if p.discards r.seq then some (s.discardStore n r)
  else if p.sb.length < 16 || p.sb.any (fun e => e.line == line && e.isOpen) then some (s.acceptStore n r line)
  else if !r.stalled then
    some (((s.bump (K.sbFullStalls n)).drainOldest n).modReq n r (fun r => { r with stalled := true }))
  else none

/-! Device and console accesses. -/

/-- A strict access must wait: the store buffer drains and every earlier access completes (02 R24). -/
def State.strictWaits (s : State) (n : Nat) (r : Req) : Option (Option State) :=
  let p := s.port n
  if p.sb.any (·.isOpen) then some (some (s.drainAll n))
  else if !p.sb.isEmpty || !(p.doneBefore r.seq) then some none
  else none

/-- FENCE_BROKEN to a DEV-S access of a fence-pending port (02 R51 step 4). -/
def State.devBroken (s : State) (n : Nat) (r : Req) : State := (s.toHeld n).turnAway n r 11

/-- The packet of a device access (09 R237). -/
def devPacket (r : Req) (sa : Nat) (strict : Bool) : ArchPkt :=
  match r.op with
  | .readUnc => { op := .devRd, addr := sa, size := r.size, locked := r.locked, strict := strict }
  | .putPartial =>
    { op := .devWr, addr := sa, size := 3, locked := r.locked, strict := strict,
      mask := r.mask >>> (sa % 64), data := shiftOut r.data (sa % 64) }
  | .readShared | .readOwn | .upgrade | .putLine | .zeroLine | .loadReserve | .storeCond | .writeback =>
    { op := .devWr, addr := sa, size := 6, locked := r.locked, strict := strict, mask := fullMask, data := r.data }

/-- A device access goes to its link's queue (02 R24, R25; 09 R254). -/
def State.devIssue (s : State) (n : Nat) (r : Req) (k sa : Nat) (strict : Bool) : State :=
  let kc := s.devCarrier r.epoch k sa
  let s := s.takeOut n r
  let s := s.modPort n (fun p => { p with accesses := p.accesses ++ [{ seq := r.seq, key := .dev r.seq, near := !strict }] })
  let s := if r.op = .readUnc then
      s.modMl kc (fun m => { m with devOrder := m.devOrder ++ [{ port := n, tid := r.tid, id := r.seq }] })
    else s
  let s := s.archQueue kc { who := .dev n r.tid r.seq, pkt := devPacket r sa strict, part := s.partOf n, seq := r.seq }
  if r.op ≠ .readUnc ∧ strict = false then s.respond n { op := .complete, tid := r.tid, epoch := r.epoch } else s

/-- A device access by its type: its loan, its order, and its link (02 R23 to R26, 04 R123, 09 R243, R254). A posted write is a store
that a fence-pending port may discard (02 R51 step 2; 13 R338, R340). -/
def State.deviceAt (s : State) (n : Nat) (r : Req) (k sa : Nat) (strict : Bool) : Option State :=
  if r.locked && (s.ml (s.devCarrier r.epoch k sa)).owner != some n then some (s.turnAway n r 9)
  else if strict && (s.port n).fence == .pending then some (s.devBroken n r)
  else if !strict && r.op != .readUnc && (s.port n).discards r.seq then some (s.discardStore n r)
  else
    let go := fun (s : State) =>
      if !s.mlEnabled k then
        (s.takeOut n r).deviceAnswer n k { op := r.op.resp, tid := r.tid, epoch := r.epoch, status := 8 }
      else s.devIssue n r k sa strict
    if strict then
      match s.strictWaits n r with
      | some x => x
      | none => some (go s)
    else some (go (s.drainAll n))

/-- Is the access one that the console window takes: a 4-byte READ_UNC, or a PUT_PARTIAL of one aligned word (10 R277)? Answers the
offset of the word inside the access. -/
def consoleShape (r : Req) : Option Nat :=
  match r.op with
  | .readUnc => if r.size = 2 then some 0 else none
  | .putPartial =>
    let m := (r.mask >>> (r.pa % 64)).toNat
    if m = 0x0F then some 0 else if m = 0xF0 then some 4 else none
  | .readShared | .readOwn | .upgrade | .putLine | .zeroLine | .loadReserve | .storeCond | .writeback => none

/-- A console access is performed (10 R277, R278): a write is answered once its effect has been applied. -/
def State.consoleDo (s : State) (n : Nat) (r : Req) (sa skip : Nat) : State :=
  let q := s.conPage sa
  let off := (sa - s.inForce.console) % 0x10000 + skip
  let s := s.takeOut n r
  if r.op = .readUnc then
    match s.conRead n q off with
    | (s, v) => s.respond n { op := .rdata, tid := r.tid, epoch := r.epoch, size := 2, data := BitVec.ofNat 512 v }
  else
    match s.conWrite n q off ((shiftOut r.data (r.pa % 64 + skip)).toNat % 2 ^ 32) with
    | (s, .no) => s.respond n { op := .complete, tid := r.tid, epoch := r.epoch }
    | (s, w) => { s with due := s.due ++ [(.complete n r.tid, w)] }

/-- A console access: shape, loan, fence and DEV-S order (02 R27, 10 R276, R277). -/
def State.consoleAt (s : State) (n : Nat) (r : Req) (sa : Nat) : Option State :=
  match consoleShape r with
  | none => some (s.permFault n r)
  | some skip =>
    if r.locked then some (s.turnAway n r 9)
    else if (s.port n).fence == .pending then some (s.devBroken n r)
    else
      match s.strictWaits n r with
      | some x => x
      | none => some (s.consoleDo n r sa skip)

/-! One request. -/

/-- Is the line one that an earlier load of the port still waits to read behind a partial overlap (02 R33, R41)? -/
def PortSt.behindLoad (p : PortSt) (r : Req) (line : Nat) : Bool :=
  p.waiting.any (fun x => x.seq < r.seq && (x.behind.map (·.1)) == some line)

/-- A Normal access at its home (04 R106, R127; 05 R133; 15 R389). Stores pass a load of their line that waits behind a partial overlap;
nothing else does. -/
def State.normalAt (s : State) (n : Nat) (r : Req) (line : Nat) : Option State :=
  if !s.homeFor n r line then some (s.turnAway n r 12)
  else if s.isTaking line || s.moveHolds line then none
  else if !(r.op == .putPartial || r.op == .putLine) && (s.port n).behindLoad r line then none
  else
    match r.op with
    | .readUnc => s.readUncAt n r line
    | .putPartial | .putLine => s.storeAt n r line
    | .readShared | .readOwn | .upgrade | .zeroLine | .loadReserve | .storeCond | .writeback => s.coherentAt n r line

/-- A translated request: the checks in their order (10 R268; 04 R106, R123; 02 R21, R27), then the access. -/
def State.performAt (s : State) (n : Nat) (r : Req) (sa ty : Nat) (write : Bool) : Option State :=
  let con := s.inConsole sa
  if con && !s.reaches n (s.conPage sa) then some (s.permFault n r)
  else if r.op.writes && !write then some (s.permFault n r)
  else if r.op.coherent && (con || ty != 0) then some (s.permFault n r)
  else if con then (if s.parked then some (s.turnAway n r 13) else s.consoleAt n r sa)
  else
    match s.region r.epoch sa with
    | some k =>
      if ty < 2 then some (s.permFault n r)
      else if s.parked then some (s.turnAway n r 13)
      else s.deviceAt n r k sa (ty == 2)
    | none => if 2 ≤ ty || r.locked then some (s.permFault n r) else s.normalAt n r (sa / 64)

/-- The first request of a port: what can be answered without translation, the barriers before it, then its translation and the access
(04 R104, R127; 02 R35, R53). -/
def State.runHead (s : State) (n : Nat) (r : Req) : Option State :=
  let home := s.homeFor n r r.line
  if r.op.coherent && !home then some (s.turnAway n r 12)
  else if s.parked && home then some (s.turnAway n r 13)
  else if !s.gateOpen n r.seq then none
  else if r.op.writes && (s.port n).fence == .held then some ((s.bump (K.heldRefusals n)).turnAway n r 10)
  else
    match s.translate n r with
    | (s, .at sa ty w) => s.performAt n r sa ty w
    | (s, .walks) => if (s.port n).walk.isSome then none else some (s.startWalk n r)

/-- Does a snoop of the line to the port cross its write-back (04 R121)? -/
def State.crosses (s : State) (n line : Nat) : Bool :=
  s.txns.any (fun t => t.line == line && (t.asked.contains n || t.wbFrom.contains n))

/-- A write-back whose line is known is in the hub: it clears the reservations on its granule (02 R45) and starts the drain of the
line's buffered stores (02 R31; assumption 74), and it goes to the head of its line's queue (05 R153). On a lone hub COMPLETE leaves at
once, since the hub holds the data (04 R118); one that a snoop crosses is completed first, and so is one of a pair (04 R121, 15
R388; DEDUCED, assumption 87). -/
def State.takeBack (s : State) (n : Nat) (t : Txn) (seq : Nat) : State :=
  let s := ((s.clearReservations t.line).drainLine n t.line).modPort n (fun p => { p with
    accesses := p.accesses ++ [{ seq := seq, key := .wb t.line, near := true }] })
  let told := !s.paired && !(s.crosses n t.line)
  let t : Txn := { t with told := told, mask := fullMask, heldAt := if s.holdsData n seq t.line then some seq else none }
  let s := if told then s.respond n { op := .complete, tid := t.tid, epoch := t.epoch } else s
  s.newTxnFirst t

/-- An orphan write-back has its translation: it is performed as it arrives (04 R107, 15 R389). -/
def State.orphanAt (s : State) (n : Nat) (r : Req) (line : Nat) : State :=
  (s.takeOut n r).takeBack n { s.reqTxn n r line .waiting with data := r.data } r.seq

/-- The next orphan write-back; it waits only for a walk under way. -/
def State.runOrphan (s : State) (n : Nat) (r : Req) : Option State :=
  match s.translate n r with
  | (s, .at sa _ _) => some (s.orphanAt n r (sa / 64))
  | (s, .walks) => if (s.port n).walk.isSome then none else some (s.startWalk n r)

/-- A load whose overlapping entries have become visible reads through the home slice (02 R33). -/
def State.runBehind (s : State) (n : Nat) : Option State :=
  let p := s.port n
  match p.waiting.find? (fun r => match r.behind with
    | some (_, ids) => !(p.sb.any (fun e => ids.contains e.id))
    | none => false) with
  | none => none
  | some r =>
    let line := (r.behind.getD (0, [])).1
    if !s.homeFor n r line then some (s.turnAway n r 12)
    else if s.isTaking line || s.moveHolds line then none
    else some (s.admitReq n r line)

/-- The next request of a port: orphan write-backs, which no barrier holds, go first, then loads whose wait behind a partial overlap is
over. -/
def State.requestWork (s : State) (n : Nat) : Option State :=
  let orphan := match (s.port n).waiting.find? (fun r => r.op == .writeback) with
    | some r => s.runOrphan n r
    | none => none
  match orphan with
  | some s' => some s'
  | none =>
    match s.runBehind n with
    | some s' => some s'
    | none =>
      match (s.port n).waiting.find? (fun r => r.op != .writeback && r.behind.isNone) with
      | some r => s.runHead n r
      | none => none

/-! The store buffer at work. -/

/-- The first entry that is to drain and has no drain yet is sent to its home slice (02 R28, R31; 10 R267). -/
def State.drainWork (s : State) (n : Nat) : Option State :=
  match (s.port n).sb.find? (fun e => !e.isOpen && !(s.txns.any (fun t => t.kind == .drain && t.port == n && t.aux == e.id))) with
  | none => none
  | some e =>
    if s.moveHolds e.line then none
    else
      match s.admitHeld e.part n e.line with
      | none => none
      | some (s, entry) =>
        some ((s.newTxn { id := 0, kind := .drain, line := e.line, slice := s.sliceOf e.line, port := n, pa := 0, part := e.part,
                          epoch := e.epoch, entry := entry, mask := e.mask, data := e.data, aux := e.id }).peak (s.sliceOf e.line))

/-- STORE_DRAIN_VISIBLE: the drain of an entry becomes the owner of its line (05 R144). -/
def State.drainVisible (s : State) (n slot : Nat) : State :=
  match (s.port n).sb.find? (fun e => e.slot == slot) with
  | none => s
  | some e =>
    match s.txns.find? (fun t => t.kind == .drain && t.port == n && t.aux == e.id) with
    | none => s
    | some t => if s.canOwn t then s.startOwner t else s

/-- An entry reaches SB_DRAIN_AGE (02 R31, R32). -/
def State.ageDrain (s : State) (n slot : Nat) : State :=
  match (s.port n).sb.find? (fun e => e.slot == slot && e.isOpen) with
  | none => s
  | some e =>
    (s.modPort n (fun p => { p with sb := p.sb.map (fun x => if x.id = e.id then { x with isOpen := false } else x) })).bump
      (K.sbAgeDrains n)

/-! Answers and data that wait. -/

/-- An error report leaves once the entries it drained are visible (02 R31). -/
def State.owedWork (s : State) (n : Nat) : Option State :=
  let p := s.port n
  match p.owedErrors.find? (fun o => !(p.sb.any (fun e => o.entries.contains e.id))) with
  | none => none
  | some o =>
    some ((s.modPort n (fun p => { p with owedErrors := p.owedErrors.erase o })).sendReport n o)

/-- The copy that a port holds under a partition address: its line and recorded state, from its entry or from a capacity recall that
does not own its line yet (05 R135, R137). -/
def State.copyAt (s : State) (n pa : Nat) : State × Option (Nat × CatState) :=
  match s.mirrorSet n (s.mirrorIndex n pa) with
  | (s, es) =>
    match es.find? (fun e => e.pa == pa) with
    | some e => (s, some (e.line, e.st))
    | none =>
      (s, s.txns.findSome? (fun t =>
        if t.kind = .recallCapacity ∧ t.phase = .queued then
          (t.owed.find? (fun o => o.port == n && o.pa == pa)).map (fun o => (t.line, o.st))
        else none))

/-- A write-back of a line that the catalogue records for the port frees its entry and is performed at its home; from a port recorded S
it is a breach; one that the catalogue does not record is an orphan (04 R106, R107; 05 R136, R151, R153). -/
def State.writebackIn (s : State) (n tid seq pa : Nat) (data : Line) : State :=
  match s.copyAt n pa with
  | (s, some (line, st)) =>
    let s := (s.dropLine n line)
    let s := if st = .shared then s.breach n else s
    s.takeBack n { id := 0, kind := .writeback, line := line, slice := s.sliceOf line, port := n, tid := tid, pa := pa,
                   part := s.partOf n, epoch := s.epochOf n tid, entry := .waiting, data := data } seq
  | (s, none) =>
    s.modPort n (fun q => { q with
      waiting := q.waiting ++ [{ op := .writeback, tid := tid, pa := pa, data := data, mask := fullMask, seq := seq, epoch := q.epoch }]
      accesses := q.accesses ++ [{ seq := seq, key := .load tid, near := true }] })

/-- Dirty data of a snoop answer goes to the transaction that asked for it. -/
def State.dataIn (s : State) (n : Nat) (d : HeldData) : State := s.snoopAnswer n d.tid 3 d.code (some d.data)

/-- The line of a SNOOP that is out. -/
def PortSt.snoopLine (p : PortSt) (tid : Nat) : Nat :=
  match p.snoops.find? (fun x => x.tid == tid) with
  | some x => x.line
  | none => 0

/-- Held data goes on once the stores before its PORT barrier are visible (02 R36). -/
def State.heldWork (s : State) (n : Nat) : Option State :=
  let p := s.port n
  match p.held.find? (fun d => !(s.holdsData n d.seq (p.snoopLine d.tid))) with
  | none => none
  | some d => some ((s.modPort n (fun p => { p with held := p.held.erase d })).dataIn n d)

/-- One step of a port; none when nothing can move. -/
def State.portStep (s : State) (n : Nat) : Option State :=
  match s.owedWork n with
  | some s' => some s'
  | none =>
    match s.heldWork n with
    | some s' => some s'
    | none =>
      match s.barrierWork n with
      | some s' => some s'
      | none =>
        match s.walkIssue n with
        | some s' => some s'
        | none =>
          match s.requestWork n with
          | some s' => some s'
          | none => s.drainWork n

/-- One step of some port; on the way to Fault-hold nothing is accepted or answered (13 R348). -/
def State.portWork (s : State) : Option State :=
  if s.dead then none else s.ports.findSome? (fun x => s.portStep x.1)

end Sys2Proof.Machine
end

