-- ==== Sys2Proof/Machine/Requests.lean ====
section
/-! DEFINITION. The messages of a port as they arrive (04 R92 to R127): the checks of R105, what a request ends or wakes, and where each
message goes. -/

namespace Sys2Proof.Machine

/-! The checks of a request. -/

/-- Is a request with this TID outstanding, one that only waits for its DECODE_ERROR included (04 R105, R111)? -/
def PortSt.hasTid (p : PortSt) (tid : Nat) : Bool :=
  p.outstanding.any (fun o => o.1 == tid) || p.owedErrors.any (fun o => !o.retires && o.msg.tid == tid)

/-- Tagged requests outstanding (04 R111). -/
def PortSt.tagged (p : PortSt) : Nat :=
  (p.outstanding.filter (fun o => o.1 != 0xFFF)).length + (p.owedErrors.filter (fun o => !o.retires && o.msg.tid != 0xFFF)).length

/-- MAX_OUTSTANDING (04 R108). -/
def PortSt.maxTagged (p : PortSt) : Nat :=
  match p.l1 with
  | some (_, _, m, _) => m
  | none => 32

/-- What kind of request it is, for the checks and its epoch: DESCRIBE is legal before Run, a BARRIER is answered OK there; a partition
reset holds every request but WRITEBACK and EVICT_OFFER; a STORE_COND that fails is counted; those of kind `now` carry the epoch of the
moment their answer leaves, as DESCRIBE and BARRIER do (04 R103, R105; 10 R274; 02 R55). -/
inductive Kind where
  | describe | barrier | evict | cond | now | other
deriving DecidableEq, Repr

/-- Requests answered with the port's epoch at the moment the response leaves (04 R103). -/
def Kind.late : Kind → Bool
  | .describe | .barrier | .now => true
  | .evict | .cond | .other => false

/-- A request becomes outstanding (04 R111). -/
def State.takeIn (s : State) (n tid : Nat) : State :=
  s.modPort n (fun p => { p with outstanding := p.outstanding ++ [(tid, p.epoch)] })

/-- DECODE_ERROR (04 R105): the request is outstanding until the report has been sent. One whose TID an outstanding request has is
answered without ending that one. -/
def State.decodeError (s : State) (n tid : Nat) (op : DownOp) (kind : Kind) (dup : Bool) : State :=
  let s := s.bump (K.decodeErrors n)
  let s := if kind = .cond then s.condFails n else s
  let s := if dup then s else s.takeIn n tid
  s.report n { msg := { op := op, tid := tid, epoch := (s.port n).epoch, status := 14 }, entries := [], retires := !dup, now := kind.late }

/-- A later request ends a held WAIT_EVENT and sleep (04 R124 to R126). -/
def State.stirs (s : State) (n : Nat) : State :=
  (s.endWait n).modPort n (fun p => { p with mode := if p.mode = .sleeping then .run else p.mode, wake := false })

/-- A BARRIER before Run has nothing to order: it is answered OK, unless the port's fence says otherwise (04 R105; 02 R51, R53; 13
R342). -/
def State.earlyBarrier (s : State) (n tid : Nat) : State :=
  let answer := fun (s : State) (status : Nat) => s.respondNow n { op := .complete, tid := tid, status := status }
  match (s.port n).fence with
  | .normal => answer (s.bump (K.barriersOk n)) 0
  | .pending => answer (s.toHeld n) 11
  | .held => answer (s.bump (K.heldRefusals n)) 10

/-- A request arrives at the message layer (04 R103, R105, R111; 10 R274; 13 R348): `legal` says whether its address, size and ATTR are;
`f` is what the port does with it once it is outstanding. -/
def State.arrive (s : State) (n tid : Nat) (tagged legal : Bool) (op : DownOp) (kind : Kind) (f : State → State) : State :=
  if s.dead then s
  else
    let s := s.stirs n
    let p := s.port n
    if p.hasTid tid then s.decodeError n tid op kind true
    else if !legal || (p.mode == .run && tagged && p.maxTagged ≤ p.tagged) then s.decodeError n tid op kind false
    else if p.mode ≠ .run ∧ kind = .barrier then (s.takeIn n tid).earlyBarrier n tid
    else if p.mode ≠ .run ∧ kind ≠ .describe then s.decodeError n tid op kind false
    else
      let s := s.takeIn n tid
      if p.resetHold && kind != .evict then
        s.modPort n (fun p =>
          if kind = .barrier then { p with resetBars := p.resetBars ++ [tid] } else { p with resetReqs := p.resetReqs ++ [(tid, op)] })
      else f s

/-- May ATTR bits 7 and 6 be set as they are (04 R95)? -/
def attrLegal (h : Hdr) (token locked : Bool) : Bool := (token || !hHasToken h) && (locked || !hLocked h)

/-- A tagged request message (04 R92): TID 0xFFF is not for agents (R93). -/
def State.recvTagged (s : State) (n : Nat) (op : Byte) (h : Hdr) (fields : List Byte) (rx : Rx) (legal : Bool) (resp : DownOp) (kind : Kind)
    (f : State → State) : State :=
  s.recv8 (portLink n) (taggedHeader op h ++ fields) rx (fun s =>
    s.arrive n h.tid.toNat true (legal && h.tid != 0xFFF) resp kind f)

/-- An untagged request message (04 R93). -/
def State.recvUntagged (s : State) (n : Nat) (op : Byte) (h : Hdr) (fields : List Byte) (rx : Rx) (legal : Bool) (resp : DownOp) (kind : Kind)
    (f : State → State) : State :=
  s.recv8 (portLink n) (untaggedHeader op h ++ fields) rx (fun s => s.arrive n 0xFFF false legal resp kind f)

/-- A request takes its place in the port's order, as an earlier access of later barriers. -/
def State.enqueue (s : State) (n : Nat) (r : Req) : State :=
  s.modPort n (fun p => { p with
    seq := p.seq + 1
    waiting := p.waiting ++ [{ r with seq := p.seq, epoch := p.epoch, mine := s.isHome n (r.pa / 64) }]
    accesses := p.accesses ++ [{ seq := p.seq, key := .load r.tid }] })

/-! Requests to memory. -/

/-- A request of R114 for a whole line: READ_SHARED, READ_OWN, UPGRADE or ZERO_LINE. -/
def State.lineReq (s : State) (n : Nat) (op : ReqOp) (code : Byte) (h : Hdr) (addr : Word) (rx : Rx) : State :=
  s.recvTagged n code h (addrSymbols addr) rx (attrLegal h true false && addr.toNat % 64 == 0) op.resp .other (fun s =>
    s.enqueue n { op := op, tid := h.tid.toNat, pa := addr.toNat, token := hTokenOf h,
                  stream := hStream h && (op == .readShared || op == .readOwn) })

/-- READ_UNC (04 R98, R105, R106). -/
def State.uncReq (s : State) (n : Nat) (h : Hdr) (addr : Word) (rx : Rx) : State :=
  let size := hSize3 h
  s.recvTagged n 0x04 h (addrSymbols addr) rx (size != 7 && addr.toNat % 2 ^ size == 0) .rdata .other (fun s =>
    s.enqueue n { op := .readUnc, tid := h.tid.toNat, pa := addr.toNat, size := size, token := hTokenOf h, stream := hStream h,
                  locked := hLocked h })

/-- PUT_PARTIAL: a zero MASK is a framing error (04 R98, R99). -/
def State.putReq (s : State) (n : Nat) (h : Hdr) (addr : Word) (mask : Byte) (data : BitVec 64) (rx : Rx) : State :=
  let off := addr.toNat % 64
  s.recvTagged n 0x05 h (addrSymbols addr ++ [mask] ++ maskedBytes mask data) (if mask = 0 then .framing else rx)
    (attrLegal h false true && addr.toNat % 8 == 0) .complete .other (fun s =>
      s.enqueue n { op := .putPartial, tid := h.tid.toNat, pa := addr.toNat, locked := hLocked h,
                    mask := BitVec.ofNat 64 (mask.toNat * 2 ^ off), data := shiftIn data.toNat off })

/-- PUT_LINE. -/
def State.putLineReq (s : State) (n : Nat) (h : Hdr) (addr : Word) (data : Line) (rx : Rx) : State :=
  s.recvTagged n 0x06 h (addrSymbols addr ++ lineBytes data) rx (attrLegal h false true && addr.toNat % 64 == 0) .complete .other (fun s =>
    s.enqueue n { op := .putLine, tid := h.tid.toNat, pa := addr.toNat, locked := hLocked h, mask := fullMask, data := data })

/-- LOAD_RESERVE (04 R93; 02 R43). -/
def State.reserveReq (s : State) (n : Nat) (h : Hdr) (addr : Word) (rx : Rx) : State :=
  s.recvUntagged n 0x0A h (addrSymbols addr) rx (attrLegal h true false && addr.toNat % 64 == 0) .dataResp .other (fun s =>
    s.enqueue n { op := .loadReserve, tid := 0xFFF, pa := addr.toNat, token := hTokenOf h })

/-- Has the port a LOAD_RESERVE granted whose COMP_ACK has not come (04 R115)? -/
def State.reserveOpen (s : State) (n : Nat) : Bool :=
  s.txns.any (fun t => t.port == n && t.kind == .loadReserve && t.phase == .granted && !t.ackIn)

/-- STORE_COND (04 R93, R116): the hub does not use its data. -/
def State.condReq (s : State) (n : Nat) (h : Hdr) (addr : Word) (data : BitVec 64) (rx : Rx) : State :=
  let size := hSize2 h
  s.recvUntagged n 0x0B h (addrSymbols addr ++ natBytes (2 ^ size) data.toNat) rx (attrLegal h false false && addr.toNat % 2 ^ size == 0)
    .complete .cond (fun s => s.enqueue n { op := .storeCond, tid := 0xFFF, pa := addr.toNat, size := size, early := s.reserveOpen n })

/-- WRITEBACK (04 R118, R127): it does not wait behind other requests. -/
def State.writebackReq (s : State) (n : Nat) (h : Hdr) (addr : Word) (data : Line) (rx : Rx) : State :=
  let tid := h.tid.toNat
  s.recvTagged n 0x08 h (addrSymbols addr ++ lineBytes data) rx (attrLegal h false false && addr.toNat % 64 == 0) .complete .evict
    (fun s =>
      if !s.isHome n (addr.toNat / 64) then s.refuse n tid (s.port n).epoch .complete 12
      else
        let seq := (s.port n).seq
        (s.modPort n (fun p => { p with seq := p.seq + 1 })).writebackIn n tid seq addr.toNat data)

/-- An offer that the L2 does not take (04 R119, 06 R176). -/
def State.declineOffer (s : State) (n tid line : Nat) : State :=
  (s.bump (K.offersDeclined (s.sliceOf line))).respond n { op := .complete, tid := tid, epoch := s.epochOf n tid }

/-- EVICT_OFFER (04 R119, R127; 05 R136, R153; 02 R31, R45): the port's entry is freed, its reservation on the granule ends, and the drain
of the line's buffered stores starts (assumption 74). One of a line that the catalogue no longer shows is declined; DESIGN CHOICE
(assumption 74): so is one from a port recorded O, whose line the agent may only write back (R109). -/
def State.offerReq (s : State) (n : Nat) (h : Hdr) (addr : Word) (data : Line) (rx : Rx) : State :=
  let tid := h.tid.toNat
  s.recvTagged n 0x09 h (addrSymbols addr ++ lineBytes data) rx (attrLegal h false false && addr.toNat % 64 == 0) .complete .evict
    (fun s =>
      if !s.isHome n (addr.toNat / 64) then s.refuse n tid (s.port n).epoch .complete 12
      else
        match s.copyAt n addr.toNat with
        | (s, none) => s.declineOffer n tid (addr.toNat / 64)
        | (s, some (line, st)) =>
          let s := ((s.dropLine n line).drainLine n line).modPort n (fun p =>
            { p with reservation := if p.reservation = some line then none else p.reservation })
          if st = .owned then s.declineOffer n tid line
          else
            s.newTxnFirst { id := 0, kind := .evictOffer, line := line, slice := s.sliceOf line, port := n, tid := tid, pa := addr.toNat,
                            part := s.partOf n, epoch := s.epochOf n tid, entry := .waiting, data := data })

/-! Barriers, loans, waiting and sleep. -/

/-- BARRIER (02 R31, R35; 04 R98): the whole store buffer drains; the answer follows the scope. -/
def State.barrierReq (s : State) (n : Nat) (h : Hdr) (scope : Scope) (bits : Nat) (rx : Rx) : State :=
  let attr : Byte := (h.attr &&& 0xFC) ||| BitVec.ofNat 8 bits
  s.recvTagged n 0x0C { h with attr := attr } [] rx (attrLegal h false false) .complete .barrier (fun s =>
    (s.drainAll n).modPort n (fun p => { p with
      seq := p.seq + 1
      barriers := p.barriers ++ [{ seq := p.seq, tid := h.tid.toNat, scope := scope, answered := false }] }))

/-- May a port of partition q take loans on link k (09 R254)? -/
def State.loanable (s : State) (q k : Nat) : Bool :=
  k < 8 && s.mlEnabled k && !(s.objBit K.fenceMl k && !s.partnerServes k) && s.objBit (K.loanLinks q) k

/-- LOAN_TARGET (04 R123, 09 R254). -/
def State.targetReq (s : State) (n : Nat) (h : Hdr) (link : Byte) (rx : Rx) : State :=
  let tid := h.tid.toNat
  s.recvTagged n 0x0D h [link] rx (attrLegal h false false && !(s.port n).areq) .complete .now (fun s =>
    let answer := fun (s : State) (status : Nat) => s.respondNow n { op := .complete, tid := tid, status := status }
    if s.parked then answer s 13
    else if !s.loanable (s.partOf n) link.toNat then answer (s.bump (K.permFaults n)) 7
    else answer (s.modPort n (fun p => { p with loanTarget := some link.toNat })) 0)

/-- WAIT_EVENT (04 R124): held, unless APn_IRQ is high. -/
def State.waitReq (s : State) (n : Nat) (h : Hdr) (rx : Rx) : State :=
  let tid := h.tid.toNat
  s.recvTagged n 0x0E h [] rx (attrLegal h false false) .complete .now (fun s =>
    if s.irqShould.getLsbD n then s.respond n { op := .complete, tid := tid, epoch := (s.port n).epoch }
    else s.modPort n (fun p => { p with waitEvent := some tid }))

/-- SLEEP_ACK (04 R125): the store buffer is empty; the reservation ends and the port sleeps, unless it has sent another request. -/
def State.sleeps (s : State) (n : Nat) : State :=
  match (s.port n).sleepTid with
  | none => s
  | some tid =>
    if !(s.port n).sb.isEmpty then s
    else
      let s := s.modPort n (fun p => { p with sleepTid := none, reservation := none })
      let s := s.respond n { op := .sleepAck, tid := tid, epoch := (s.port n).epoch }
      s.modPort n (fun p => if p.mode = .run ∧ p.outstanding.isEmpty then { p with mode := .sleeping } else p)

/-- SLEEP_NACK with its reason. -/
def State.sleepNack (s : State) (n tid reason : Nat) : State :=
  s.respond n { op := .sleepNack, tid := tid, epoch := (s.port n).epoch, reason := reason }

/-- SLEEP_REQ with its checks in order (04 R125, 11 R308). -/
def State.sleepReq (s : State) (n : Nat) (h : Hdr) (rx : Rx) : State :=
  let tid := h.tid.toNat
  s.recvTagged n 0x0F h [] rx (attrLegal h false false) .sleepAck .now (fun s =>
    let p := s.port n
    if p.outstanding.any (fun o => o.1 != tid) || p.owedErrors.any (fun o => !o.retires) then s.sleepNack n tid 3
    else if p.areq || p.agnt then s.sleepNack n tid 2
    else if s.sleepHeldUp n then (s.endModeration (s.partOf n)).sleepNack n tid 1
    else ((s.drainAll n).modPort n (fun p => { p with sleepTid := some tid })).sleeps n)

/-! Bring-up. -/

/-- Are the parameters of DESCRIBE legal (04 R108)? -/
def describeLegal (p0 p1 p2 p3 p4 : Nat) : Bool :=
  p0 == 1 && 6 ≤ p1 && p1 ≤ 8 && 1 ≤ p2 && p2 ≤ 4 && 1 ≤ p3 && p3 ≤ 32 && 8 ≤ p4

/-- DESCRIBE (04 R110): the geometry is recorded and HOME_MAP follows; an illegal one is a refusal of the link; in Run it must repeat
the first. -/
def State.describeReq (s : State) (n : Nat) (h : Hdr) (p0 p1 p2 p3 p4 : Byte) (rx : Rx) : State :=
  let tid := h.tid.toNat
  let l := (p1.toNat, p2.toNat, p3.toNat, p4.toNat)
  s.recvTagged n 0x10 h [p0, p1, p2, p3, p4] rx (attrLegal h false false) .complete .describe (fun s =>
    let p := s.port n
    let ok := fun (s : State) => s.respond n { op := .complete, tid := tid, epoch := (s.port n).epoch }
    let bad := fun (s : State) =>
      (s.bump (K.decodeErrors n)).respondNow n { op := .complete, tid := tid, status := 14 }
    if p.mode = .run ∨ p.map.isSome = true then
      (if p0 = 1 ∧ p.l1 = some l then ok s else bad s)
    else if describeLegal p0.toNat p1.toNat p2.toNat p3.toNat p4.toNat then
      let s := (s.modPort n (fun p => { p with l1 := some l })).setObj (K.l1Geometry n)
        (p1.toNat + p2.toNat * 2 ^ 8 + p3.toNat * 2 ^ 16 + p4.toNat * 2 ^ 24)
      (ok s).sendMap n .bringup
    else
      ((bad s).bump (K.bringupFails n)).modLink (portLink n)
        (fun e => { e with phase := .leaving, barred := true }))

/-- HOME_MAP_ACK (04 R112, R127): the mask is acknowledged, and a map that waited for it goes out; at bring-up the port enters Run, or is told the mask of today first. -/
def State.mapAck (s : State) (n tid : Nat) : State :=
  match (s.port n).map with
  | none => s
  | some m =>
    if m.tid ≠ tid then s
    else
      let next := (s.port n).mapNext
      let s := s.modPort n (fun p => { p with map := none, mapNext := none, mapAcked := m.mask })
      if m.why = .bringup ∧ (s.port n).mode = .awaitDescribe then
        (if s.mapMask = m.mask then s.modPort n (fun p => { p with mode := .run }) else s.sendMap n .bringup)
      else
        match next with
        | some w => s.sendMap n w
        | none => s

/-! Answers of agents. -/

/-- A message that is no request reaches a port that has been described. -/
def State.recvAnswer (s : State) (n : Nat) (op : Byte) (tid : Tid) (sym3 : Byte) (fields : List Byte) (rx : Rx) (f : State → State) :
    State :=
  s.recv8 (portLink n) (plainHeader op tid sym3 ++ fields) rx (fun s => if s.dead then s else f s)

/-- SNOOP_DATA: data behind a PORT barrier is held in the hub (02 R36, 04 R101). DESIGN CHOICE (assumption 75): its data is dirty data
whatever result code it carries. -/
def State.snoopDataIn (s : State) (n tid state : Nat) (data : Line) : State :=
  let d : HeldData := { seq := (s.port n).seq, tid := tid, code := state, data := data }
  let s := s.modPort n (fun p => { p with seq := p.seq + 1 })
  if s.holdsData n d.seq ((s.port n).snoopLine tid) then s.modPort n (fun p => { p with held := p.held ++ [d] }) else s.dataIn n d

/-- APn_AREQ rises: a candidate for its target's loan (09 R255). -/
def State.areqRises (s : State) (n : Nat) : State :=
  if !s.prdy n then s
  else
    let s := s.modPort n (fun p => { p with areq := true })
    match s.loanLink n with
    | some k => s.loanGrant k
    | none => s

/-- APn_AREQ falls: an owner's loan ends once its locked accesses are over (09 R256). -/
def State.areqFalls (s : State) (n : Nat) : State :=
  if !s.prdy n then s
  else s.modPort n (fun p => { p with areq := false, loanFresh := p.loanFresh || !p.agnt })

/-- Have the locked accesses of the owner of link k completed (09 R256 step 2)? -/
def State.lockedOver (s : State) (k n : Nat) : Bool :=
  !((s.port n).waiting.any (·.locked)) && !({ s.ml k with tenant := n } : MlSt).lockedLeft

/-- LOAN_RELEASE (09 R256 steps 2 to 4). -/
def State.loanReleased (s : State) (k : Nat) : State :=
  match (s.ml k).owner with
  | none => s
  | some n =>
    if (s.port n).areq || !s.lockedOver k n then s
    else (s.modMl k (fun m => { m with tenant := n, ending := some 0 })).loanClose k

/-- LOAN_LIMIT has passed with APn_AREQ high (09 R257). -/
def State.loanExpires (s : State) (k : Nat) : State :=
  match (s.ml k).owner with
  | none => s
  | some n => if (s.port n).areq then s.loanCut k 1 else s

end Sys2Proof.Machine
end

