-- ==== Sys2Proof/Machine/Flow.lean ====
section
/-! DEFINITION. What the hub does of itself after a command: every transaction, queue and engine that can move does, until nothing can
(01 R14 to R17; assumption 2). -/

namespace Sys2Proof.Machine

/-- Is the request a write that carries dirty data or poison, which no expiry ends (13 R344)? -/
def State.exempt (s : State) (r : ArchReq) : Bool :=
  match r.who with
  | .dev _ _ _ => false
  | .txn id =>
    match s.txn id with
    | none => false
    | some t => t.phase == .poisonWrite || (t.phase == .memWrite && t.precious)

/-- The memory read of a transaction ends at ML_DOWN_LIMIT as by ERROR (09 R248, R251); a SNOOP_IN that needed it is answered ERROR
(09, edge cases). -/
def State.readExpired (s : State) (t : Txn) : State :=
  if (t.kind = .siRead ∨ t.kind = .siReadInval) ∧ t.phase = .memRead then
    (if t.way < 16 then s.refetchFailed t else s).siAnswer t 1 false
  else s.txnRead t false false 0

/-- A request that waits for a link past ML_DOWN_LIMIT ends as by ERROR (09 R248, R251). -/
def State.expire (s : State) (k : Nat) (r : ArchReq) : State :=
  let s := s.modMl k (fun m => { m with waiting := m.waiting.erase r })
  match r.who with
  | .dev _ _ _ => s.devFails k r .expired
  | .txn id =>
    match s.txn id with
    | none => s
    | some t => if r.pkt.op = .rdLine then s.readExpired t else s.txnWrote t false .expired

/-- The first request that a link past its limit ends. -/
def State.expireWork (s : State) (k : Nat) : Option State :=
  if (s.ml k).expired && (s.ml k).state != .serving then ((s.ml k).waiting.find? (fun r => !s.exempt r)).map (s.expire k) else none

/-- Loans that end or begin: the locked accesses of an ending tenure are over, or a free link has a candidate (09 R255 to R258). -/
def State.loanWork (s : State) (k : Nat) : Option State :=
  let m := s.ml k
  if m.ending.isSome then (if m.lockedLeft then none else some (s.loanClose k))
  else if m.owner.isNone && (s.loanWinner k).isSome then some (s.loanGrant k)
  else none

/-- A port whose catalogue lost an entry is reclaimed (05 R160). -/
def State.doomWork (s : State) : Option State :=
  match s.doomed with
  | [] => none
  | n :: rest => some (({ s with doomed := rest } : State).portDies n)

/-- A finished walk that no port waits for. -/
def State.strayWalk (s : State) : Option State := (s.txns.find? s.walkOrphaned).map (fun t => s.endTxn t.id)

/-- The links of the Archive; on the way to Fault-hold they only send. -/
def State.archWork (s : State) : Option State :=
  s.mls.findSome? (fun x =>
    match s.archIssue x.1 with
    | some s' => some s'
    | none =>
      if s.dead then none else
      match s.expireWork x.1 with
      | some s' => some s'
      | none => s.loanWork x.1)

/-- Candidates for links that nothing has touched yet. -/
def State.firstLoans (s : State) : Option State :=
  if s.ports.any (fun x => x.2.areq && x.2.loanFresh) then (List.range 8).findSome? s.loanWork else none

/-- The first of a list of workers that can move. -/
def firstWork (s : State) : List (State → Option State) → Option State
  | [] => none
  | f :: rest =>
    match f s with
    | some s' => some s'
    | none => firstWork s rest

/-- The next step of the hub's own work; none when nothing can move. On the way to Fault-hold only data on its way to memory moves, and the
field interface (13 R348). -/
def State.nextWork (s : State) : Option State :=
  if s.dead then firstWork s [State.chanWork, State.homeWork, State.archWork, State.jopWork]
  else firstWork s [State.chanWork, State.consWork, State.homeWork, State.archWork, State.firstLoans, State.doomWork, State.strayWalk, State.portWork,
    State.recordWork, State.accWork, State.giveWork, State.moveWork, State.modeWork, State.resetWork, State.jopWork, State.dueWork]

/-- The hub's own work, at most `n` steps of it. -/
def State.settle : Nat → State → State
  | 0, s => s
  | n + 1, s =>
    match s.nextWork with
    | none => s
    | some s' => s'.settle n

/-- How much of the hub's own work follows one command; what is left goes on with the next. -/
def settleLimit : Nat := 65536

/-- The state that a command answers at `s` when its own effect is `t`: the hub's own work follows, the output levels are made exact
and the queue of waiting commands stays as it was. -/
def State.after (s t : State) : State := { (t.settle settleLimit).finish with pending := s.pending }

/-- A command with the hub's own work after it. -/
def flow (f : State → State) (s : State) : Host.Outcome State Fault Refusal := .next (s.after (f s.begin))

end Sys2Proof.Machine
end

