-- ==== Sys2Proof/Machine/ArchRows.lean ====
section
/-! DEFINITION. What arrives from the controllers of the Archive links: RD_RESP and WR_ACK (09 R244 to R248), and SNOOP_IN (09 R252,
05 R155). -/

namespace Sys2Proof.Machine

/-! Answers. -/

/-- The request that a tag of a link names. -/
def MlSt.tagged (m : MlSt) (tag : Nat) : Option ArchReq := (m.outstanding.find? (fun o => o.1 == tag)).map (·.2)

/-- Does an RD_RESP fit the request, rather than a WR_ACK (09 R244)? -/
def ArchReq.isRead (r : ArchReq) : Bool := r.pkt.op == .rdLine || r.pkt.op == .devRd

/-- The data symbols of an RD_RESP (09 R237): 16 for RD_LINE, max(1, 2^SIZE / 4) for DEV_RD; 16 where the tag names no read. -/
def answerWords (r : Option ArchReq) : Nat :=
  match r with
  | none => 16
  | some r => if r.pkt.op = .devRd then max 1 (2 ^ r.pkt.size / 4) else 16

/-- The symbols of an RD_RESP before its CRC. -/
def rdRespWords (r : Option ArchReq) (tag status : Nat) (poison : Bool) (data : Line) : List Word :=
  packetHeader 0x81 tag status 0 poison false false :: (if status = 0 then (lineWords data).take (answerWords r) else [])

/-- The tag is free again; an answer that is not OK, or that carries poison, is counted (09 R244, R248). -/
def State.answered (s : State) (k tag : Nat) (bad : Bool) : State :=
  let s := s.modMl k (fun m => { m with outstanding := m.outstanding.filter (fun o => o.1 != tag) })
  if bad then s.bump (K.mlErrAnswers k) else s

/-- OK, or OK_THROTTLED with its count, for a device access (10 R284). -/
def State.devStatus (s : State) (r : ArchReq) : State × Nat := if r.waited then (s.bump (K.throttled r.part), 1) else (s, 0)

/-- A device read is answered by its target (09 R246, R248). -/
def State.devReadAnswer (s : State) (k : Nat) (r : ArchReq) (n tid id status : Nat) (poison : Bool) (data : Line) : State :=
  if !r.live then s.devDone n id
  else if status ≠ 0 then s.devReadEnds k n tid id { op := .rdata, status := 8 }
  else if poison then s.devReadEnds k n tid id { op := .rdata, status := 5 }
  else
    match s.devStatus r with
    | (s, st) => s.devReadEnds k n tid id { op := .rdata, status := st, size := r.pkt.size, data := data }

/-- RD_RESP (09 R244, R246, R248): codes 3 to 15 are errors, and a STATUS other than OK cancels POISON (R238). -/
def State.readAnswer (s : State) (k tag status : Nat) (poison : Bool) (data : Line) : State :=
  match (s.ml k).tagged tag with
  | none => s.mlFails k
  | some r =>
    if !r.isRead then s.mlFails k
    else
      let s := s.answered k tag (status != 0 || poison)
      match r.who with
      | .dev n tid id => s.devReadAnswer k r n tid id status poison data
      | .txn id =>
        match s.txn id with
        | none => s
        | some t => s.txnRead t (status == 0 && !poison) (status == 0 && poison) (if status = 0 then data else 0)

/-- A device write is acknowledged by its target (02 R23, R24; 09 R247, R248). -/
def State.devWriteAnswer (s : State) (k : Nat) (r : ArchReq) (n tid id status : Nat) : State :=
  if status ≠ 0 then s.devFails k r .devB
  else if r.live && r.pkt.strict then
    match s.devStatus r with
    | (s, st) => (s.deviceAnswer n k { op := .complete, tid := tid, epoch := s.epochOf n tid, status := st }).devDone n id
  else s.devDone n id

/-- WR_ACK (09 R244, R247, R248). -/
def State.writeAnswer (s : State) (k tag status : Nat) : State :=
  match (s.ml k).tagged tag with
  | none => s.mlFails k
  | some r =>
    if r.isRead then s.mlFails k
    else
      let s := s.answered k tag (status != 0)
      match r.who with
      | .dev n tid id => s.devWriteAnswer k r n tid id status
      | .txn id =>
        match s.txn id with
        | none => s
        | some t => s.txnWrote t (status == 0) .refused

/-! SNOOP_IN. -/

/-- The answer of a SNOOP_IN that nothing is done for (09 R252). -/
def State.siRefuse (s : State) (k tag status : Nat) (write : Bool) : State :=
  s.send (archLink k) (.arch { op := if write then .siDone else .siData, tag := tag, status := status })

/-- A SNOOP_IN arrives (09 R252, 05 R155). A tag that the master may not use now is ignored (assumption 27). -/
def State.snoopIn (s : State) (k : Nat) (kind : TxnKind) (tag addr : Nat) (mask : Mask64) (data : Line) : State :=
  let write := kind == .siWrite
  if s.dead || !s.mlServes k || 16 ≤ tag || (s.ml k).si.contains tag then s
  else if s.route s.epoch addr ≠ .normal ∨ (write = true ∧ mask = 0) then s.siRefuse k tag 1 write
  else if !(s.homeNow.getLsbD (bucketOf (addr / 64))) then s.siRefuse k tag 3 write
  else
    (s.modMl k (fun m => { m with si := m.si ++ [tag] })).newTxn
      { id := 0, kind := kind, line := addr / 64, slice := s.sliceOf (addr / 64), part := s.inForce.supervisor, entry := .waiting,
        mask := mask, data := data, aux := k * 256 + tag }

/-- The header and address of a SNOOP_IN (09 R236, R237). -/
def siWords (op : Nat) (tag : Byte) (addr : BitVec 40) : List Word :=
  [packetHeader op tag.toNat 0 (addr.extractLsb' 32 8).toNat false false false, addr.extractLsb' 0 32]

/-- ML_DESCRIBE (09 R237). -/
def describeWord (tagsMinus1 : Byte) (siMax : BitVec 5) (dual : Bool) : Word :=
  BitVec.ofNat 32 (0xA0 + tagsMinus1.toNat * 2 ^ 8 + siMax.toNat * 2 ^ 16 + dual.toNat * 2 ^ 21)

end Sys2Proof.Machine
end

