-- ==== Sys2Proof/Machine/Extras.lean ====
section
/-! DEFINITION. The small operations that single commands need beside the shared ones. -/

namespace Sys2Proof.Machine

/-! Registers. -/

/-- A register write as a command, with the width of the register's type (16 R405, R406; 17 R427). -/
def State.cmdWrite (s : State) (src : Src) (k v : Nat) (x : Extras := {}) : State := s.regWrite src k (objWidth k) v x

/-- A write of any register with the bytes given. -/
def State.anyWrite (s : State) (src : Src) (k : Nat) (value : List Byte) : State := s.bytesWrite src k value

/-! Ports. -/

/-- SNOOP_RESP: result and state codes (04 R101). DESIGN CHOICE (assumption 75): a result above 2, which no SNOOP_RESP may carry, and a
reserved state code count as a clean answer with state I. -/
def State.snoopRespIn (s : State) (n tid symbol : Nat) : State := s.snoopAnswer n tid (symbol % 16) (symbol / 16 % 8) none

/-- A SNOOP that is out has no answer within SNOOP_LIMIT (04 R112); data held behind a PORT barrier is an answer that has come. -/
def State.snoopLate (s : State) (n tid : Nat) : State :=
  let p := s.port n
  if p.snoops.any (fun x => x.tid == tid) && !(p.held.any (fun d => d.tid == tid)) then s.portFails n else s

/-- A grant has no COMP_ACK within SNOOP_LIMIT (05 R146). -/
def State.grantLate (s : State) (n tid : Nat) : State :=
  if s.txns.any (fun t => t.phase == .granted && t.port == n && t.tid == tid && !t.ackIn) then s.portFails n else s

/-- Step 4 of a reclamation, once the dead port's stores are visible (05 R156). -/
def State.reclaimDrained (s : State) (n : Nat) : State :=
  if (s.port n).reclaim = .draining ∧ (s.port n).sb.isEmpty = true then s.reclaimEntries n else s

/-- Step 7 of a reclamation, once every poison write is acknowledged (05 R156). -/
def State.reclaimOver (s : State) (n : Nat) : State :=
  if (s.port n).reclaim = .poisoning ∧ s.poisonsDone n = true then s.reclaimEnd n else s

/-! Slices and channels. -/

/-- A credit's lifetime ends (05 R142). -/
def State.creditExpires (s : State) (h credit : Nat) : State :=
  if s.credits.any (fun c => c.slice == h && c.credit == credit) then
    ({ s with credits := s.credits.filter (fun c => !(c.slice == h && c.credit == credit)) } : State).bump (K.creditsExpired h)
  else s

/-- The burst of a transaction: a row of a scrub or patrol, or a line that it needs. -/
def State.burstFor (s : State) (id c ba : Nat) (burst : Burst) : State :=
  match s.txn id with
  | none => s
  | some t =>
    if t.kind = .scrubRow ∨ t.kind = .patrolRow then s.scrubBurst t c ba burst else s.txnBurst t c ba burst

/-- A read of a burst completes (07 R191, R194, R197, R206): the oldest one of its address; a calibration that waited for it goes on
(R209). -/
def State.burstArrives (s : State) (c ba : Nat) (burst : Burst) : State :=
  match (s.chan c).reads.find? (fun r => r.1 == ba) with
  | none => s
  | some r =>
    let s := s.modChan c (fun h => { h with reads := h.reads.erase r })
    let s := match r.2 with
      | .merge => s.mergeBurst c ba burst
      | .txn id => s.burstFor id c ba burst
      | .unused => s
    s.calSearch c

/-- An entry of a merge buffer reaches MERGE_TIMEOUT (07 R205). -/
def State.mergeExpires (s : State) (c ba : Nat) : State :=
  match (s.chan c).merge.find? (fun m => m.ba == ba) with
  | none => s
  | some m => s.mergeFlush c m

/-- The write of a line that waits for WRITE_RETRY_GAP goes out again (13 R344). -/
def State.gapOver (s : State) (line : Nat) : State :=
  match s.txns.find? (fun t => t.phase == .retryGap && t.line == line) with
  | none => s
  | some t => s.resend t

/-! Partitions. -/

/-- Step 3 of a partition reset begins (10 R274). -/
def State.recallsDone (s : State) (p : Nat) : State :=
  match s.resetOf p with
  | none => s
  | some r => if !r.stores && s.resetRecalled r then s.resetStores p else s

/-- Steps 4 to 6 of a partition reset (10 R274). -/
def State.storesDone (s : State) (p : Nat) : State :=
  match s.resetOf p with
  | none => s
  | some r => if r.stores && s.resetClean r && (s.membersOf p).all (fun n => s.resetQuiet n) then s.resetEnd r else s

/-- TC_INVAL ends once no walk of the partition is left (10 R271). -/
def State.tcInvalOver (s : State) (p : Nat) : State :=
  if s.tcInval.contains p && !s.tcWalks p then s.tcInvalEnd p else s

/-- May port n use page q of the console window now (10 R276)? -/
def State.consoleMay (s : State) (n q : Nat) : Bool := (s.port n).mode == .run && !s.dead && s.reaches n q

/-! Events. -/

/-- MOD_TIME of a moderating ledger has passed (11 R307). -/
def State.modExpires (s : State) (p l : Nat) : State :=
  if (s.ledger p l).state = 2 then s.modLedger p l (fun g => { g with state := 3 }) else s

/-- ALLWAIT_GRACE passes with every port of the partition waiting and nothing pending (11 R309): event 7 at priority 0, and the
presenting port is woken if it sleeps. -/
def State.graceOver (s : State) (p : Nat) : State :=
  if s.dead || !s.pd 2 || s.obj (K.allwaitGrace p) == 0 || !s.allWait p then s
  else
    let s := s.occurPri p 7 0 0 63
    match s.presenter p with
    | some n => s.wakePort n
    | none => s

/-! Accession. -/

/-- ACn_FRAME falls between two handshakes (12 R316). -/
def State.accFrameFalls (s : State) (c : Nat) : State :=
  if (s.acc c).frame && !(s.acc c).req && !(s.acc c).ack then s.accFrameLow c else s

/-- The control line is read again while room still lacks (12 R330). -/
def State.ctrlPoll (s : State) (c : Nat) : State :=
  if (s.acc c).polling && s.accLacksRoom c && s.accMoves && !s.accHas .ctrlRead c then (s.accCtrlRead c).getD s else s

/-! Maintenance. -/

/-- Does patrol run for the target of an interval (08 R221)? -/
def State.patrols (s : State) (interval : Nat) : Bool := s.mode.serving && !s.dead && s.obj interval != 0

/-! Field control. -/

/-- SUBSCRIBE whose MODE byte is the row's; a MODE above 2 is refused by whichever row carries it (16 R410). -/
def State.subscribeRow (s : State) (mode : Nat) (f : JopFrame) : State :=
  if payloadNat f.payload 4 1 = mode ∨ 2 < payloadNat f.payload 4 1 ∨ f.payload.length ≠ 12 then s.jopRequest 0x06 f else s

/-- SEGMENT whose direction bit is the row's (16 R409). -/
def State.segmentRow (s : State) (dir : Nat) (f : JopFrame) : State :=
  if payloadNat f.payload 4 1 % 2 = dir then s.jopRequest 0x09 f else s

end Sys2Proof.Machine
end

