-- ==== Sys2Proof/Machine/Accession.lean ====
section
/-! DEFINITION. The commands of the accession channels (12). -/

namespace Sys2Proof.Machine

/-- ACC_REQ_RISE (12 R314, R316). -/
def execAccReqRise (c : Acc) (d : Byte) (frame : Bool) (s : State) : Host.Outcome State Fault Refusal :=
  flow (fun s => s.accReqHigh c d frame) s

/-- ACC_REQ_FALL (12 R314). -/
def execAccReqFall (c : Acc) (s : State) : Host.Outcome State Fault Refusal := flow (fun s => s.accReqLow c) s

/-- ACC_FRAME_FALL (12 R316): it ends a packet between two handshakes. -/
def execAccFrameFall (c : Acc) (s : State) : Host.Outcome State Fault Refusal := flow (fun s => s.accFrameFalls c) s

/-- MARK (12 R323). -/
def execMark (src : Src) (c : Acc) (s : State) : Host.Outcome State Fault Refusal := flow (fun s => s.cmdWrite src (K.accCmd c) 1) s

/-- REWIND (12 R323). -/
def execRewind (src : Src) (c : Acc) (s : State) : Host.Outcome State Fault Refusal := flow (fun s => s.cmdWrite src (K.accCmd c) 2) s

/-- RELEASE (12 R323). -/
def execRelease (src : Src) (c : Acc) (s : State) : Host.Outcome State Fault Refusal := flow (fun s => s.cmdWrite src (K.accCmd c) 3) s

/-- FLUSH (12 R324). -/
def execFlush (src : Src) (c : Acc) (s : State) : Host.Outcome State Fault Refusal := flow (fun s => s.cmdWrite src (K.accCmd c) 4) s

/-- ACC_DATA (12 R325). -/
def execAccData (src : Src) (c : Acc) (s : State) : Host.Outcome State Fault Refusal := flow (fun s => s.regRead src (K.accData c)) s

/-- ACC_BLOCK (12 R325). -/
def execAccBlock (src : Src) (c : Acc) (s : State) : Host.Outcome State Fault Refusal := flow (fun s => s.regRead src (K.accBlock c)) s

/-- ACC_ENABLE (12 R317). -/
def execAccEnable (src : Src) (c : Acc) (v : Byte) (s : State) : Host.Outcome State Fault Refusal :=
  flow (fun s => s.cmdWrite src (K.accEnable c) v.toNat) s

/-- DESCRIPTOR_VISIBLE (12 R328). -/
def execDescriptorVisible (c : Acc) (s : State) : Host.Outcome State Fault Refusal :=
  flow (fun s => if s.descVisible c then s.accHeadsAdvance c else s) s

/-- CTRL_LINE_POLL (12 R330). -/
def execCtrlLinePoll (c : Acc) (s : State) : Host.Outcome State Fault Refusal := flow (fun s => s.ctrlPoll c) s

end Sys2Proof.Machine
end

