-- ==== Sys2Proof/Machine/Archives.lean ====
section
/-! DEFINITION. The commands of the Archive links (09; 13 R344). -/

namespace Sys2Proof.Machine

/-- RD_RESP (09 R237, R244, R246, R248). -/
def execRdResp (k : Link) (tag : Byte) (status : BitVec 4) (poison : Bool) (data : Line) (rx : Rx) (s : State) : Host.Outcome State Fault Refusal :=
  flow (fun s => s.recv32 (.arch k) (rdRespWords ((s.ml k).tagged tag.toNat) tag.toNat status.toNat poison data) rx (fun s =>
    s.readAnswer k tag.toNat status.toNat poison data)) s

/-- WR_ACK (09 R237, R244, R247, R248). -/
def execWrAck (k : Link) (tag : Byte) (status : BitVec 4) (rx : Rx) (s : State) : Host.Outcome State Fault Refusal :=
  flow (fun s => s.recv32 (.arch k) [packetHeader 0x82 tag.toNat status.toNat 0 false false false] rx (fun s => s.writeAnswer k tag.toNat status.toNat)) s

/-- WRITE_RETRY_GAP_EXPIRY (13 R344). -/
def execWriteRetryGapExpiry (line : LineNo) (s : State) : Host.Outcome State Fault Refusal := flow (fun s => s.gapOver line.toNat) s

/-- ML_READY (09 R232). -/
def execMlReady (k : Link) (s : State) : Host.Outcome State Fault Refusal := flow (fun s => s.mlBothReady k) s

/-- ML_RDYO_RAISE (09 R232). -/
def execMlRdyoRaise (k : Link) (s : State) : Host.Outcome State Fault Refusal := flow (fun s => s.mlRises k) s

/-- ML_DESCRIBE (09 R232, R233, R237). -/
def execMlDescribe (k : Link) (tagsMinus1 : Byte) (siMax : BitVec 5) (dual : Bool) (rx : Rx) (s : State) : Host.Outcome State Fault Refusal :=
  flow (fun s => s.recv32 (.arch k) [describeWord tagsMinus1 siMax dual] rx (fun s => s.mlDescribed k (tagsMinus1.toNat + 1) siMax.toNat dual)) s

/-- ML_RDYI_FALL (09 R250). -/
def execMlRdyiFall (k : Link) (s : State) : Host.Outcome State Fault Refusal := flow (fun s => s.mlRdyiFalls k) s

/-- ML_DOWN_LIMIT_EXPIRY (09 R251). -/
def execMlDownLimitExpiry (k : Link) (s : State) : Host.Outcome State Fault Refusal := flow (fun s => s.mlExpires k) s

/-- SI_READ (09 R252, 05 R155). -/
def execSiRead (k : Link) (tag : Byte) (addr : BitVec 40) (rx : Rx) (s : State) : Host.Outcome State Fault Refusal :=
  flow (fun s => s.recv32 (.arch k) (siWords 0x90 tag addr) rx (fun s => s.snoopIn k .siRead tag.toNat addr.toNat 0 0)) s

/-- SI_READ_INVAL (09 R252, 05 R155). -/
def execSiReadInval (k : Link) (tag : Byte) (addr : BitVec 40) (rx : Rx) (s : State) : Host.Outcome State Fault Refusal :=
  flow (fun s => s.recv32 (.arch k) (siWords 0x91 tag addr) rx (fun s => s.snoopIn k .siReadInval tag.toNat addr.toNat 0 0)) s

/-- SI_WRITE (09 R252, 05 R155). -/
def execSiWrite (k : Link) (tag : Byte) (addr : BitVec 40) (mask : Mask64) (data : Line) (rx : Rx) (s : State) : Host.Outcome State Fault Refusal :=
  flow (fun s => s.recv32 (.arch k) (siWords 0x92 tag addr ++ maskWords mask ++ lineWords data) rx (fun s =>
    s.snoopIn k .siWrite tag.toNat addr.toNat mask data)) s

end Sys2Proof.Machine
end

