-- ==== Sys2Proof/Machine/Events.lean ====
section
/-! DEFINITION. The commands of the interrupt controllers, ledgers and event pins (11). -/

namespace Sys2Proof.Machine

/-- CLAIM (11 R296). -/
def execClaim (src : Src) (p : Part) (s : State) : Host.Outcome State Fault Refusal := flow (fun s => s.regRead src (K.claim p)) s

/-- EOI (11 R298). -/
def execEoi (src : Src) (p : Part) (v : Word) (s : State) : Host.Outcome State Fault Refusal :=
  flow (fun s => s.cmdWrite src (K.eoi p) v.toNat) s

/-- DOORBELL (11 R293). -/
def execDoorbell (src : Src) (p : Part) (v : Word) (s : State) : Host.Outcome State Fault Refusal :=
  flow (fun s => s.cmdWrite src (K.doorbell p) v.toNat) s

/-- PENDING_CLEAR (11 R294). -/
def execPendingClear (src : Src) (p : Part) (w : Fin 8) (bits : Word) (s : State) : Host.Outcome State Fault Refusal :=
  flow (fun s => s.cmdWrite src (K.pending p w) bits.toNat) s

/-- LEDGER_RECORD_VISIBLE (11 R305, R307). -/
def execLedgerRecordVisible (p : Part) (ledger : Fin 4) (s : State) : Host.Outcome State Fault Refusal :=
  flow (fun s => if s.recordVisible p ledger then s.recordWritten p ledger else s) s

/-- MOD_TIME_EXPIRY (11 R307): moderation of the ledger ends. -/
def execModTimeExpiry (p : Part) (ledger : Fin 4) (s : State) : Host.Outcome State Fault Refusal := flow (fun s => s.modExpires p ledger) s

/-- LEDGER_TAIL (11 R305, R307). -/
def execLedgerTail (src : Src) (p : Part) (ledger : Fin 4) (v : Word) (s : State) : Host.Outcome State Fault Refusal :=
  flow (fun s => s.cmdWrite src (K.ledgerTail p ledger) v.toNat) s

/-- ALLWAIT_GRACE_EXPIRY (11 R309). -/
def execAllwaitGraceExpiry (p : Part) (s : State) : Host.Outcome State Fault Refusal := flow (fun s => s.graceOver p) s

/-- EVIN_ACCEPTED (11 R291, R292). -/
def execEvinAccepted (pin : Fin 64) (level : Bool) (s : State) : Host.Outcome State Fault Refusal :=
  flow (fun s => if s.viom then s.pinAccepts pin level else s) s

end Sys2Proof.Machine
end

