-- ==== Sys2Proof/Machine/Fences.lean ====
section
/-! DEFINITION. The commands that fence units (15 R394, R395). -/

namespace Sys2Proof.Machine

/-- FENCE_SLICE (15 R394). -/
def execFenceSlice (src : Src) (v : Word) (s : State) : Host.Outcome State Fault Refusal :=
  flow (fun s => s.cmdWrite src (K.fenceSlice) v.toNat) s

/-- FENCE_DC (15 R394). -/
def execFenceDc (src : Src) (v : Word) (s : State) : Host.Outcome State Fault Refusal :=
  flow (fun s => s.cmdWrite src (K.fenceDc) v.toNat) s

/-- FENCE_ML (15 R394). -/
def execFenceMl (src : Src) (v : Word) (s : State) : Host.Outcome State Fault Refusal :=
  flow (fun s => s.cmdWrite src (K.fenceMl) v.toNat) s

/-- FENCE_PORT (15 R394). -/
def execFencePort (src : Src) (v : BitVec 64) (s : State) : Host.Outcome State Fault Refusal :=
  flow (fun s => s.cmdWrite src (K.fencePort) v.toNat) s

/-- FENCE_ACC (15 R394). -/
def execFenceAcc (src : Src) (v : Word) (s : State) : Host.Outcome State Fault Refusal :=
  flow (fun s => s.cmdWrite src (K.fenceAcc) v.toNat) s

end Sys2Proof.Machine
end

