-- ==== Sys2Proof/Machine/Field.lean ====
section
/-! DEFINITION. The commands of field control (16) and the write of any other register (17 R427). -/

namespace Sys2Proof.Machine

/-- IDENT (16 R404). -/
def execIdent (f : JopFrame) (s : State) : Host.Outcome State Fault Refusal := flow (fun s => s.jopRequest 0x01 f) s

/-- READ (16 R404). -/
def execRead (f : JopFrame) (s : State) : Host.Outcome State Fault Refusal := flow (fun s => s.jopRequest 0x02 f) s

/-- WRITE (16 R404). -/
def execWrite (f : JopFrame) (s : State) : Host.Outcome State Fault Refusal := flow (fun s => s.jopRequest 0x03 f) s

/-- STAGE (16 R412). -/
def execStage (f : JopFrame) (s : State) : Host.Outcome State Fault Refusal := flow (fun s => s.jopRequest 0x04 f) s

/-- COMMIT (16 R414). -/
def execCommit (f : JopFrame) (s : State) : Host.Outcome State Fault Refusal := flow (fun s => s.jopRequest 0x05 f) s

/-- COMMIT_SWITCH_DONE (16 R414). -/
def execCommitSwitchDone (s : State) : Host.Outcome State Fault Refusal := flow (fun s => s.commitEnds) s

/-- STAGE_DISCARD (16 R412). -/
def execStageDiscard (src : Src) (s : State) : Host.Outcome State Fault Refusal := flow (fun s => s.cmdWrite src (K.stageDiscard) 1) s

/-- SUBSCRIBE with MODE 0 (16 R410). -/
def execSubscribeCancel (f : JopFrame) (s : State) : Host.Outcome State Fault Refusal := flow (fun s => s.subscribeRow 0 f) s

/-- SUBSCRIBE with MODE 1 (16 R410). -/
def execSubscribePeriodic (f : JopFrame) (s : State) : Host.Outcome State Fault Refusal := flow (fun s => s.subscribeRow 1 f) s

/-- SUBSCRIBE with MODE 2 (16 R410). -/
def execSubscribeOnChange (f : JopFrame) (s : State) : Host.Outcome State Fault Refusal := flow (fun s => s.subscribeRow 2 f) s

/-- NOTIFY_PERIOD_EXPIRY (16 R410). -/
def execNotifyPeriodExpiry (i : Fin 16) (s : State) : Host.Outcome State Fault Refusal := flow (fun s => s.periodElapses i) s

/-- NOTIFY_ON_CHANGE (16 R410). -/
def execNotifyOnChange (i : Fin 16) (s : State) : Host.Outcome State Fault Refusal := flow (fun s => s.changeSends i) s

/-- SUB_LEASE_EXPIRY (16 R411). -/
def execSubLeaseExpiry (i : Fin 16) (s : State) : Host.Outcome State Fault Refusal := flow (fun s => s.subEnds i) s

/-- JOURNAL_READ (16 R417). -/
def execJournalRead (f : JopFrame) (s : State) : Host.Outcome State Fault Refusal := flow (fun s => s.jopRequest 0x08 f) s

/-- SEGMENT in the read direction (16 R409). -/
def execSegmentRead (f : JopFrame) (s : State) : Host.Outcome State Fault Refusal := flow (fun s => s.segmentRow 0 f) s

/-- SEGMENT in the write direction (16 R409). -/
def execSegmentWrite (f : JopFrame) (s : State) : Host.Outcome State Fault Refusal := flow (fun s => s.segmentRow 1 f) s

/-- SEGMENT_IDLE_TIMEOUT (16 R409). -/
def execSegmentIdleTimeout (i : Fin 4) (s : State) : Host.Outcome State Fault Refusal := flow (fun s => s.segIdle i) s

/-- NET_FRAME_DISCARDED (16 R400, R402). -/
def execNetFrameDiscarded (full : Bool) (s : State) : Host.Outcome State Fault Refusal := flow (fun s => s.frameDiscarded full) s

/-- OBJECT_WRITE (17 R427): a write of any register, as its Takes effect column states. -/
def execObjectWrite (src : Src) (index : BitVec 16) (sub : Byte) (value : List Byte) (s : State) : Host.Outcome State Fault Refusal :=
  flow (fun s => s.anyWrite src (okey index.toNat sub.toNat) value) s

end Sys2Proof.Machine
end

