-- ==== Sys2Proof/Machine/Links.lean ====
section
/-! DEFINITION. The commands of the links' own layers (03 R74 to R89; 04 R110, R127). -/

namespace Sys2Proof.Machine

/-- PRDY_RAISE (03 R75). -/
def execPrdyRaise (n : Port) (s : State) : Host.Outcome State Fault Refusal := flow (fun s => s.prdyRises n) s

/-- UPWIRE_RESAMPLE (03 R75). -/
def execUpwireResample (n : Port) (s : State) : Host.Outcome State Fault Refusal := flow (fun s => s.upwiresHigh n) s

/-- AALIVE_FALL (03 R74). -/
def execAaliveFall (n : Port) (s : State) : Host.Outcome State Fault Refusal := flow (fun s => s.aaliveFalls n) s

/-- AALIVE_GLITCH (03 R74). -/
def execAaliveGlitch (n : Port) (s : State) : Host.Outcome State Fault Refusal := flow (fun s => s.aaliveGlitches n) s

/-- CODE_VIOLATION (03 R81). -/
def execCodeViolation (l : LinkId) (s : State) : Host.Outcome State Fault Refusal := flow (fun s => s.rxError l 0) s

/-- SYMBOL_TIMEOUT (03 R81): a symbol left incomplete is a code violation. -/
def execSymbolTimeout (l : LinkId) (s : State) : Host.Outcome State Fault Refusal := flow (fun s => s.rxError l 0) s

/-- LINK_ACK (03 R85, R89). -/
def execLinkAck (l : LinkId) (k : Byte) (rx : Rx) (s : State) : Host.Outcome State Fault Refusal :=
  flow (fun s => s.recvLink l 0xF8 k 0 0 rx (fun s => s.ackArrives l k.toNat)) s

/-- LINK_ACK_TIMER_EXPIRY (03 R86). -/
def execLinkAckTimerExpiry (l : LinkId) (s : State) : Host.Outcome State Fault Refusal := flow (fun s => s.ackTimer l) s

/-- LINK_RESYNC (03 R88, R89). -/
def execLinkResync (l : LinkId) (k : Byte) (rx : Rx) (s : State) : Host.Outcome State Fault Refusal :=
  flow (fun s => s.recvLink l 0xF9 k 0 0 rx (fun s => s.resyncArrives l k.toNat)) s

/-- RESYNC_SETTLE_EXPIRY (03 R88). -/
def execResyncSettleExpiry (l : LinkId) (rails : BitVec 64) (s : State) : Host.Outcome State Fault Refusal :=
  flow (fun s => s.resyncSettles l rails) s

/-- LINK_READY (03 R88). -/
def execLinkReady (l : LinkId) (ack : Bool) (rx : Rx) (s : State) : Host.Outcome State Fault Refusal :=
  flow (fun s => s.recvLink l 0xFA 0 0 0 rx (fun s => s.readyArrives l ack)) s

/-- LINK_HELLO (03 R78, R79; 09 R232; 15 R386). -/
def execLinkHello (l : LinkId) (version : Byte) (flags : Byte) (rx : Rx) (s : State) : Host.Outcome State Fault Refusal :=
  flow (fun s => s.recvLink l 0xFB 0 version flags rx (fun s => s.helloArrives l version.toNat flags.toNat)) s

/-- LINK_PROGRESS_TIMEOUT (03 R89). -/
def execLinkProgressTimeout (l : LinkId) (s : State) : Host.Outcome State Fault Refusal := flow (fun s => s.noProgress l) s

/-- BRINGUP_TIMEOUT (03 R78). -/
def execBringupTimeout (l : LinkId) (s : State) : Host.Outcome State Fault Refusal := flow (fun s => s.helloTimeout l) s

/-- BRINGUP_RETRY (03 R78). -/
def execBringupRetry (l : LinkId) (s : State) : Host.Outcome State Fault Refusal := flow (fun s => s.mayRetry l) s

/-- REFUSAL_PRDY_DROP (03 R79, 04 R110). -/
def execRefusalPrdyDrop (l : LinkId) (s : State) : Host.Outcome State Fault Refusal := flow (fun s => s.refusalEnds l) s

/-- DESCRIBE_TIMEOUT (04 R110). -/
def execDescribeTimeout (n : Port) (s : State) : Host.Outcome State Fault Refusal := flow (fun s => s.describeLate n) s

/-- HOME_MAP_ACK_TIMEOUT (04 R127). -/
def execHomeMapAckTimeout (n : Port) (s : State) : Host.Outcome State Fault Refusal := flow (fun s => s.mapLate n) s

end Sys2Proof.Machine
end

