-- ==== Sys2Proof/Machine/Maintenance.lean ====
section
/-! DEFINITION. The commands of the Conservator, the scrubber, patrol and direct array access (06 R179 to R182; 08 R220 to R226; 13 R346). -/

namespace Sys2Proof.Machine

/-- INVAL_L2 (06 R179): MAINT_START with MAINT_OP 1. -/
def execInvalL2 (src : Src) (s : State) : Host.Outcome State Fault Refusal :=
  flow (fun s => if s.obj K.maintOp = 1 then s.cmdWrite src (K.maintStart) 1 else s) s

/-- RECALL_L1 (06 R179): MAINT_START with MAINT_OP 2. -/
def execRecallL1 (src : Src) (s : State) : Host.Outcome State Fault Refusal :=
  flow (fun s => if s.obj K.maintOp = 2 then s.cmdWrite src (K.maintStart) 1 else s) s

/-- PRELOAD (06 R179): MAINT_START with MAINT_OP 3. -/
def execPreload (src : Src) (s : State) : Host.Outcome State Fault Refusal :=
  flow (fun s => if s.obj K.maintOp = 3 then s.cmdWrite src (K.maintStart) 1 else s) s

/-- UNLOCK (06 R179): MAINT_START with MAINT_OP 4. -/
def execUnlock (src : Src) (s : State) : Host.Outcome State Fault Refusal :=
  flow (fun s => if s.obj K.maintOp = 4 then s.cmdWrite src (K.maintStart) 1 else s) s

/-- MAINT_ABORT (06 R182). -/
def execMaintAbort (src : Src) (s : State) : Host.Outcome State Fault Refusal := flow (fun s => s.cmdWrite src (K.maintAbort) 1) s

/-- MAINT_JOB_END (06 R182). -/
def execMaintJobEnd (s : State) : Host.Outcome State Fault Refusal := flow (fun s => s.endJob) s

/-- SCRUB_START_DC (08 R222): SCRUB_START with SCRUB_TARGET 0. -/
def execScrubStartDc (src : Src) (s : State) : Host.Outcome State Fault Refusal :=
  flow (fun s => if s.obj K.scrubTarget = 0 then s.cmdWrite src (K.scrubStart) 1 else s) s

/-- SCRUB_START_TAGS (08 R222): SCRUB_START with SCRUB_TARGET 1. -/
def execScrubStartTags (src : Src) (s : State) : Host.Outcome State Fault Refusal :=
  flow (fun s => if s.obj K.scrubTarget = 1 then s.cmdWrite src (K.scrubStart) 1 else s) s

/-- SCRUB_START_CAT (08 R222): SCRUB_START with SCRUB_TARGET 2. -/
def execScrubStartCat (src : Src) (s : State) : Host.Outcome State Fault Refusal :=
  flow (fun s => if s.obj K.scrubTarget = 2 then s.cmdWrite src (K.scrubStart) 1 else s) s

/-- SCRUB_PASS_END (08 R224). -/
def execScrubPassEnd (s : State) : Host.Outcome State Fault Refusal := flow (fun s => s.endScrub) s

/-- PATROL_DC_ROW (08 R221). -/
def execPatrolDcRow (s : State) : Host.Outcome State Fault Refusal :=
  flow (fun s => if s.patrols K.patrolDcInterval then s.patrolData else s) s

/-- PATROL_TAG_ROW (08 R221). -/
def execPatrolTagRow (s : State) : Host.Outcome State Fault Refusal :=
  flow (fun s => if s.patrols K.patrolTagInterval then s.patrolTags else s) s

/-- PATROL_CAT_ROW (08 R221). -/
def execPatrolCatRow (s : State) : Host.Outcome State Fault Refusal :=
  flow (fun s => if s.patrols K.patrolCatInterval then s.patrolCats else s) s

/-- DIAG_READ (08 R225): DIAG_GO with DIAG_OP 1. -/
def execDiagRead (src : Src) (beat : Beat) (s : State) : Host.Outcome State Fault Refusal :=
  flow (fun s => if s.obj K.diagOp = 1 then s.cmdWrite src (K.diagGo) 1 { beat := some beat } else s) s

/-- DIAG_WRITE (08 R225): DIAG_GO with DIAG_OP 2. -/
def execDiagWrite (src : Src) (s : State) : Host.Outcome State Fault Refusal :=
  flow (fun s => if s.obj K.diagOp = 2 then s.cmdWrite src (K.diagGo) 1 else s) s

/-- WRITE_RAW (08 R225): DIAG_GO with DIAG_OP 3. -/
def execWriteRaw (src : Src) (s : State) : Host.Outcome State Fault Refusal :=
  flow (fun s => if s.obj K.diagOp = 3 then s.cmdWrite src (K.diagGo) 1 else s) s

/-- CE_LOG_CLEAR (08 R220). -/
def execCeLogClear (src : Src) (s : State) : Host.Outcome State Fault Refusal := flow (fun s => s.cmdWrite src (K.ceLogClear) 1) s

/-- LL_CLEAR (13 R346). -/
def execLlClear (src : Src) (s : State) : Host.Outcome State Fault Refusal := flow (fun s => s.cmdWrite src (K.llClear) 1) s

end Sys2Proof.Machine
end

