-- ==== Sys2Proof/Machine/Modes.lean ====
section
/-! DEFINITION. The commands of power-on, presence and the operating modes (13 R347, R348; 14 R356 to R364; 15 R376 to R383). -/

namespace Sys2Proof.Machine

/-- VAON_RISE (14 R356). -/
def execVaonRise (s : State) : Host.Outcome State Fault Refusal := flow (fun s => s.vaonUp) s

/-- VAON_LOSS (18 R447). -/
def execVaonLoss (s : State) : Host.Outcome State Fault Refusal := flow (fun s => s.vaonDown) s

/-- NRESET_LOW (14 R356). -/
def execNresetLow (s : State) : Host.Outcome State Fault Refusal := flow (fun s => s.nresetFalls) s

/-- BRINGUP_RELEASE (14 R359). -/
def execBringupRelease (nodeId : BitVec 6) (tbinInRange : Bool) (offset : Word) (plcaOk : Bool) (testEn : Bool) (s : State) : Host.Outcome State Fault Refusal :=
  flow (fun s => s.released { nodeId := nodeId, tbin := tbinInRange, offset := offset.toNat, plcaOk := plcaOk } testEn) s

/-- PRESENCE_AGREED (15 R376). -/
def execPresenceAgreed (s : State) : Host.Outcome State Fault Refusal := flow (fun s => s.presAgree) s

/-- PRES_DISCREPANCY (15 R377). -/
def execPresDiscrepancy (levelA : Bool) (levelB : Bool) (s : State) : Host.Outcome State Fault Refusal :=
  flow (fun s => s.presDiscrepant levelA levelB) s

/-- PRES_DISCREPANCY_RELEASE (15 R377). -/
def execPresDiscrepancyRelease (s : State) : Host.Outcome State Fault Refusal := flow (fun s => s.presReleased) s

/-- PRES_B_LOSS (15 R378, R383). -/
def execPresBLoss (s : State) : Host.Outcome State Fault Refusal := flow (fun s => s.presBLost) s

/-- PRES_B_GLITCH (15 R378): counted where PRES_B is watched. -/
def execPresBGlitch (s : State) : Host.Outcome State Fault Refusal := flow (fun s => if s.watched then s.bump K.presBGlitches else s) s

/-- PRES_A_DISCREPANCY (15 R378). -/
def execPresADiscrepancy (s : State) : Host.Outcome State Fault Refusal := flow (fun s => s.presALow) s

/-- PRES_A_RESTORED (15 R378). -/
def execPresARestored (s : State) : Host.Outcome State Fault Refusal := flow (fun s => s.presAHigh) s

/-- PRES_BOUNCE (15 R376). -/
def execPresBounce (levelA : Bool) (levelB : Bool) (s : State) : Host.Outcome State Fault Refusal :=
  flow (fun s => s.presDiffer levelA levelB) s

/-- NSTBY_LOW (14 R356). -/
def execNstbyLow (s : State) : Host.Outcome State Fault Refusal := flow (fun s => s.nstbyFalls) s

/-- NPARK_REQ_LOW (15 R381). -/
def execNparkReqLow (s : State) : Host.Outcome State Fault Refusal := flow (fun s => s.parkRequested) s

/-- MODE_REQ_STANDBY (14 R357). -/
def execModeReqStandby (src : Src) (s : State) : Host.Outcome State Fault Refusal := flow (fun s => s.cmdWrite src (K.modeReq) 1) s

/-- MODE_REQ_BRINGUP (14 R357). -/
def execModeReqBringup (src : Src) (nodeId : BitVec 6) (tbinInRange : Bool) (offset : Word) (plcaOk : Bool) (s : State) : Host.Outcome State Fault Refusal :=
  flow (fun s => s.cmdWrite src (K.modeReq) 2 { samples := some { nodeId := nodeId, tbin := tbinInRange, offset := offset.toNat, plcaOk := plcaOk } }) s

/-- MODE_REQ_CONFIGURE (14 R357, 08 R227). -/
def execModeReqConfigure (src : Src) (s : State) : Host.Outcome State Fault Refusal := flow (fun s => s.cmdWrite src (K.modeReq) 3) s

/-- MODE_REQ_RUN (14 R361, R364). -/
def execModeReqRun (src : Src) (s : State) : Host.Outcome State Fault Refusal := flow (fun s => s.cmdWrite src (K.modeReq) 4) s

/-- MODE_REQ_RETAIN (14 R362). -/
def execModeReqRetain (src : Src) (s : State) : Host.Outcome State Fault Refusal := flow (fun s => s.cmdWrite src (K.modeReq) 6) s

/-- MODE_REQ_PARK (14 R362). -/
def execModeReqPark (src : Src) (s : State) : Host.Outcome State Fault Refusal := flow (fun s => s.cmdWrite src (K.modeReq) 7) s

/-- MODE_REQ_DRAIN (15 R381). -/
def execModeReqDrain (src : Src) (s : State) : Host.Outcome State Fault Refusal := flow (fun s => s.cmdWrite src (K.modeReq) 8) s

/-- MODE_REQ_DIAGNOSTIC (14 R356, R361). -/
def execModeReqDiagnostic (src : Src) (s : State) : Host.Outcome State Fault Refusal := flow (fun s => s.cmdWrite src (K.modeReq) 10) s

/-- PART_DOMAINS_POWERED (14 R361 steps 3 and 4). -/
def execPartDomainsPowered (s : State) : Host.Outcome State Fault Refusal := flow (fun s => s.domainsOn) s

/-- LINK_WAIT_EXPIRY (14 R361 step 5). -/
def execLinkWaitExpiry (s : State) : Host.Outcome State Fault Refusal := flow (fun s => s.linkWaitOver) s

/-- WORKING_MODE_ENTERED (14 R361 step 6). -/
def execWorkingModeEntered (s : State) : Host.Outcome State Fault Refusal := flow (fun s => s.workingEntered) s

/-- QUIESCE_COMPLETE (14 R362). -/
def execQuiesceComplete (s : State) : Host.Outcome State Fault Refusal := flow (fun s => s.quiesceEnds) s

/-- RETAIN_EXIT_COMPLETE (14 R364). -/
def execRetainExitComplete (s : State) : Host.Outcome State Fault Refusal := flow (fun s => s.retainExitEnds) s

/-- DRAIN_HOME_MAP_ACKED (15 R381). -/
def execDrainHomeMapAcked (s : State) : Host.Outcome State Fault Refusal := flow (fun s => s.drainAcked) s

/-- DRAIN_RECALLS_DONE (15 R381). -/
def execDrainRecallsDone (s : State) : Host.Outcome State Fault Refusal := flow (fun s => s.drainRecalled) s

/-- DRAIN_LIMIT_EXPIRY (14 R356). -/
def execDrainLimitExpiry (s : State) : Host.Outcome State Fault Refusal := flow (fun s => s.drainExpires) s

/-- FAULT_HOLD_FLUSH_DONE (13 R348). -/
def execFaultHoldFlushDone (s : State) : Host.Outcome State Fault Refusal := flow (fun s => s.flushDone) s

/-- HANDSHAKE_STALL (13 R347): fatal cause 2. -/
def execHandshakeStall (unit : BitVec 16) (s : State) : Host.Outcome State Fault Refusal := flow (fun s => s.fatal 2 unit.toNat 0) s

end Sys2Proof.Machine
end

