-- ==== Sys2Proof/Machine/Pair.lean ====
section
/-! DEFINITION. The commands of the pair link (15 R386 to R393). -/

namespace Sys2Proof.Machine

/-- PL_RDYO_RAISE (03 R91, 15 R396). -/
def execPlRdyoRaise (s : State) : Host.Outcome State Fault Refusal := flow (fun s => s.plRises) s

/-- PL_RDYI_RISE (03 R91). -/
def execPlRdyiRise (s : State) : Host.Outcome State Fault Refusal := flow (fun s => s.plRdyiRises) s

/-- PL_RDYI_FALL (15 R392). -/
def execPlRdyiFall (s : State) : Host.Outcome State Fault Refusal := flow (fun s => s.plRdyiFalls) s

/-- PAIR_LOSS_TIMEOUT (15 R392). -/
def execPairLossTimeout (s : State) : Host.Outcome State Fault Refusal := flow (fun s => s.plLoss) s

/-- PAIR_LINK_RESTART (15 R392). -/
def execPairLinkRestart (s : State) : Host.Outcome State Fault Refusal := flow (fun s => s.plRestarts) s

/-- PAIR_HELLO (15 R386). -/
def execPairHello (state : Byte) (home : Mask64) (mask : Mask64) (tid : Tid) (rx : Rx) (s : State) : Host.Outcome State Fault Refusal :=
  flow (fun s => s.recvPair { op := .hello, state := state.toNat, home := home, mask := mask } tid rx (fun s => s.hello state.toNat home mask)) s

/-- RANGE_GIVE (15 R391). -/
def execRangeGive (home : Mask64) (tid : Tid) (rx : Rx) (s : State) : Host.Outcome State Fault Refusal :=
  flow (fun s => s.recvPair { op := .give, home := home } tid rx (fun s => if s.pairOpen then s.takeGiven home else s)) s

/-- RANGE_TAKEN (15 R391). -/
def execRangeTaken (home : Mask64) (tid : Tid) (rx : Rx) (s : State) : Host.Outcome State Fault Refusal :=
  flow (fun s => s.recvPair { op := .taken, home := home } tid rx (fun s => if s.pairOpen then s.giveConfirmed home else s)) s

/-- RETURN_REQ (15 R391). -/
def execReturnReq (home : Mask64) (tid : Tid) (rx : Rx) (s : State) : Host.Outcome State Fault Refusal :=
  flow (fun s => s.recvPair { op := .returnReq, home := home } tid rx (fun s => if s.pairOpen && s.mode.serving then s.startGive (s.homeNow &&& home) else s)) s

/-- SURPRISE (15 R393). -/
def execSurprise (tid : Tid) (rx : Rx) (s : State) : Host.Outcome State Fault Refusal :=
  flow (fun s => s.recvPair { op := .surprise } tid rx (fun s => if s.pairOpen then s.partnerLost 1 else s)) s

/-- TAKEN_BUCKETS_SERVED (15 R389). -/
def execTakenBucketsServed (s : State) : Host.Outcome State Fault Refusal := flow (fun s => if s.takeAcked then s.serveTaken else s) s

end Sys2Proof.Machine
end

