-- ==== Sys2Proof/Machine/Partitions.lean ====
section
/-! DEFINITION. The commands of partition reset, TC_INVAL and the console window (10 R271 to R278). -/

namespace Sys2Proof.Machine

/-- GRACEFUL: PART_RESET 1 (10 R273, R274). -/
def execGraceful (src : Src) (p : Part) (s : State) : Host.Outcome State Fault Refusal := flow (fun s => s.cmdWrite src (K.partReset p) 1) s

/-- IMMEDIATE: PART_RESET 2 (10 R273, R274). -/
def execImmediate (src : Src) (p : Part) (s : State) : Host.Outcome State Fault Refusal :=
  flow (fun s => s.cmdWrite src (K.partReset p) 2) s

/-- PART_RESET_RECALLS_DONE (10 R274). -/
def execPartResetRecallsDone (p : Part) (s : State) : Host.Outcome State Fault Refusal := flow (fun s => s.recallsDone p) s

/-- PART_RESET_STORES_DONE (10 R274). -/
def execPartResetStoresDone (p : Part) (s : State) : Host.Outcome State Fault Refusal := flow (fun s => s.storesDone p) s

/-- TC_INVAL (10 R271). -/
def execTcInval (src : Src) (p : Part) (s : State) : Host.Outcome State Fault Refusal := flow (fun s => s.cmdWrite src (K.tcInval p) 1) s

/-- TC_INVAL_DONE (10 R271). -/
def execTcInvalDone (p : Part) (s : State) : Host.Outcome State Fault Refusal := flow (fun s => s.tcInvalOver p) s

/-- CONSOLE_OBJ_READ: OBJ_CTRL 1 (10 R278). -/
def execConsoleObjRead (n : Port) (page : Part) (s : State) : Host.Outcome State Fault Refusal :=
  flow (fun s => if s.consoleMay n page then s.conObjRead n page else s) s

/-- CONSOLE_OBJ_WRITE: OBJ_CTRL 2 (10 R278). -/
def execConsoleObjWrite (n : Port) (page : Part) (s : State) : Host.Outcome State Fault Refusal :=
  flow (fun s => if s.consoleMay n page then (s.conObjWrite n page).1 else s) s

/-- TIME_LO (10 R277): the value read leaves as the answer of offset 0x0008. -/
def execTimeLo (n : Port) (page : Part) (s : State) : Host.Outcome State Fault Refusal :=
  flow (fun s => if s.consoleMay n page then (s.timeLo n).1.emit (.objStatus (conSrc n page) 0x0008 0 (natBytes 4 (s.timeLo n).2)) else s) s

end Sys2Proof.Machine
end

