-- ==== Sys2Proof/Machine/Ports.lean ====
section
/-! DEFINITION. The commands of a port: requests, answers, stores, loans and reclamation (02, 04, 05 R144 to R156, 09 R254 to R258). -/

namespace Sys2Proof.Machine

/-- PORT_ENABLE (04 R129). -/
def execPortEnable (src : Src) (n : Port) (v : Byte) (s : State) : Host.Outcome State Fault Refusal :=
  flow (fun s => s.cmdWrite src (K.portEnable n) v.toNat) s

/-- DESCRIBE (04 R110). -/
def execDescribe (n : Port) (h : Hdr) (p0 : Byte) (p1 : Byte) (p2 : Byte) (p3 : Byte) (p4 : Byte) (rx : Rx) (s : State) : Host.Outcome State Fault Refusal :=
  flow (fun s => s.describeReq n h p0 p1 p2 p3 p4 rx) s

/-- HOME_MAP_ACK (04 R127). -/
def execHomeMapAck (n : Port) (tid : Tid) (sym3 : Byte) (rx : Rx) (s : State) : Host.Outcome State Fault Refusal :=
  flow (fun s => s.recvAnswer n 0x14 tid sym3 [] rx (fun s => s.mapAck n tid.toNat)) s

/-- READ_SHARED (04 R106, R114; 05 R148). -/
def execReadShared (n : Port) (h : Hdr) (addr : Word) (rx : Rx) (s : State) : Host.Outcome State Fault Refusal :=
  flow (fun s => s.lineReq n .readShared 0x01 h addr rx) s

/-- READ_OWN (04 R106, R114; 05 R148). -/
def execReadOwn (n : Port) (h : Hdr) (addr : Word) (rx : Rx) (s : State) : Host.Outcome State Fault Refusal :=
  flow (fun s => s.lineReq n .readOwn 0x02 h addr rx) s

/-- UPGRADE (04 R106, R114; 05 R148). -/
def execUpgrade (n : Port) (h : Hdr) (addr : Word) (rx : Rx) (s : State) : Host.Outcome State Fault Refusal :=
  flow (fun s => s.lineReq n .upgrade 0x03 h addr rx) s

/-- READ_UNC (04 R106; 02 R33). -/
def execReadUnc (n : Port) (h : Hdr) (addr : Word) (rx : Rx) (s : State) : Host.Outcome State Fault Refusal :=
  flow (fun s => s.uncReq n h addr rx) s

/-- PUT_PARTIAL (04 R106, R117; 02 R28). -/
def execPutPartial (n : Port) (h : Hdr) (addr : Word) (mask : Byte) (data : BitVec 64) (rx : Rx) (s : State) : Host.Outcome State Fault Refusal :=
  flow (fun s => s.putReq n h addr mask data rx) s

/-- PUT_LINE (04 R106, R117; 02 R28). -/
def execPutLine (n : Port) (h : Hdr) (addr : Word) (data : Line) (rx : Rx) (s : State) : Host.Outcome State Fault Refusal :=
  flow (fun s => s.putLineReq n h addr data rx) s

/-- ZERO_LINE (04 R106, R114; 05 R148). -/
def execZeroLine (n : Port) (h : Hdr) (addr : Word) (rx : Rx) (s : State) : Host.Outcome State Fault Refusal :=
  flow (fun s => s.lineReq n .zeroLine 0x07 h addr rx) s

/-- WRITEBACK (04 R118; 05 R152). -/
def execWriteback (n : Port) (h : Hdr) (addr : Word) (data : Line) (rx : Rx) (s : State) : Host.Outcome State Fault Refusal :=
  flow (fun s => s.writebackReq n h addr data rx) s

/-- EVICT_OFFER (04 R119; 05 R153). -/
def execEvictOffer (n : Port) (h : Hdr) (addr : Word) (data : Line) (rx : Rx) (s : State) : Host.Outcome State Fault Refusal :=
  flow (fun s => s.offerReq n h addr data rx) s

/-- LOAD_RESERVE (04 R115; 02 R43). -/
def execLoadReserve (n : Port) (h : Hdr) (addr : Word) (rx : Rx) (s : State) : Host.Outcome State Fault Refusal :=
  flow (fun s => s.reserveReq n h addr rx) s

/-- STORE_COND (04 R116; 02 R46). -/
def execStoreCond (n : Port) (h : Hdr) (addr : Word) (data : BitVec 64) (rx : Rx) (s : State) : Host.Outcome State Fault Refusal :=
  flow (fun s => s.condReq n h addr data rx) s

/-- BARRIER of PORT scope (02 R35; 04 R95). -/
def execBarrierPort (n : Port) (h : Hdr) (rx : Rx) (s : State) : Host.Outcome State Fault Refusal :=
  flow (fun s => s.barrierReq n h .port 0 rx) s

/-- BARRIER of PARTITION scope (02 R35; 04 R95). -/
def execBarrierPartition (n : Port) (h : Hdr) (rx : Rx) (s : State) : Host.Outcome State Fault Refusal :=
  flow (fun s => s.barrierReq n h .partition 1 rx) s

/-- BARRIER of SYSTEM scope (02 R35; 04 R95): SCOPE 2, and 3, which acts as 2. -/
def execBarrierSystem (n : Port) (h : Hdr) (rx : Rx) (s : State) : Host.Outcome State Fault Refusal :=
  flow (fun s => s.barrierReq n h .system (if h.attr &&& 3 = 3 then 3 else 2) rx) s

/-- LOAN_TARGET (04 R123, 09 R254). -/
def execLoanTarget (n : Port) (h : Hdr) (link : Byte) (rx : Rx) (s : State) : Host.Outcome State Fault Refusal :=
  flow (fun s => s.targetReq n h link rx) s

/-- WAIT_EVENT (04 R124). -/
def execWaitEvent (n : Port) (h : Hdr) (rx : Rx) (s : State) : Host.Outcome State Fault Refusal := flow (fun s => s.waitReq n h rx) s

/-- SLEEP_REQ (04 R125). -/
def execSleepReq (n : Port) (h : Hdr) (rx : Rx) (s : State) : Host.Outcome State Fault Refusal := flow (fun s => s.sleepReq n h rx) s

/-- SLEEP_DRAIN_DONE (04 R125). -/
def execSleepDrainDone (n : Port) (s : State) : Host.Outcome State Fault Refusal := flow (fun s => s.sleeps n) s

/-- COMP_ACK (04 R115; 05 R136). -/
def execCompAck (n : Port) (tid : Tid) (sym3 : Byte) (rx : Rx) (s : State) : Host.Outcome State Fault Refusal :=
  flow (fun s => s.recvAnswer n 0x11 tid sym3 [] rx (fun s => s.compAck n tid.toNat)) s

/-- SNOOP_RESP (04 R101, R120, R121). -/
def execSnoopResp (n : Port) (tid : Tid) (result : Byte) (rx : Rx) (s : State) : Host.Outcome State Fault Refusal :=
  flow (fun s => s.recvAnswer n 0x12 tid result [] rx (fun s => s.snoopRespIn n tid.toNat result.toNat)) s

/-- SNOOP_DATA (04 R101, R120; 02 R36). -/
def execSnoopData (n : Port) (tid : Tid) (result : Byte) (data : Line) (rx : Rx) (s : State) : Host.Outcome State Fault Refusal :=
  flow (fun s => s.recvAnswer n 0x13 tid result (lineBytes data) rx (fun s => s.snoopDataIn n tid.toNat (result.toNat / 16 % 8) data)) s

/-- SNOOP_LIMIT_EXPIRY (04 R112): the port is a dead agent. -/
def execSnoopLimitExpiry (n : Port) (tid : Tid) (s : State) : Host.Outcome State Fault Refusal := flow (fun s => s.snoopLate n tid.toNat) s

/-- COMP_ACK_TIMEOUT (05 R146): the port is a dead agent. -/
def execCompAckTimeout (n : Port) (tid : Tid) (s : State) : Host.Outcome State Fault Refusal := flow (fun s => s.grantLate n tid.toNat) s

/-- SB_AGE_DRAIN (02 R31). -/
def execSbAgeDrain (n : Port) (entry : Fin 16) (s : State) : Host.Outcome State Fault Refusal := flow (fun s => s.ageDrain n entry) s

/-- STORE_DRAIN_VISIBLE (05 R144). -/
def execStoreDrainVisible (n : Port) (entry : Fin 16) (s : State) : Host.Outcome State Fault Refusal :=
  flow (fun s => s.drainVisible n entry) s

/-- WALK_READ_DONE (10 R266). -/
def execWalkReadDone (n : Port) (s : State) : Host.Outcome State Fault Refusal := flow (fun s => s.walkDone n) s

/-- AREQ_RISE (09 R255). -/
def execAreqRise (n : Port) (s : State) : Host.Outcome State Fault Refusal := flow (fun s => s.areqRises n) s

/-- AREQ_FALL (09 R256). -/
def execAreqFall (n : Port) (s : State) : Host.Outcome State Fault Refusal := flow (fun s => s.areqFalls n) s

/-- LOAN_RELEASE (09 R256). -/
def execLoanRelease (k : Link) (s : State) : Host.Outcome State Fault Refusal := flow (fun s => s.loanReleased k) s

/-- LOAN_LIMIT_EXPIRY (09 R257). -/
def execLoanLimitExpiry (k : Link) (s : State) : Host.Outcome State Fault Refusal := flow (fun s => s.loanExpires k) s

/-- RECLAIM_DRAIN_VISIBLE (05 R156). -/
def execReclaimDrainVisible (n : Port) (s : State) : Host.Outcome State Fault Refusal := flow (fun s => s.reclaimDrained n) s

/-- RECLAIM_COMPLETE (05 R156). -/
def execReclaimComplete (n : Port) (s : State) : Host.Outcome State Fault Refusal := flow (fun s => s.reclaimOver n) s

/-- HELD_ACK (13 R341). -/
def execHeldAck (src : Src) (n : Port) (s : State) : Host.Outcome State Fault Refusal := flow (fun s => s.cmdWrite src (K.heldAck n) 1) s

/-- WAKE_REQ (04 R126). -/
def execWakeReq (src : Src) (n : Port) (s : State) : Host.Outcome State Fault Refusal := flow (fun s => s.cmdWrite src (K.wakeReq n) 1) s

end Sys2Proof.Machine
end

