-- ==== Sys2Proof/WellFormed.lean ====
section
/-! DEFINITION. Which terms are commands: the operands whose type is wider than what the row's event can carry. -/

namespace Sys2Proof

/-- A telemetry update has one value for each sensor and monitor (14 R368): 16 sensors, 8 supply monitors, 32 slice, 48 port and 8 link
rate monitors. -/
def Telemetry.wellFormed (t : Telemetry) : Bool :=
  t.temp.length == 16 && t.volt.length == 8 && t.rateMon.length == 32 && t.portRate.length == 48 && t.mlRate.length == 8

/-- Is the term a command? Every other operand's type has exactly the values that its event can carry. -/
def Instr.wellFormed : Instr → Bool
  | .telemetryUpdate t => t.wellFormed
  | .vaonRise | .vaonLoss | .nresetLow | .bringupRelease _ _ _ _ _ | .presenceAgreed | .presDiscrepancy _ _
  | .presDiscrepancyRelease | .presBLoss | .presBGlitch | .presADiscrepancy | .presARestored | .nstbyLow
  | .nparkReqLow | .modeReqStandby _ | .modeReqBringup _ _ _ _ _ | .modeReqConfigure _ | .modeReqRun _
  | .modeReqRetain _ | .modeReqPark _ | .modeReqDrain _ | .modeReqDiagnostic _ | .partDomainsPowered | .linkWaitExpiry
  | .workingModeEntered | .quiesceComplete | .retainExitComplete | .drainHomeMapAcked | .drainRecallsDone
  | .drainLimitExpiry | .faultHoldFlushDone | .handshakeStall _ | .vcoreLoss _ | .ioRailLoss | .viomLoss | .vnvmLoss
  | .tbinAppeared _ | .trimCorrection _ | .tbinLost | .tbinReturned | .calDeferExpiry _ _ | .backgroundCalibration _ _
  | .calHoldEnd _ _ | .fullCalibrationDone _ _ | .prdyRaise _ | .upwireResample _ | .aaliveFall _ | .aaliveGlitch _
  | .reclaimDrainVisible _ | .reclaimComplete _ | .portEnable _ _ _ | .codeViolation _ | .symbolTimeout _
  | .linkAck _ _ _ | .linkAckTimerExpiry _ | .linkResync _ _ _ | .resyncSettleExpiry _ _ | .linkReady _ _ _
  | .linkHello _ _ _ _ | .linkProgressTimeout _ | .bringupTimeout _ | .bringupRetry _ | .refusalPrdyDrop _
  | .describeTimeout _ | .describe _ _ _ _ _ _ _ _ | .homeMapAck _ _ _ _ | .homeMapAckTimeout _ | .readShared _ _ _ _
  | .readOwn _ _ _ _ | .upgrade _ _ _ _ | .readUnc _ _ _ _ | .putPartial _ _ _ _ _ _ | .putLine _ _ _ _ _
  | .zeroLine _ _ _ _ | .writeback _ _ _ _ _ | .evictOffer _ _ _ _ _ | .loadReserve _ _ _ _ | .storeCond _ _ _ _ _
  | .barrierPort _ _ _ | .barrierPartition _ _ _ | .barrierSystem _ _ _ | .loanTarget _ _ _ _ | .waitEvent _ _ _
  | .sleepReq _ _ _ | .sleepDrainDone _ | .compAck _ _ _ _ | .snoopResp _ _ _ _ | .snoopData _ _ _ _ _
  | .snoopLimitExpiry _ _ | .compAckTimeout _ _ | .holdWindowEnd _ | .creditLifetimeExpiry _ _ | .sbAgeDrain _ _
  | .storeDrainVisible _ _ | .walkReadDone _ | .dcReadComplete _ _ _ | .markWindowEnd _ _ | .wayErrWindowEnd _ _
  | .mergeTimeoutExpiry _ _ | .rdResp _ _ _ _ _ _ | .wrAck _ _ _ _ | .writeRetryGapExpiry _ | .mlReady _
  | .mlRdyoRaise _ | .mlDescribe _ _ _ _ _ | .mlRdyiFall _ | .mlDownLimitExpiry _ | .siRead _ _ _ _
  | .siReadInval _ _ _ _ | .siWrite _ _ _ _ _ _ | .areqRise _ | .areqFall _ | .loanRelease _ | .loanLimitExpiry _
  | .graceful _ _ | .immediate _ _ | .partResetRecallsDone _ | .partResetStoresDone _ | .tcInval _ _ | .tcInvalDone _
  | .consoleObjRead _ _ | .consoleObjWrite _ _ | .timeLo _ _ | .claim _ _ | .eoi _ _ _ | .doorbell _ _ _
  | .pendingClear _ _ _ _ | .ledgerRecordVisible _ _ | .modTimeExpiry _ _ | .ledgerTail _ _ _ _
  | .allwaitGraceExpiry _ | .evinAccepted _ _ | .wakeReq _ _ | .accReqRise _ _ _ | .accReqFall _ | .accFrameFall _
  | .mark _ _ | .rewind _ _ | .release _ _ | .flush _ _ | .accData _ _ | .accBlock _ _ | .accEnable _ _ _
  | .descriptorVisible _ | .ctrlLinePoll _ | .invalL2 _ | .recallL1 _ | .preload _ | .unlock _ | .maintAbort _
  | .maintJobEnd | .scrubStartDc _ | .scrubStartTags _ | .scrubStartCat _ | .scrubPassEnd | .patrolDcRow
  | .patrolTagRow | .patrolCatRow | .diagRead _ _ | .diagWrite _ | .writeRaw _ | .ceLogClear _ | .dcMarkA _ _ _
  | .dcMarkB _ _ _ | .wayDisabled _ _ _ | .heldAck _ _ | .llClear _ | .fenceSlice _ _ | .fenceDc _ _ | .fenceMl _ _
  | .fencePort _ _ | .fenceAcc _ _ | .plRdyoRaise | .pairHello _ _ _ _ _ | .rangeGive _ _ _ | .rangeTaken _ _ _
  | .returnReq _ _ _ | .surprise _ _ | .pairLossTimeout | .pairLinkRestart | .takenBucketsServed | .ident _ | .read _
  | .write _ | .stage _ | .commit _ | .commitSwitchDone | .stageDiscard _ | .subscribeCancel _ | .subscribePeriodic _
  | .subscribeOnChange _ | .notifyPeriodExpiry _ | .notifyOnChange _ | .subLeaseExpiry _ | .journalRead _
  | .segmentRead _ | .segmentWrite _ | .segmentIdleTimeout _ | .netFrameDiscarded _ | .objectWrite _ _ _ _
  | .calIntervalExpiry _ | .plRdyiFall | .plRdyiRise | .viomRestored _ _ | .vnvmRestored | .journalProgramDone _
  | .presBounce _ _ => true

end Sys2Proof
end

