-- ==== Sys2Proof/Machine/Power.lean ====
section
/-! DEFINITION. The commands of the rails, the journal NVM, the timebase, telemetry and calibration (07 R208 to R210; 14 R365 to R373; 18 R447). -/

namespace Sys2Proof.Machine

/-- VCORE_LOSS (14 R373): fatal cause 17, recorded where PD1 still works. -/
def execVcoreLoss (pd1Works : Bool) (s : State) : Host.Outcome State Fault Refusal := flow (fun s => s.fatal 17 0xFFFF 0 pd1Works) s

/-- IO_RAIL_LOSS (14 R373): fatal cause 18, while PD10 or PD11 is on. -/
def execIoRailLoss (s : State) : Host.Outcome State Fault Refusal := flow (fun s => if s.pd 10 || s.pd 11 then s.fatal 18 0xFFFF 0 else s) s

/-- VIOM_LOSS (18 R447). -/
def execViomLoss (s : State) : Host.Outcome State Fault Refusal := flow (fun s => s.viomFails) s

/-- VIOM_RESTORED (18 R447). -/
def execViomRestored (nodeId : BitVec 6) (plcaOk : Bool) (s : State) : Host.Outcome State Fault Refusal :=
  flow (fun s => s.viomReturns nodeId plcaOk) s

/-- VNVM_LOSS (18 R447). -/
def execVnvmLoss (s : State) : Host.Outcome State Fault Refusal := flow (fun s => s.vnvmFails) s

/-- VNVM_RESTORED (18 R447). -/
def execVnvmRestored (s : State) : Host.Outcome State Fault Refusal := flow (fun s => ({ s with vnvm := true } : State)) s

/-- JOURNAL_PROGRAM_DONE (14 R372, 16 R415). -/
def execJournalProgramDone (verified : Bool) (s : State) : Host.Outcome State Fault Refusal := flow (fun s => s.nvmDone verified) s

/-- TBIN_APPEARED (14 R365). -/
def execTbinAppeared (offset : Word) (s : State) : Host.Outcome State Fault Refusal := flow (fun s => s.tbAppears offset.toNat) s

/-- TRIM_CORRECTION (14 R365). -/
def execTrimCorrection (offset : Word) (s : State) : Host.Outcome State Fault Refusal := flow (fun s => s.tbCorrects offset.toNat) s

/-- TBIN_LOST (14 R366). -/
def execTbinLost (s : State) : Host.Outcome State Fault Refusal := flow (fun s => s.tbLost) s

/-- TBIN_RETURNED (14 R366). -/
def execTbinReturned (s : State) : Host.Outcome State Fault Refusal := flow (fun s => s.tbReturns) s

/-- TELEMETRY_UPDATE (14 R368, R369, R371); lists of a wrong length are no telemetry update. -/
def execTelemetryUpdate (t : Telemetry) (s : State) : Host.Outcome State Fault Refusal :=
  if t.wellFormed then flow (fun s => s.telemetryOp t) s else .fault (.illFormed "TELEMETRY_UPDATE")

/-- CAL_INTERVAL_EXPIRY (14 R371): a background calibration becomes due. -/
def execCalIntervalExpiry (c : Chan) (s : State) : Host.Outcome State Fault Refusal := flow (fun s => s.calTrigger c) s

/-- CAL_DEFER_EXPIRY (14 R371). -/
def execCalDeferExpiry (c : Chan) (r : CalResult) (s : State) : Host.Outcome State Fault Refusal := flow (fun s => s.calStarts c r true) s

/-- BACKGROUND_CALIBRATION (07 R209). -/
def execBackgroundCalibration (c : Chan) (r : CalResult) (s : State) : Host.Outcome State Fault Refusal :=
  flow (fun s => s.calStarts c r false) s

/-- CAL_HOLD_END (07 R210). -/
def execCalHoldEnd (c : Chan) (ticks : BitVec 16) (s : State) : Host.Outcome State Fault Refusal :=
  flow (fun s => s.holdEnds c ticks.toNat) s

/-- FULL_CALIBRATION_DONE (07 R208). -/
def execFullCalibrationDone (c : Chan) (r : CalResult) (s : State) : Host.Outcome State Fault Refusal := flow (fun s => s.fullCalEnds c r) s

end Sys2Proof.Machine
end

