-- ==== Sys2Proof/Machine/Slices.lean ====
section
/-! DEFINITION. The commands of the home slices, the L2 and the data channels (05 R142, R145; 06 R184; 07 R191 to R206). -/

namespace Sys2Proof.Machine

/-- HOLD_WINDOW_END (05 R145). -/
def execHoldWindowEnd (line : LineNo) (s : State) : Host.Outcome State Fault Refusal := flow (fun s => s.windowEnds line.toNat) s

/-- CREDIT_LIFETIME_EXPIRY (05 R142). -/
def execCreditLifetimeExpiry (h : Slice) (credit : Fin 8) (s : State) : Host.Outcome State Fault Refusal :=
  flow (fun s => s.creditExpires h credit) s

/-- WAY_ERR_WINDOW_END (06 R184): the count of the way starts anew. -/
def execWayErrWindowEnd (h : Slice) (way : Fin 16) (s : State) : Host.Outcome State Fault Refusal :=
  flow (fun s => ({ s with wayErrs := tset 0 s.wayErrs (h * 16 + way) 0 } : State)) s

/-- WAY_DISABLED (06 R184). -/
def execWayDisabled (src : Src) (h : Slice) (bits : Word) (s : State) : Host.Outcome State Fault Refusal :=
  flow (fun s => s.cmdWrite src (K.wayDisabled h) bits.toNat) s

/-- DC_READ_COMPLETE (07 R191, R197, R206). -/
def execDcReadComplete (c : Chan) (ba : BitVec 17) (burst : Burst) (s : State) : Host.Outcome State Fault Refusal :=
  flow (fun s => s.burstArrives c ba.toNat burst) s

/-- MARK_WINDOW_END (07 R199): the count of the chip starts anew. -/
def execMarkWindowEnd (c : Chan) (chip : Fin 20) (s : State) : Host.Outcome State Fault Refusal :=
  flow (fun s => ({ s with chipErrs := tset 0 s.chipErrs (c * 32 + chip) 0 } : State)) s

/-- MERGE_TIMEOUT_EXPIRY (07 R205). -/
def execMergeTimeoutExpiry (c : Chan) (ba : BitVec 17) (s : State) : Host.Outcome State Fault Refusal :=
  flow (fun s => s.mergeExpires c ba.toNat) s

/-- DC_MARK_A (07 R202). -/
def execDcMarkA (src : Src) (c : Chan) (v : Byte) (s : State) : Host.Outcome State Fault Refusal :=
  flow (fun s => s.cmdWrite src (K.dcMarkA c) v.toNat) s

/-- DC_MARK_B (07 R202). -/
def execDcMarkB (src : Src) (c : Chan) (v : Byte) (s : State) : Host.Outcome State Fault Refusal :=
  flow (fun s => s.cmdWrite src (K.dcMarkB c) v.toNat) s

end Sys2Proof.Machine
end

