-- ==== Sys2Proof/Machine/Dispatch.lean ====
section
/-! DEFINITION. One arm for each command: the meaning that the spec gives it. -/

namespace Sys2Proof.Machine

/-- The effect of a command on everything but the queue. -/
def exec (i : Instr) (s : State) : Host.Outcome State Fault Refusal :=
  match i with
  | .vaonRise => Sys2Proof.Machine.execVaonRise s
  | .vaonLoss => Sys2Proof.Machine.execVaonLoss s
  | .nresetLow => Sys2Proof.Machine.execNresetLow s
  | .bringupRelease nodeId tbinInRange offset plcaOk testEn => Sys2Proof.Machine.execBringupRelease nodeId tbinInRange offset plcaOk testEn s
  | .presenceAgreed => Sys2Proof.Machine.execPresenceAgreed s
  | .presDiscrepancy levelA levelB => Sys2Proof.Machine.execPresDiscrepancy levelA levelB s
  | .presDiscrepancyRelease => Sys2Proof.Machine.execPresDiscrepancyRelease s
  | .presBLoss => Sys2Proof.Machine.execPresBLoss s
  | .presBGlitch => Sys2Proof.Machine.execPresBGlitch s
  | .presADiscrepancy => Sys2Proof.Machine.execPresADiscrepancy s
  | .presARestored => Sys2Proof.Machine.execPresARestored s
  | .nstbyLow => Sys2Proof.Machine.execNstbyLow s
  | .nparkReqLow => Sys2Proof.Machine.execNparkReqLow s
  | .modeReqStandby src => Sys2Proof.Machine.execModeReqStandby src s
  | .modeReqBringup src nodeId tbinInRange offset plcaOk => Sys2Proof.Machine.execModeReqBringup src nodeId tbinInRange offset plcaOk s
  | .modeReqConfigure src => Sys2Proof.Machine.execModeReqConfigure src s
  | .modeReqRun src => Sys2Proof.Machine.execModeReqRun src s
  | .modeReqRetain src => Sys2Proof.Machine.execModeReqRetain src s
  | .modeReqPark src => Sys2Proof.Machine.execModeReqPark src s
  | .modeReqDrain src => Sys2Proof.Machine.execModeReqDrain src s
  | .modeReqDiagnostic src => Sys2Proof.Machine.execModeReqDiagnostic src s
  | .partDomainsPowered => Sys2Proof.Machine.execPartDomainsPowered s
  | .linkWaitExpiry => Sys2Proof.Machine.execLinkWaitExpiry s
  | .workingModeEntered => Sys2Proof.Machine.execWorkingModeEntered s
  | .quiesceComplete => Sys2Proof.Machine.execQuiesceComplete s
  | .retainExitComplete => Sys2Proof.Machine.execRetainExitComplete s
  | .drainHomeMapAcked => Sys2Proof.Machine.execDrainHomeMapAcked s
  | .drainRecallsDone => Sys2Proof.Machine.execDrainRecallsDone s
  | .drainLimitExpiry => Sys2Proof.Machine.execDrainLimitExpiry s
  | .faultHoldFlushDone => Sys2Proof.Machine.execFaultHoldFlushDone s
  | .handshakeStall unit => Sys2Proof.Machine.execHandshakeStall unit s
  | .vcoreLoss pd1Works => Sys2Proof.Machine.execVcoreLoss pd1Works s
  | .ioRailLoss => Sys2Proof.Machine.execIoRailLoss s
  | .viomLoss => Sys2Proof.Machine.execViomLoss s
  | .vnvmLoss => Sys2Proof.Machine.execVnvmLoss s
  | .tbinAppeared offset => Sys2Proof.Machine.execTbinAppeared offset s
  | .trimCorrection offset => Sys2Proof.Machine.execTrimCorrection offset s
  | .tbinLost => Sys2Proof.Machine.execTbinLost s
  | .tbinReturned => Sys2Proof.Machine.execTbinReturned s
  | .telemetryUpdate t => Sys2Proof.Machine.execTelemetryUpdate t s
  | .calDeferExpiry c r => Sys2Proof.Machine.execCalDeferExpiry c r s
  | .backgroundCalibration c r => Sys2Proof.Machine.execBackgroundCalibration c r s
  | .calHoldEnd c ticks => Sys2Proof.Machine.execCalHoldEnd c ticks s
  | .fullCalibrationDone c r => Sys2Proof.Machine.execFullCalibrationDone c r s
  | .prdyRaise n => Sys2Proof.Machine.execPrdyRaise n s
  | .upwireResample n => Sys2Proof.Machine.execUpwireResample n s
  | .aaliveFall n => Sys2Proof.Machine.execAaliveFall n s
  | .aaliveGlitch n => Sys2Proof.Machine.execAaliveGlitch n s
  | .reclaimDrainVisible n => Sys2Proof.Machine.execReclaimDrainVisible n s
  | .reclaimComplete n => Sys2Proof.Machine.execReclaimComplete n s
  | .portEnable src n v => Sys2Proof.Machine.execPortEnable src n v s
  | .codeViolation l => Sys2Proof.Machine.execCodeViolation l s
  | .symbolTimeout l => Sys2Proof.Machine.execSymbolTimeout l s
  | .linkAck l k rx => Sys2Proof.Machine.execLinkAck l k rx s
  | .linkAckTimerExpiry l => Sys2Proof.Machine.execLinkAckTimerExpiry l s
  | .linkResync l k rx => Sys2Proof.Machine.execLinkResync l k rx s
  | .resyncSettleExpiry l rails => Sys2Proof.Machine.execResyncSettleExpiry l rails s
  | .linkReady l ack rx => Sys2Proof.Machine.execLinkReady l ack rx s
  | .linkHello l version flags rx => Sys2Proof.Machine.execLinkHello l version flags rx s
  | .linkProgressTimeout l => Sys2Proof.Machine.execLinkProgressTimeout l s
  | .bringupTimeout l => Sys2Proof.Machine.execBringupTimeout l s
  | .bringupRetry l => Sys2Proof.Machine.execBringupRetry l s
  | .refusalPrdyDrop l => Sys2Proof.Machine.execRefusalPrdyDrop l s
  | .describeTimeout n => Sys2Proof.Machine.execDescribeTimeout n s
  | .describe n h p0 p1 p2 p3 p4 rx => Sys2Proof.Machine.execDescribe n h p0 p1 p2 p3 p4 rx s
  | .homeMapAck n tid sym3 rx => Sys2Proof.Machine.execHomeMapAck n tid sym3 rx s
  | .homeMapAckTimeout n => Sys2Proof.Machine.execHomeMapAckTimeout n s
  | .readShared n h addr rx => Sys2Proof.Machine.execReadShared n h addr rx s
  | .readOwn n h addr rx => Sys2Proof.Machine.execReadOwn n h addr rx s
  | .upgrade n h addr rx => Sys2Proof.Machine.execUpgrade n h addr rx s
  | .readUnc n h addr rx => Sys2Proof.Machine.execReadUnc n h addr rx s
  | .putPartial n h addr mask data rx => Sys2Proof.Machine.execPutPartial n h addr mask data rx s
  | .putLine n h addr data rx => Sys2Proof.Machine.execPutLine n h addr data rx s
  | .zeroLine n h addr rx => Sys2Proof.Machine.execZeroLine n h addr rx s
  | .writeback n h addr data rx => Sys2Proof.Machine.execWriteback n h addr data rx s
  | .evictOffer n h addr data rx => Sys2Proof.Machine.execEvictOffer n h addr data rx s
  | .loadReserve n h addr rx => Sys2Proof.Machine.execLoadReserve n h addr rx s
  | .storeCond n h addr data rx => Sys2Proof.Machine.execStoreCond n h addr data rx s
  | .barrierPort n h rx => Sys2Proof.Machine.execBarrierPort n h rx s
  | .barrierPartition n h rx => Sys2Proof.Machine.execBarrierPartition n h rx s
  | .barrierSystem n h rx => Sys2Proof.Machine.execBarrierSystem n h rx s
  | .loanTarget n h link rx => Sys2Proof.Machine.execLoanTarget n h link rx s
  | .waitEvent n h rx => Sys2Proof.Machine.execWaitEvent n h rx s
  | .sleepReq n h rx => Sys2Proof.Machine.execSleepReq n h rx s
  | .sleepDrainDone n => Sys2Proof.Machine.execSleepDrainDone n s
  | .compAck n tid sym3 rx => Sys2Proof.Machine.execCompAck n tid sym3 rx s
  | .snoopResp n tid result rx => Sys2Proof.Machine.execSnoopResp n tid result rx s
  | .snoopData n tid result data rx => Sys2Proof.Machine.execSnoopData n tid result data rx s
  | .snoopLimitExpiry n tid => Sys2Proof.Machine.execSnoopLimitExpiry n tid s
  | .compAckTimeout n tid => Sys2Proof.Machine.execCompAckTimeout n tid s
  | .holdWindowEnd line => Sys2Proof.Machine.execHoldWindowEnd line s
  | .creditLifetimeExpiry h credit => Sys2Proof.Machine.execCreditLifetimeExpiry h credit s
  | .sbAgeDrain n entry => Sys2Proof.Machine.execSbAgeDrain n entry s
  | .storeDrainVisible n entry => Sys2Proof.Machine.execStoreDrainVisible n entry s
  | .walkReadDone n => Sys2Proof.Machine.execWalkReadDone n s
  | .dcReadComplete c ba burst => Sys2Proof.Machine.execDcReadComplete c ba burst s
  | .markWindowEnd c chip => Sys2Proof.Machine.execMarkWindowEnd c chip s
  | .wayErrWindowEnd h way => Sys2Proof.Machine.execWayErrWindowEnd h way s
  | .mergeTimeoutExpiry c ba => Sys2Proof.Machine.execMergeTimeoutExpiry c ba s
  | .rdResp k tag status poison data rx => Sys2Proof.Machine.execRdResp k tag status poison data rx s
  | .wrAck k tag status rx => Sys2Proof.Machine.execWrAck k tag status rx s
  | .writeRetryGapExpiry line => Sys2Proof.Machine.execWriteRetryGapExpiry line s
  | .mlReady k => Sys2Proof.Machine.execMlReady k s
  | .mlRdyoRaise k => Sys2Proof.Machine.execMlRdyoRaise k s
  | .mlDescribe k tagsMinus1 siMax dual rx => Sys2Proof.Machine.execMlDescribe k tagsMinus1 siMax dual rx s
  | .mlRdyiFall k => Sys2Proof.Machine.execMlRdyiFall k s
  | .mlDownLimitExpiry k => Sys2Proof.Machine.execMlDownLimitExpiry k s
  | .siRead k tag addr rx => Sys2Proof.Machine.execSiRead k tag addr rx s
  | .siReadInval k tag addr rx => Sys2Proof.Machine.execSiReadInval k tag addr rx s
  | .siWrite k tag addr mask data rx => Sys2Proof.Machine.execSiWrite k tag addr mask data rx s
  | .areqRise n => Sys2Proof.Machine.execAreqRise n s
  | .areqFall n => Sys2Proof.Machine.execAreqFall n s
  | .loanRelease k => Sys2Proof.Machine.execLoanRelease k s
  | .loanLimitExpiry k => Sys2Proof.Machine.execLoanLimitExpiry k s
  | .graceful src p => Sys2Proof.Machine.execGraceful src p s
  | .immediate src p => Sys2Proof.Machine.execImmediate src p s
  | .partResetRecallsDone p => Sys2Proof.Machine.execPartResetRecallsDone p s
  | .partResetStoresDone p => Sys2Proof.Machine.execPartResetStoresDone p s
  | .tcInval src p => Sys2Proof.Machine.execTcInval src p s
  | .tcInvalDone p => Sys2Proof.Machine.execTcInvalDone p s
  | .consoleObjRead n page => Sys2Proof.Machine.execConsoleObjRead n page s
  | .consoleObjWrite n page => Sys2Proof.Machine.execConsoleObjWrite n page s
  | .timeLo n page => Sys2Proof.Machine.execTimeLo n page s
  | .claim src p => Sys2Proof.Machine.execClaim src p s
  | .eoi src p v => Sys2Proof.Machine.execEoi src p v s
  | .doorbell src p v => Sys2Proof.Machine.execDoorbell src p v s
  | .pendingClear src p w bits => Sys2Proof.Machine.execPendingClear src p w bits s
  | .ledgerRecordVisible p ledger => Sys2Proof.Machine.execLedgerRecordVisible p ledger s
  | .modTimeExpiry p ledger => Sys2Proof.Machine.execModTimeExpiry p ledger s
  | .ledgerTail src p ledger v => Sys2Proof.Machine.execLedgerTail src p ledger v s
  | .allwaitGraceExpiry p => Sys2Proof.Machine.execAllwaitGraceExpiry p s
  | .evinAccepted pin level => Sys2Proof.Machine.execEvinAccepted pin level s
  | .wakeReq src n => Sys2Proof.Machine.execWakeReq src n s
  | .accReqRise c d frame => Sys2Proof.Machine.execAccReqRise c d frame s
  | .accReqFall c => Sys2Proof.Machine.execAccReqFall c s
  | .accFrameFall c => Sys2Proof.Machine.execAccFrameFall c s
  | .mark src c => Sys2Proof.Machine.execMark src c s
  | .rewind src c => Sys2Proof.Machine.execRewind src c s
  | .release src c => Sys2Proof.Machine.execRelease src c s
  | .flush src c => Sys2Proof.Machine.execFlush src c s
  | .accData src c => Sys2Proof.Machine.execAccData src c s
  | .accBlock src c => Sys2Proof.Machine.execAccBlock src c s
  | .accEnable src c v => Sys2Proof.Machine.execAccEnable src c v s
  | .descriptorVisible c => Sys2Proof.Machine.execDescriptorVisible c s
  | .ctrlLinePoll c => Sys2Proof.Machine.execCtrlLinePoll c s
  | .invalL2 src => Sys2Proof.Machine.execInvalL2 src s
  | .recallL1 src => Sys2Proof.Machine.execRecallL1 src s
  | .preload src => Sys2Proof.Machine.execPreload src s
  | .unlock src => Sys2Proof.Machine.execUnlock src s
  | .maintAbort src => Sys2Proof.Machine.execMaintAbort src s
  | .maintJobEnd => Sys2Proof.Machine.execMaintJobEnd s
  | .scrubStartDc src => Sys2Proof.Machine.execScrubStartDc src s
  | .scrubStartTags src => Sys2Proof.Machine.execScrubStartTags src s
  | .scrubStartCat src => Sys2Proof.Machine.execScrubStartCat src s
  | .scrubPassEnd => Sys2Proof.Machine.execScrubPassEnd s
  | .patrolDcRow => Sys2Proof.Machine.execPatrolDcRow s
  | .patrolTagRow => Sys2Proof.Machine.execPatrolTagRow s
  | .patrolCatRow => Sys2Proof.Machine.execPatrolCatRow s
  | .diagRead src beat => Sys2Proof.Machine.execDiagRead src beat s
  | .diagWrite src => Sys2Proof.Machine.execDiagWrite src s
  | .writeRaw src => Sys2Proof.Machine.execWriteRaw src s
  | .ceLogClear src => Sys2Proof.Machine.execCeLogClear src s
  | .dcMarkA src c v => Sys2Proof.Machine.execDcMarkA src c v s
  | .dcMarkB src c v => Sys2Proof.Machine.execDcMarkB src c v s
  | .wayDisabled src h bits => Sys2Proof.Machine.execWayDisabled src h bits s
  | .heldAck src n => Sys2Proof.Machine.execHeldAck src n s
  | .llClear src => Sys2Proof.Machine.execLlClear src s
  | .fenceSlice src v => Sys2Proof.Machine.execFenceSlice src v s
  | .fenceDc src v => Sys2Proof.Machine.execFenceDc src v s
  | .fenceMl src v => Sys2Proof.Machine.execFenceMl src v s
  | .fencePort src v => Sys2Proof.Machine.execFencePort src v s
  | .fenceAcc src v => Sys2Proof.Machine.execFenceAcc src v s
  | .plRdyoRaise => Sys2Proof.Machine.execPlRdyoRaise s
  | .pairHello state home mask tid rx => Sys2Proof.Machine.execPairHello state home mask tid rx s
  | .rangeGive home tid rx => Sys2Proof.Machine.execRangeGive home tid rx s
  | .rangeTaken home tid rx => Sys2Proof.Machine.execRangeTaken home tid rx s
  | .returnReq home tid rx => Sys2Proof.Machine.execReturnReq home tid rx s
  | .surprise tid rx => Sys2Proof.Machine.execSurprise tid rx s
  | .pairLossTimeout => Sys2Proof.Machine.execPairLossTimeout s
  | .pairLinkRestart => Sys2Proof.Machine.execPairLinkRestart s
  | .takenBucketsServed => Sys2Proof.Machine.execTakenBucketsServed s
  | .ident f => Sys2Proof.Machine.execIdent f s
  | .read f => Sys2Proof.Machine.execRead f s
  | .write f => Sys2Proof.Machine.execWrite f s
  | .stage f => Sys2Proof.Machine.execStage f s
  | .commit f => Sys2Proof.Machine.execCommit f s
  | .commitSwitchDone => Sys2Proof.Machine.execCommitSwitchDone s
  | .stageDiscard src => Sys2Proof.Machine.execStageDiscard src s
  | .subscribeCancel f => Sys2Proof.Machine.execSubscribeCancel f s
  | .subscribePeriodic f => Sys2Proof.Machine.execSubscribePeriodic f s
  | .subscribeOnChange f => Sys2Proof.Machine.execSubscribeOnChange f s
  | .notifyPeriodExpiry idx => Sys2Proof.Machine.execNotifyPeriodExpiry idx s
  | .notifyOnChange idx => Sys2Proof.Machine.execNotifyOnChange idx s
  | .subLeaseExpiry idx => Sys2Proof.Machine.execSubLeaseExpiry idx s
  | .journalRead f => Sys2Proof.Machine.execJournalRead f s
  | .segmentRead f => Sys2Proof.Machine.execSegmentRead f s
  | .segmentWrite f => Sys2Proof.Machine.execSegmentWrite f s
  | .segmentIdleTimeout idx => Sys2Proof.Machine.execSegmentIdleTimeout idx s
  | .netFrameDiscarded full => Sys2Proof.Machine.execNetFrameDiscarded full s
  | .objectWrite src index sub value => Sys2Proof.Machine.execObjectWrite src index sub value s
  | .calIntervalExpiry c => Sys2Proof.Machine.execCalIntervalExpiry c s
  | .plRdyiFall => Sys2Proof.Machine.execPlRdyiFall s
  | .plRdyiRise => Sys2Proof.Machine.execPlRdyiRise s
  | .viomRestored nodeId plcaOk => Sys2Proof.Machine.execViomRestored nodeId plcaOk s
  | .vnvmRestored => Sys2Proof.Machine.execVnvmRestored s
  | .journalProgramDone verified => Sys2Proof.Machine.execJournalProgramDone verified s
  | .presBounce levelA levelB => Sys2Proof.Machine.execPresBounce levelA levelB s

end Sys2Proof.Machine
end

