-- ==== Sys2Proof/Machine/Idle.lean ====
section
/-! DEFINITION. The step with no command waiting: one tick of the timebase (14 R365; assumption 1). -/

namespace Sys2Proof.Machine

/-- Device time goes on while the oscillator runs: in every mode but Off and Standby (14 R355, R365). -/
def State.tick (s : State) : State :=
  if s.clocked then { s with deviceTime := (s.deviceTime + 1) % 2 ^ 64 } else s

/-- One idle tick. -/
def idleTick (s : State) : Host.Outcome State Fault Refusal := flow State.tick s

end Sys2Proof.Machine
end

