-- ==== Sys2Proof/Safety.lean ====
section
/-! DEFINITION. The words in which claims about the hub are made: levels that are exact, stores in canonical form, what an event may
change, and a register write that is accepted. -/

namespace Sys2Proof.Machine

/-- The output levels are the ones the rules give: APn_IRQ (11 R301), PARK_RDY (15 R382), nFAULT (13 R348; 15 R377, R378). -/
def State.pinsExact (s : State) : Prop :=
  (∀ n, n < 48 → (s.irqPins.getLsbD n = true ↔ ∃ p, p < 16 ∧ s.presents p = true ∧ s.presenter p = some n)) ∧
  (s.parkRdy = true ↔ s.mode = .park ∧ s.drained = true ∧ s.parkQuiet = true ∧ (s.homeNow = 0 ∨ s.partnerUp = false) ∧ s.viom = true) ∧
  (s.nfaultLow = true ↔ (s.mode = .faultHold ∨ s.presLatched = true ∨ s.presFault = true) ∧ s.viom = true)

/-- The canonical form of a sparse table with a default for each key: keys strictly rising, no entry equal to its default. -/
def Tab.canonical {α : Type} [DecidableEq α] (d : Nat → α) (t : Tab α) : Bool := t.rising && t.all (fun x => decide (x.2 ≠ d x.1))

/-- The internal arrays are in canonical form. -/
def State.arraysWf (s : State) : Bool := s.arrays.canonical arrayDefault

/-- What raising events may change (11 R288 to R306): interrupt controllers, ledgers, and the LEDGER_DROPPED counters. -/
def State.eventsOnly (s t : State) : Prop :=
  t = { s with objs := t.objs, ctls := t.ctls, ledgers := t.ledgers } ∧ ∀ k, (∀ p l, k ≠ K.ledgerDropped p l) → t.obj k = s.obj k

/-- A register write by a command is accepted: its source may make an access and every check passes (16 R406). -/
abbrev State.accepts (s : State) (src : Src) (k v : Nat) : Prop :=
  s.srcPresent src = true ∧ s.writeStatus src k (natBytes (objWidth k) v) false = 0

/-- The state with the journal entry of an accepted write of `new` (16 R415, R416): OLD is what the register reads, 0 for one that
cannot be read. -/
def State.noted (s : State) (src : Src) (k new : Nat) : State :=
  match lookupRow (k / 256) (k % 256) with
  | none => s.begin
  | some r => s.begin.journal k 1 (s.journalSrc src) false r.ty.bytes (s.begin.oldValue k r.acc) new

/-- The register that a command writes, and the value: every row of the table that is one register's write, with the condition that the
row's other registers put on it (06 R179; 08 R222, R225). -/
def State.registerWrite (s : State) : Instr → Option (Src × Nat × Nat × Extras)
  | .modeReqStandby src => some (src, K.modeReq, 1, {})
  | .modeReqBringup src n t o p => some (src, K.modeReq, 2, { samples := some { nodeId := n, tbin := t, offset := o.toNat, plcaOk := p } })
  | .modeReqConfigure src => some (src, K.modeReq, 3, {})
  | .modeReqRun src => some (src, K.modeReq, 4, {})
  | .modeReqRetain src => some (src, K.modeReq, 6, {})
  | .modeReqPark src => some (src, K.modeReq, 7, {})
  | .modeReqDrain src => some (src, K.modeReq, 8, {})
  | .modeReqDiagnostic src => some (src, K.modeReq, 10, {})
  | .fenceSlice src v => some (src, K.fenceSlice, v.toNat, {})
  | .fenceDc src v => some (src, K.fenceDc, v.toNat, {})
  | .fenceMl src v => some (src, K.fenceMl, v.toNat, {})
  | .fencePort src v => some (src, K.fencePort, v.toNat, {})
  | .fenceAcc src v => some (src, K.fenceAcc, v.toNat, {})
  | .portEnable src n v => some (src, K.portEnable n, v.toNat, {})
  | .heldAck src n => some (src, K.heldAck n, 1, {})
  | .wakeReq src n => some (src, K.wakeReq n, 1, {})
  | .wayDisabled src h v => some (src, K.wayDisabled h, v.toNat, {})
  | .dcMarkA src c v => some (src, K.dcMarkA c, v.toNat, {})
  | .dcMarkB src c v => some (src, K.dcMarkB c, v.toNat, {})
  | .graceful src p => some (src, K.partReset p, 1, {})
  | .immediate src p => some (src, K.partReset p, 2, {})
  | .tcInval src p => some (src, K.tcInval p, 1, {})
  | .eoi src p v => some (src, K.eoi p, v.toNat, {})
  | .doorbell src p v => some (src, K.doorbell p, v.toNat, {})
  | .pendingClear src p w v => some (src, K.pending p w, v.toNat, {})
  | .ledgerTail src p l v => some (src, K.ledgerTail p l, v.toNat, {})
  | .mark src c => some (src, K.accCmd c, 1, {})
  | .rewind src c => some (src, K.accCmd c, 2, {})
  | .release src c => some (src, K.accCmd c, 3, {})
  | .flush src c => some (src, K.accCmd c, 4, {})
  | .accEnable src c v => some (src, K.accEnable c, v.toNat, {})
  | .invalL2 src => if s.obj K.maintOp = 1 then some (src, K.maintStart, 1, {}) else none
  | .recallL1 src => if s.obj K.maintOp = 2 then some (src, K.maintStart, 1, {}) else none
  | .preload src => if s.obj K.maintOp = 3 then some (src, K.maintStart, 1, {}) else none
  | .unlock src => if s.obj K.maintOp = 4 then some (src, K.maintStart, 1, {}) else none
  | .maintAbort src => some (src, K.maintAbort, 1, {})
  | .scrubStartDc src => if s.obj K.scrubTarget = 0 then some (src, K.scrubStart, 1, {}) else none
  | .scrubStartTags src => if s.obj K.scrubTarget = 1 then some (src, K.scrubStart, 1, {}) else none
  | .scrubStartCat src => if s.obj K.scrubTarget = 2 then some (src, K.scrubStart, 1, {}) else none
  | .diagRead src b => if s.obj K.diagOp = 1 then some (src, K.diagGo, 1, { beat := some b }) else none
  | .diagWrite src => if s.obj K.diagOp = 2 then some (src, K.diagGo, 1, {}) else none
  | .writeRaw src => if s.obj K.diagOp = 3 then some (src, K.diagGo, 1, {}) else none
  | .ceLogClear src => some (src, K.ceLogClear, 1, {})
  | .llClear src => some (src, K.llClear, 1, {})
  | .stageDiscard src => some (src, K.stageDiscard, 1, {})
  | _ => none

/-- The state after an accepted MODE_REQ v, before its transition: MODE_REQ reads it and MODE_RESULT is 1 (14 R357). -/
def State.requested (s : State) (src : Src) (v : Nat) : State := ((s.noted src K.modeReq v).setObj K.modeReq v).setObj K.modeResult 1

/-- The answer OK to a register write that was accepted in `s` and has its effect in `t`: at once (16 R405), or, where the 64-entry queue
of the journal was full, once the write's own entry has left it (14 R372). -/
def State.saysOk (t s : State) (src : Src) (k : Nat) : State :=
  if s.journalFull then { t with due := t.due ++ [(.status src k, .journal s.nvm.next)] } else t.emit (.objStatus src k 0 [])

/-! Messages. -/

/-- A message on a Vitrine link: the link, how it was received and its symbols, the CRC symbol with them (03 R82 to R84). -/
def msg8 (l : LinkId) (body : List Byte) (rx : Rx) : Option (LinkId × RxState × List Nat) :=
  some (l, rx8 body rx, body.map BitVec.toNat ++ rxCrc rx)

/-- A packet on an Archive link (09 R235). -/
def msg32 (k : Link) (body : List Word) (rx : Rx) : Option (LinkId × RxState × List Nat) :=
  some (.arch k, rx32 body rx, body.map BitVec.toNat ++ rxCrc rx)

/-- BARRIER with the SCOPE of its row in ATTR[1:0] (04 R98). -/
def barrierBody (h : Hdr) (bits : Nat) : List Byte := taggedHeader 0x0C { h with attr := (h.attr &&& 0xFC) ||| BitVec.ofNat 8 bits } ++ []

/-- The numbered messages among the commands, as they arrive (04 R92 to R101; 09 R235 to R237; 15 R386). A PUT_PARTIAL with a zero MASK
is a framing error (04 R98). -/
def State.message (s : State) : Instr → Option (LinkId × RxState × List Nat)
  | .describe n h p0 p1 p2 p3 p4 rx => msg8 (portLink n) (taggedHeader 0x10 h ++ [p0, p1, p2, p3, p4]) rx
  | .homeMapAck n tid x rx => msg8 (portLink n) (plainHeader 0x14 tid x ++ []) rx
  | .readShared n h a rx => msg8 (portLink n) (taggedHeader 0x01 h ++ addrSymbols a) rx
  | .readOwn n h a rx => msg8 (portLink n) (taggedHeader 0x02 h ++ addrSymbols a) rx
  | .upgrade n h a rx => msg8 (portLink n) (taggedHeader 0x03 h ++ addrSymbols a) rx
  | .readUnc n h a rx => msg8 (portLink n) (taggedHeader 0x04 h ++ addrSymbols a) rx
  | .putPartial n h a m d rx =>
    msg8 (portLink n) (taggedHeader 0x05 h ++ (addrSymbols a ++ [m] ++ maskedBytes m d)) (if m = 0 then .framing else rx)
  | .putLine n h a d rx => msg8 (portLink n) (taggedHeader 0x06 h ++ (addrSymbols a ++ lineBytes d)) rx
  | .zeroLine n h a rx => msg8 (portLink n) (taggedHeader 0x07 h ++ addrSymbols a) rx
  | .writeback n h a d rx => msg8 (portLink n) (taggedHeader 0x08 h ++ (addrSymbols a ++ lineBytes d)) rx
  | .evictOffer n h a d rx => msg8 (portLink n) (taggedHeader 0x09 h ++ (addrSymbols a ++ lineBytes d)) rx
  | .loadReserve n h a rx => msg8 (portLink n) (untaggedHeader 0x0A h ++ addrSymbols a) rx
  | .storeCond n h a d rx => msg8 (portLink n) (untaggedHeader 0x0B h ++ (addrSymbols a ++ natBytes (2 ^ hSize2 h) d.toNat)) rx
  | .barrierPort n h rx => msg8 (portLink n) (barrierBody h 0) rx
  | .barrierPartition n h rx => msg8 (portLink n) (barrierBody h 1) rx
  | .barrierSystem n h rx => msg8 (portLink n) (barrierBody h (if h.attr &&& 3 = 3 then 3 else 2)) rx
  | .loanTarget n h k rx => msg8 (portLink n) (taggedHeader 0x0D h ++ [k]) rx
  | .waitEvent n h rx => msg8 (portLink n) (taggedHeader 0x0E h ++ []) rx
  | .sleepReq n h rx => msg8 (portLink n) (taggedHeader 0x0F h ++ []) rx
  | .compAck n tid x rx => msg8 (portLink n) (plainHeader 0x11 tid x ++ []) rx
  | .snoopResp n tid x rx => msg8 (portLink n) (plainHeader 0x12 tid x ++ []) rx
  | .snoopData n tid x d rx => msg8 (portLink n) (plainHeader 0x13 tid x ++ lineBytes d) rx
  | .rdResp k tag st p d rx => msg32 k (rdRespWords ((s.ml k).tagged tag.toNat) tag.toNat st.toNat p d) rx
  | .wrAck k tag st rx => msg32 k [packetHeader 0x82 tag.toNat st.toNat 0 false false false] rx
  | .mlDescribe k t si d rx => msg32 k [describeWord t si d] rx
  | .siRead k tag a rx => msg32 k (siWords 0x90 tag a) rx
  | .siReadInval k tag a rx => msg32 k (siWords 0x91 tag a) rx
  | .siWrite k tag a m d rx => msg32 k (siWords 0x92 tag a ++ maskWords m ++ lineWords d) rx
  | .pairHello st home mask tid rx => msg8 .pair (({ op := .hello, state := st.toNat, home := home, mask := mask } : PairMsg).symbols tid) rx
  | .rangeGive home tid rx => msg8 .pair (({ op := .give, home := home } : PairMsg).symbols tid) rx
  | .rangeTaken home tid rx => msg8 .pair (({ op := .taken, home := home } : PairMsg).symbols tid) rx
  | .returnReq home tid rx => msg8 .pair (({ op := .returnReq, home := home } : PairMsg).symbols tid) rx
  | .surprise tid rx => msg8 .pair (({ op := .surprise } : PairMsg).symbols tid) rx
  | _ => none

/-- The link-layer messages among the commands: the link, whether it is a LINK_HELLO, how it was received and its symbols (03 R77). -/
def linkMessage : Instr → Option (LinkId × Bool × RxState × List Nat)
  | .linkAck l k rx => some (l, false, linkShape l 0xF8 k 0 0 rx)
  | .linkResync l k rx => some (l, false, linkShape l 0xF9 k 0 0 rx)
  | .linkReady l _ rx => some (l, false, linkShape l 0xFA 0 0 0 rx)
  | .linkHello l v f rx => some (l, true, linkShape l 0xFB 0 v f rx)
  | _ => none
where
  linkShape (l : LinkId) (op arg version flags : Byte) (rx : Rx) : RxState × List Nat :=
    if isArch l then
      let body : List Word := [version ++ flags ++ arg ++ op]
      (rx32 body rx, body.map BitVec.toNat ++ rxCrc rx)
    else
      let body : List Byte := if op == 0xFB then [op, version, flags] else [op, arg]
      (rx8 body rx, body.map BitVec.toNat ++ rxCrc rx)

/-- A link hears: it is up and its receiving direction is not being resynchronised (03 R87, R88). -/
abbrev State.hears (s : State) (l : LinkId) : Prop := (s.link l).phase = .up ∧ (s.link l).rxResync = false

/-- A link's end listens: its LINK_HELLO exchange has ended and its receiving direction is not being resynchronised (03 R78, R87, R88). -/
abbrev State.listens (s : State) (l : LinkId) : Prop := (s.link l).ended = true ∧ (s.link l).rxResync = false

/-- A link's end hears nothing: it is down, or its receiving direction is being resynchronised (03 R87, R88). -/
abbrev State.deafTo (s : State) (l : LinkId) : Prop :=
  (s.link l).phase = .down ∨ ((s.link l).ended = true ∧ (s.link l).rxResync = true)

/-- A link's end is in bring-up, its LINK_HELLO exchange not ended (03 R78, R79). -/
abbrev State.greeting (s : State) (l : LinkId) : Prop := (s.link l).phase = .hello ∨ (s.link l).phase = .refused

/-- The state once a good numbered message with these symbols has been delivered, before anything is done with it (03 R58, R80, R86). -/
def State.took (s : State) (l : LinkId) (syms : List Nat) : State := (s.begin.capture l syms).delivered l

/-- The state once a request has been delivered at port n: a held WAIT_EVENT is answered and a sleeping port is awake (04 R124 to R126). -/
def State.reached (s : State) (n : Nat) (syms : List Nat) : State := (s.took (portLink n) syms).stirs n

/-- A request that a port takes now: the port is in Run, the TID is free, and a tagged request has a place among MAX_OUTSTANDING (04 R105,
R111). -/
abbrev PortSt.takes (p : PortSt) (tid : Nat) (tagged : Bool) : Prop :=
  p.mode = .run ∧ p.hasTid tid = false ∧ (tagged = true → p.tagged < p.maxTagged)

/-- A request of a port as its checks see it: its TID, whether it is tagged, whether its form is legal, the opcode of its response and
its kind. -/
structure Asked where
  port : Nat
  tid : Nat
  tagged : Bool := true
  legal : Bool
  resp : DownOp
  kind : Kind := .other
deriving DecidableEq, Repr

/-- The requests of a port among the commands, each with its own rules of form (02 R35; 04 R92 to R95, R99, R104, R106, R110, R118 to R125;
09 R254): TID 0xFFF is not for agents, a token only on what admission may refuse, LOCKED only on what may be a device access, the
address aligned to its size, and LOAN_TARGET only with APn_AREQ low. -/
def State.asked (s : State) : Instr → Option Asked
  | .readShared n h a _ => tagged n h .dataResp (a.toNat % 64 = 0 ∧ hLocked h = false)
  | .readOwn n h a _ => tagged n h .dataResp (a.toNat % 64 = 0 ∧ hLocked h = false)
  | .upgrade n h a _ => tagged n h .grantResp (a.toNat % 64 = 0 ∧ hLocked h = false)
  | .zeroLine n h a _ => tagged n h .grantResp (a.toNat % 64 = 0 ∧ hLocked h = false)
  | .readUnc n h a _ => tagged n h .rdata (hSize3 h ≠ 7 ∧ a.toNat % 2 ^ hSize3 h = 0)
  | .putPartial n h a _ _ _ => tagged n h .complete (a.toNat % 8 = 0 ∧ hHasToken h = false)
  | .putLine n h a _ _ => tagged n h .complete (a.toNat % 64 = 0 ∧ hHasToken h = false)
  | .writeback n h a _ _ => tagged n h .complete (a.toNat % 64 = 0 ∧ plain h) .evict
  | .evictOffer n h a _ _ => tagged n h .complete (a.toNat % 64 = 0 ∧ plain h) .evict
  | .loadReserve n h a _ =>
    some { port := n, tid := 0xFFF, tagged := false, legal := decide (a.toNat % 64 = 0 ∧ hLocked h = false), resp := .dataResp }
  | .storeCond n h a _ _ =>
    some { port := n, tid := 0xFFF, tagged := false, legal := decide (a.toNat % 2 ^ hSize2 h = 0 ∧ plain h), resp := .complete
           kind := .cond }
  | .barrierPort n h _ => tagged n h .complete (plain h) .barrier
  | .barrierPartition n h _ => tagged n h .complete (plain h) .barrier
  | .barrierSystem n h _ => tagged n h .complete (plain h) .barrier
  | .loanTarget n h _ _ => tagged n h .complete (plain h ∧ (s.port n).areq = false) .now
  | .waitEvent n h _ => tagged n h .complete (plain h) .now
  | .sleepReq n h _ => tagged n h .sleepAck (plain h) .now
  | .describe n h _ _ _ _ _ _ => tagged n h .complete (plain h) .describe
  | _ => none
where
  plain (h : Hdr) : Bool := !hHasToken h && !hLocked h
  tagged (n : Nat) (h : Hdr) (resp : DownOp) (p : Prop) [Decidable p] (kind : Kind := .other) : Option Asked :=
    some { port := n, tid := h.tid.toNat, legal := decide (h.tid ≠ 0xFFF ∧ p), resp := resp, kind := kind }

/-! What each command does. -/

/-- The hub's operation for each command, the one that the rules of the command's row in the opcode table describe. The names are those of
the shared operations; each says its rules. -/
def State.effect (s : State) : Instr → State
  | .vaonRise => s.vaonUp
  | .vaonLoss => s.vaonDown
  | .nresetLow => s.nresetFalls
  | .bringupRelease nodeId tbinInRange offset plcaOk testEn =>
    s.released { nodeId := nodeId, tbin := tbinInRange, offset := offset.toNat, plcaOk := plcaOk } testEn
  | .presenceAgreed => s.presAgree
  | .presDiscrepancy levelA levelB => s.presDiscrepant levelA levelB
  | .presDiscrepancyRelease => s.presReleased
  | .presBLoss => s.presBLost
  | .presBGlitch => if s.watched then s.bump K.presBGlitches else s
  | .presADiscrepancy => s.presALow
  | .presARestored => s.presAHigh
  | .nstbyLow => s.nstbyFalls
  | .nparkReqLow => s.parkRequested
  | .modeReqStandby src => s.cmdWrite src (K.modeReq) 1
  | .modeReqBringup src nodeId tbinInRange offset plcaOk =>
    s.cmdWrite src (K.modeReq) 2 { samples := some { nodeId := nodeId, tbin := tbinInRange, offset := offset.toNat, plcaOk := plcaOk } }
  | .modeReqConfigure src => s.cmdWrite src (K.modeReq) 3
  | .modeReqRun src => s.cmdWrite src (K.modeReq) 4
  | .modeReqRetain src => s.cmdWrite src (K.modeReq) 6
  | .modeReqPark src => s.cmdWrite src (K.modeReq) 7
  | .modeReqDrain src => s.cmdWrite src (K.modeReq) 8
  | .modeReqDiagnostic src => s.cmdWrite src (K.modeReq) 10
  | .partDomainsPowered => s.domainsOn
  | .linkWaitExpiry => s.linkWaitOver
  | .workingModeEntered => s.workingEntered
  | .quiesceComplete => s.quiesceEnds
  | .retainExitComplete => s.retainExitEnds
  | .drainHomeMapAcked => s.drainAcked
  | .drainRecallsDone => s.drainRecalled
  | .drainLimitExpiry => s.drainExpires
  | .faultHoldFlushDone => s.flushDone
  | .handshakeStall unit => s.fatal 2 unit.toNat 0
  | .vcoreLoss pd1Works => s.fatal 17 0xFFFF 0 pd1Works
  | .ioRailLoss => if s.pd 10 || s.pd 11 then s.fatal 18 0xFFFF 0 else s
  | .viomLoss => s.viomFails
  | .vnvmLoss => s.vnvmFails
  | .tbinAppeared offset => s.tbAppears offset.toNat
  | .trimCorrection offset => s.tbCorrects offset.toNat
  | .tbinLost => s.tbLost
  | .tbinReturned => s.tbReturns
  | .telemetryUpdate t => s.telemetryOp t
  | .calDeferExpiry c r => s.calStarts c r true
  | .backgroundCalibration c r => s.calStarts c r false
  | .calHoldEnd c ticks => s.holdEnds c ticks.toNat
  | .fullCalibrationDone c r => s.fullCalEnds c r
  | .prdyRaise n => s.prdyRises n
  | .upwireResample n => s.upwiresHigh n
  | .aaliveFall n => s.aaliveFalls n
  | .aaliveGlitch n => s.aaliveGlitches n
  | .reclaimDrainVisible n => s.reclaimDrained n
  | .reclaimComplete n => s.reclaimOver n
  | .portEnable src n v => s.cmdWrite src (K.portEnable n) v.toNat
  | .codeViolation l => s.rxError l 0
  | .symbolTimeout l => s.rxError l 0
  | .linkAck l k rx => s.recvLink l 0xF8 k 0 0 rx (fun s => s.ackArrives l k.toNat)
  | .linkAckTimerExpiry l => s.ackTimer l
  | .linkResync l k rx => s.recvLink l 0xF9 k 0 0 rx (fun s => s.resyncArrives l k.toNat)
  | .resyncSettleExpiry l rails => s.resyncSettles l rails
  | .linkReady l ack rx => s.recvLink l 0xFA 0 0 0 rx (fun s => s.readyArrives l ack)
  | .linkHello l version flags rx => s.recvLink l 0xFB 0 version flags rx (fun s => s.helloArrives l version.toNat flags.toNat)
  | .linkProgressTimeout l => s.noProgress l
  | .bringupTimeout l => s.helloTimeout l
  | .bringupRetry l => s.mayRetry l
  | .refusalPrdyDrop l => s.refusalEnds l
  | .describeTimeout n => s.describeLate n
  | .describe n h p0 p1 p2 p3 p4 rx => s.describeReq n h p0 p1 p2 p3 p4 rx
  | .homeMapAck n tid sym3 rx => s.recvAnswer n 0x14 tid sym3 [] rx (fun s => s.mapAck n tid.toNat)
  | .homeMapAckTimeout n => s.mapLate n
  | .readShared n h addr rx => s.lineReq n .readShared 0x01 h addr rx
  | .readOwn n h addr rx => s.lineReq n .readOwn 0x02 h addr rx
  | .upgrade n h addr rx => s.lineReq n .upgrade 0x03 h addr rx
  | .readUnc n h addr rx => s.uncReq n h addr rx
  | .putPartial n h addr mask data rx => s.putReq n h addr mask data rx
  | .putLine n h addr data rx => s.putLineReq n h addr data rx
  | .zeroLine n h addr rx => s.lineReq n .zeroLine 0x07 h addr rx
  | .writeback n h addr data rx => s.writebackReq n h addr data rx
  | .evictOffer n h addr data rx => s.offerReq n h addr data rx
  | .loadReserve n h addr rx => s.reserveReq n h addr rx
  | .storeCond n h addr data rx => s.condReq n h addr data rx
  | .barrierPort n h rx => s.barrierReq n h .port 0 rx
  | .barrierPartition n h rx => s.barrierReq n h .partition 1 rx
  | .barrierSystem n h rx => s.barrierReq n h .system (if h.attr &&& 3 = 3 then 3 else 2) rx
  | .loanTarget n h link rx => s.targetReq n h link rx
  | .waitEvent n h rx => s.waitReq n h rx
  | .sleepReq n h rx => s.sleepReq n h rx
  | .sleepDrainDone n => s.sleeps n
  | .compAck n tid sym3 rx => s.recvAnswer n 0x11 tid sym3 [] rx (fun s => s.compAck n tid.toNat)
  | .snoopResp n tid result rx => s.recvAnswer n 0x12 tid result [] rx (fun s => s.snoopRespIn n tid.toNat result.toNat)
  | .snoopData n tid result data rx =>
    s.recvAnswer n 0x13 tid result (lineBytes data) rx (fun s => s.snoopDataIn n tid.toNat (result.toNat / 16 % 8) data)
  | .snoopLimitExpiry n tid => s.snoopLate n tid.toNat
  | .compAckTimeout n tid => s.grantLate n tid.toNat
  | .holdWindowEnd line => s.windowEnds line.toNat
  | .creditLifetimeExpiry h credit => s.creditExpires h credit
  | .sbAgeDrain n entry => s.ageDrain n entry
  | .storeDrainVisible n entry => s.drainVisible n entry
  | .walkReadDone n => s.walkDone n
  | .dcReadComplete c ba burst => s.burstArrives c ba.toNat burst
  | .markWindowEnd c chip => ({ s with chipErrs := tset 0 s.chipErrs (c * 32 + chip) 0 } : State)
  | .wayErrWindowEnd h way => ({ s with wayErrs := tset 0 s.wayErrs (h * 16 + way) 0 } : State)
  | .mergeTimeoutExpiry c ba => s.mergeExpires c ba.toNat
  | .rdResp k tag status poison data rx =>
    s.recv32 (.arch k) (rdRespWords ((s.ml k).tagged tag.toNat) tag.toNat status.toNat poison data) rx
      (fun s => s.readAnswer k tag.toNat status.toNat poison data)
  | .wrAck k tag status rx =>
    s.recv32 (.arch k) [packetHeader 0x82 tag.toNat status.toNat 0 false false false] rx (fun s => s.writeAnswer k tag.toNat status.toNat)
  | .writeRetryGapExpiry line => s.gapOver line.toNat
  | .mlReady k => s.mlBothReady k
  | .mlRdyoRaise k => s.mlRises k
  | .mlDescribe k tagsMinus1 siMax dual rx =>
    s.recv32 (.arch k) [describeWord tagsMinus1 siMax dual] rx (fun s => s.mlDescribed k (tagsMinus1.toNat + 1) siMax.toNat dual)
  | .mlRdyiFall k => s.mlRdyiFalls k
  | .mlDownLimitExpiry k => s.mlExpires k
  | .siRead k tag addr rx => s.recv32 (.arch k) (siWords 0x90 tag addr) rx (fun s => s.snoopIn k .siRead tag.toNat addr.toNat 0 0)
  | .siReadInval k tag addr rx =>
    s.recv32 (.arch k) (siWords 0x91 tag addr) rx (fun s => s.snoopIn k .siReadInval tag.toNat addr.toNat 0 0)
  | .siWrite k tag addr mask data rx =>
    s.recv32 (.arch k) (siWords 0x92 tag addr ++ maskWords mask ++ lineWords data) rx
      (fun s => s.snoopIn k .siWrite tag.toNat addr.toNat mask data)
  | .areqRise n => s.areqRises n
  | .areqFall n => s.areqFalls n
  | .loanRelease k => s.loanReleased k
  | .loanLimitExpiry k => s.loanExpires k
  | .graceful src p => s.cmdWrite src (K.partReset p) 1
  | .immediate src p => s.cmdWrite src (K.partReset p) 2
  | .partResetRecallsDone p => s.recallsDone p
  | .partResetStoresDone p => s.storesDone p
  | .tcInval src p => s.cmdWrite src (K.tcInval p) 1
  | .tcInvalDone p => s.tcInvalOver p
  | .consoleObjRead n page => if s.consoleMay n page then s.conObjRead n page else s
  | .consoleObjWrite n page => if s.consoleMay n page then (s.conObjWrite n page).1 else s
  | .timeLo n page =>
    if s.consoleMay n page then (s.timeLo n).1.emit (.objStatus (conSrc n page) 0x0008 0 (natBytes 4 (s.timeLo n).2)) else s
  | .claim src p => s.regRead src (K.claim p)
  | .eoi src p v => s.cmdWrite src (K.eoi p) v.toNat
  | .doorbell src p v => s.cmdWrite src (K.doorbell p) v.toNat
  | .pendingClear src p w bits => s.cmdWrite src (K.pending p w) bits.toNat
  | .ledgerRecordVisible p ledger => if s.recordVisible p ledger then s.recordWritten p ledger else s
  | .modTimeExpiry p ledger => s.modExpires p ledger
  | .ledgerTail src p ledger v => s.cmdWrite src (K.ledgerTail p ledger) v.toNat
  | .allwaitGraceExpiry p => s.graceOver p
  | .evinAccepted pin level => if s.viom then s.pinAccepts pin level else s
  | .wakeReq src n => s.cmdWrite src (K.wakeReq n) 1
  | .accReqRise c d frame => s.accReqHigh c d frame
  | .accReqFall c => s.accReqLow c
  | .accFrameFall c => s.accFrameFalls c
  | .mark src c => s.cmdWrite src (K.accCmd c) 1
  | .rewind src c => s.cmdWrite src (K.accCmd c) 2
  | .release src c => s.cmdWrite src (K.accCmd c) 3
  | .flush src c => s.cmdWrite src (K.accCmd c) 4
  | .accData src c => s.regRead src (K.accData c)
  | .accBlock src c => s.regRead src (K.accBlock c)
  | .accEnable src c v => s.cmdWrite src (K.accEnable c) v.toNat
  | .descriptorVisible c => if s.descVisible c then s.accHeadsAdvance c else s
  | .ctrlLinePoll c => s.ctrlPoll c
  | .invalL2 src => if s.obj K.maintOp = 1 then s.cmdWrite src (K.maintStart) 1 else s
  | .recallL1 src => if s.obj K.maintOp = 2 then s.cmdWrite src (K.maintStart) 1 else s
  | .preload src => if s.obj K.maintOp = 3 then s.cmdWrite src (K.maintStart) 1 else s
  | .unlock src => if s.obj K.maintOp = 4 then s.cmdWrite src (K.maintStart) 1 else s
  | .maintAbort src => s.cmdWrite src (K.maintAbort) 1
  | .maintJobEnd => s.endJob
  | .scrubStartDc src => if s.obj K.scrubTarget = 0 then s.cmdWrite src (K.scrubStart) 1 else s
  | .scrubStartTags src => if s.obj K.scrubTarget = 1 then s.cmdWrite src (K.scrubStart) 1 else s
  | .scrubStartCat src => if s.obj K.scrubTarget = 2 then s.cmdWrite src (K.scrubStart) 1 else s
  | .scrubPassEnd => s.endScrub
  | .patrolDcRow => if s.patrols K.patrolDcInterval then s.patrolData else s
  | .patrolTagRow => if s.patrols K.patrolTagInterval then s.patrolTags else s
  | .patrolCatRow => if s.patrols K.patrolCatInterval then s.patrolCats else s
  | .diagRead src beat => if s.obj K.diagOp = 1 then s.cmdWrite src (K.diagGo) 1 { beat := some beat } else s
  | .diagWrite src => if s.obj K.diagOp = 2 then s.cmdWrite src (K.diagGo) 1 else s
  | .writeRaw src => if s.obj K.diagOp = 3 then s.cmdWrite src (K.diagGo) 1 else s
  | .ceLogClear src => s.cmdWrite src (K.ceLogClear) 1
  | .dcMarkA src c v => s.cmdWrite src (K.dcMarkA c) v.toNat
  | .dcMarkB src c v => s.cmdWrite src (K.dcMarkB c) v.toNat
  | .wayDisabled src h bits => s.cmdWrite src (K.wayDisabled h) bits.toNat
  | .heldAck src n => s.cmdWrite src (K.heldAck n) 1
  | .llClear src => s.cmdWrite src (K.llClear) 1
  | .fenceSlice src v => s.cmdWrite src (K.fenceSlice) v.toNat
  | .fenceDc src v => s.cmdWrite src (K.fenceDc) v.toNat
  | .fenceMl src v => s.cmdWrite src (K.fenceMl) v.toNat
  | .fencePort src v => s.cmdWrite src (K.fencePort) v.toNat
  | .fenceAcc src v => s.cmdWrite src (K.fenceAcc) v.toNat
  | .plRdyoRaise => s.plRises
  | .pairHello state home mask tid rx =>
    s.recvPair { op := .hello, state := state.toNat, home := home, mask := mask } tid rx (fun s => s.hello state.toNat home mask)
  | .rangeGive home tid rx => s.recvPair { op := .give, home := home } tid rx (fun s => if s.pairOpen then s.takeGiven home else s)
  | .rangeTaken home tid rx => s.recvPair { op := .taken, home := home } tid rx (fun s => if s.pairOpen then s.giveConfirmed home else s)
  | .returnReq home tid rx =>
    s.recvPair { op := .returnReq, home := home } tid rx
      (fun s => if s.pairOpen && s.mode.serving then s.startGive (s.homeNow &&& home) else s)
  | .surprise tid rx => s.recvPair { op := .surprise } tid rx (fun s => if s.pairOpen then s.partnerLost 1 else s)
  | .pairLossTimeout => s.plLoss
  | .pairLinkRestart => s.plRestarts
  | .takenBucketsServed => if s.takeAcked then s.serveTaken else s
  | .ident f => s.jopRequest 0x01 f
  | .read f => s.jopRequest 0x02 f
  | .write f => s.jopRequest 0x03 f
  | .stage f => s.jopRequest 0x04 f
  | .commit f => s.jopRequest 0x05 f
  | .commitSwitchDone => s.commitEnds
  | .stageDiscard src => s.cmdWrite src (K.stageDiscard) 1
  | .subscribeCancel f => s.subscribeRow 0 f
  | .subscribePeriodic f => s.subscribeRow 1 f
  | .subscribeOnChange f => s.subscribeRow 2 f
  | .notifyPeriodExpiry i => s.periodElapses i
  | .notifyOnChange i => s.changeSends i
  | .subLeaseExpiry i => s.subEnds i
  | .journalRead f => s.jopRequest 0x08 f
  | .segmentRead f => s.segmentRow 0 f
  | .segmentWrite f => s.segmentRow 1 f
  | .segmentIdleTimeout i => s.segIdle i
  | .netFrameDiscarded full => s.frameDiscarded full
  | .objectWrite src index sub value => s.anyWrite src (okey index.toNat sub.toNat) value
  | .calIntervalExpiry c => s.calTrigger c
  | .plRdyiFall => s.plRdyiFalls
  | .plRdyiRise => s.plRdyiRises
  | .viomRestored nodeId plcaOk => s.viomReturns nodeId plcaOk
  | .vnvmRestored => ({ s with vnvm := true } : State)
  | .journalProgramDone verified => s.nvmDone verified
  | .presBounce levelA levelB => s.presDiffer levelA levelB

end Sys2Proof.Machine
end

