-- ==== Sys2Proof/Certificates/Slice0/Obligations.lean ====
section
/-! DEFINITION. The statements about the hub. In every statement about a command, `s.begin` is `s` with the record of what the hub sends
begun anew, and `s.after t` is what the command answers when its own effect is `t`: the hub's own work follows at once, the output
levels are made exact and the queue stays (assumption 2). -/

section

open Sys2Proof Sys2Proof.Machine

/-! The step, the reset state, and what every command leaves. -/

/-- A step takes the command at the front of the queue and answers its outcome with the queue's rest. -/
def Obligations.StepRunsTheFrontCommand : Prop :=
  ∀ (c : Instr) (rest : List Instr) (s : State), step { s with pending := c :: rest } = exec c { s with pending := rest }

/-- With no command waiting one tick of the timebase passes, in every mode in which the oscillator runs (14 R365; DESIGN CHOICE,
assumption 1); what the hub does of itself follows, as after every command (assumption 2). -/
def Obligations.IdleStepCountsOneTick : Prop :=
  ∀ s : State, s.pending = [] →
    (s.mode ≠ .off → s.mode ≠ .standby →
      step s = .next (s.after { s.begin with deviceTime := (s.deviceTime + 1) % 2 ^ 64 })) ∧
    (s.mode = .off ∨ s.mode = .standby → step s = .next (s.after s.begin))

/-- Before power the hub is Off with no domain powered, no command waiting, every ready wire low, every port, controller and channel idle, and
every register at the default of its dictionary row (14 R355; 17 R424). Device time, PRES_A, PRES_B and nSTBY at 0 are the model's
choice (assumption 4). -/
def Obligations.ResetStateIsOff : Prop :=
  State.reset.mode = .off ∧ State.reset.domains = 0 ∧ State.reset.pending = [] ∧ State.reset.trans = .none ∧
  (∀ k, State.reset.obj k = defaultOf k) ∧ (∀ l, State.reset.ready l = false) ∧
  (∀ n, State.reset.port n = {}) ∧ (∀ p, State.reset.ctl p = {}) ∧ (∀ c, State.reset.acc c = {}) ∧
  (∀ a u w, State.reset.word a u w = arrayDefault (akey a u w)) ∧ State.reset.arraysWf = true ∧
  State.reset.deviceTime = 0 ∧ State.reset.presA = false ∧ State.reset.presB = false ∧ State.reset.nstby = false

/-- After every step, from any state at all, each APn_IRQ is high exactly while the port presents a partition's interrupt (11 R301),
PARK_RDY exactly in a quiet Park that Drain has handed over (15 R382), and nFAULT is low exactly in Fault-hold or during a presence
fault (13 R348; 15 R377, R378), the last two while VIOM lets them be driven (18 R447); and the queue, first in and first out, holds
exactly the commands behind the front one. -/
def Obligations.EveryStepLeavesExactPins : Prop := ∀ s t : State, step s = .next t → t.pinsExact ∧ t.pending = s.pending.tail

/-- The reset state has exact levels. -/
def Obligations.ResetPinsAreExact : Prop := State.reset.pinsExact

/-- The frame of what follows a command: when nothing of the hub's own work can move after the command's own effect `t`, every register,
array, controller, mode and journal entry, and every other part of the state, is as `t` has it. The exceptions are named: PAIR_HELLO where
it is owed (15 R386), a held WAIT_EVENT that a high APn_IRQ or a wake ends with its answer, the wake of a sleeping port (04 R124, R126),
and the output levels; a port with neither is left as it is. -/
def Obligations.AQuietHubDoesNothingOfItself : Prop :=
  ∀ s t : State, t.nextWork = none →
    (∃ u : State, u = s.after t ∧
      u = { t with
            links := u.links, ports := u.ports, sent := u.sent, pair := { t.pair with told := u.pair.told },
            commitPending := u.commitPending, irqPins := u.irqPins, parkRdy := u.parkRdy, nfaultLow := u.nfaultLow, pending := s.pending } ∧
      (∀ n, u.port n = { t.port n with
            wake := (u.port n).wake, waitEvent := (u.port n).waitEvent, outstanding := (u.port n).outstanding,
            accesses := (u.port n).accesses }) ∧
      (∀ n, t.irqShould.getLsbD n = false → (t.port n).wake = false → u.port n = t.port n) ∧
      (t.irqShould = 0 → (∀ n, (t.port n).wake = false) → u.commitPending = t.commitPending ∧ u.ports = t.ports ∧
        ((t.link .pair).phase ≠ .up → u.links = t.links ∧ u.sent = t.sent ∧ u.pair = t.pair)))

/-- Every command that is well formed completes, in every state: it answers the next state that its own operation gives, the hub's own work
following, with the queue's rest as it was. A telemetry update without one value for each sensor and monitor (14 R368) is no event of the
hub and stops by name. -/
def Obligations.WellFormedCommandsComplete : Prop :=
  (∀ (c : Instr) (s : State), c.wellFormed = true →
    exec c s = .next (s.after (s.begin.effect c)) ∧ (s.after (s.begin.effect c)).pending = s.pending) ∧
  (∀ (x : Telemetry) (s : State), x.wellFormed = false → exec (.telemetryUpdate x) s = .fault (.illFormed "TELEMETRY_UPDATE"))

/-! Codes. -/

/-- The syndrome of a stored word decides its outcome (08 R215): 0 is clean; the column of data bit i inverts that bit; weight 1 is check bit
j, as bit 32 + j, and the data stands; anything else is uncorrectable. So every single-bit error of a written word is corrected at its
place, and every double-bit error has a syndrome of even weight and is detected. -/
def Obligations.SyndromeDecidesTheOutcome : Prop :=
  (∀ w : Stored,
    (syndrome w = 0 → decodeWord w = .clean (storedData w)) ∧
    (∀ i, dataColumns[i]? = some (syndrome w) → decodeWord w = .corrected (storedData w ^^^ BitVec.ofNat 32 (2 ^ i)) i) ∧
    (∀ j, j < 7 → syndrome w = BitVec.ofNat 7 (2 ^ j) → decodeWord w = .corrected (storedData w) (32 + j)) ∧
    (syndrome w ≠ 0 → syndrome w ∉ dataColumns → (∀ j, j < 7 → syndrome w ≠ BitVec.ofNat 7 (2 ^ j)) →
      decodeWord w = .uncorrectable)) ∧
  (∀ d : Word, decodeWord (encodeWord d) = .clean d ∧
    (∀ i, i < 39 → decodeWord (encodeWord d ^^^ BitVec.ofNat 39 (2 ^ i)) = .corrected d i) ∧
    (∀ i j, i < j → j < 39 →
      decodeWord (encodeWord d ^^^ BitVec.ofNat 39 (2 ^ i) ^^^ BitVec.ofNat 39 (2 ^ j)) = .uncorrectable))

/-- A word of an internal array reads as it was written, every other word of every array reads as before, and the arrays keep their
canonical form (08 R213 to R215). -/
def Obligations.ArrayWordReadsAsWritten : Prop :=
  ∀ (s : State) (a u w : Nat) (d : Word), u < 256 → w < 65536 →
    decodeWord ((s.setWord a u w d).word a u w) = .clean d ∧
    (∀ a' u' w', u' < 256 → w' < 65536 → (a', u', w') ≠ (a, u, w) → (s.setWord a u w d).word a' u' w' = s.word a' u' w') ∧
    (s.arraysWf = true → (s.setWord a u w d).arraysWf = true)

/-! Register writes: judged, refused, accepted. -/

/-- The checks of a write come in order, and the first that fails decides (16 R406, R407): mode, existence, console rights (10 R279), access
class, size, range; with all of them passed only the state can refuse it, and a write of 0 to a command register is refused by none. -/
def Obligations.WritesAreJudgedInOrder : Prop :=
  ∀ (s : State) (src : Src) (k : Nat) (v : List Byte),
    (s.mode = .bringup → s.writeStatus src k v false = 8) ∧
    (s.mode = .faultHold → k ≠ K.fatalValid → k ≠ K.modeReq → s.writeStatus src k v false = 7) ∧
    (s.mode ≠ .bringup → s.mode ≠ .faultHold →
      (lookupRow (k / 256) (k % 256) = none → s.writeStatus src k v false = 2) ∧
      (∀ r, lookupRow (k / 256) (k % 256) = some r →
        (s.permits src k r.ty true = false → s.writeStatus src k v false = 0xFF) ∧
        (s.permits src k r.ty true = true →
          (r.acc = .const ∨ r.acc = .ro → s.writeStatus src k v false = 3) ∧
          (r.acc ≠ .const → r.acc ≠ .ro →
            (1024 < v.length → s.writeStatus src k v false = 0x0B) ∧
            (v.length ≤ 1024 → v.length ≠ r.ty.bytes → s.writeStatus src k v false = 5) ∧
            (v.length = r.ty.bytes → v.length ≤ 1024 → r.rng.ok (bytesNat v &&& r.keep) = false → s.writeStatus src k v false = 6) ∧
            (v.length = r.ty.bytes → v.length ≤ 1024 → r.rng.ok (bytesNat v &&& r.keep) = true →
              s.rangeBad k (bytesNat v &&& r.keep) = false → (r.ty = .bool → bytesNat v &&& r.keep ≤ 1) →
              (s.stateBad src k (bytesNat v &&& r.keep) = true → s.writeStatus src k v false = 7 ∨
                (r.acc = .wo ∧ r.ty = .bool ∧ bytesNat v &&& r.keep = 0)) ∧
              (s.stateBad src k (bytesNat v &&& r.keep) = false → s.writeStatus src k v false = 0))))))

/-- A register write that is refused changes nothing but its answer, and one whose source may make no access now does nothing at all: for
every row that writes a register, OBJECT_WRITE included (16 R406, R407; 10 R276). -/
def Obligations.RefusedWritesChangeNothing : Prop :=
  (∀ (s : State) (c : Instr) (src : Src) (k v : Nat) (x : Extras), s.registerWrite c = some (src, k, v, x) →
    (s.srcPresent src = false → exec c s = .next (s.after s.begin)) ∧
    (∀ st, s.srcPresent src = true → s.writeStatus src k (natBytes (objWidth k) v) false = st → st ≠ 0 →
      exec c s = .next (s.after (s.begin.emit (.objStatus src k st []))))) ∧
  (∀ (s : State) (src : Src) (i : BitVec 16) (b : Byte) (v : List Byte),
    (s.srcPresent src = false → exec (.objectWrite src i b v) s = .next (s.after s.begin)) ∧
    (∀ st, s.srcPresent src = true → s.writeStatus src (okey i.toNat b.toNat) v false = st → st ≠ 0 →
      exec (.objectWrite src i b v) s = .next (s.after (s.begin.emit (.objStatus src (okey i.toNat b.toNat) st [])))))

/-- OBJECT_WRITE of a STAGED object changes the staged copy alone: the value in force of every object, and every other staged copy, stay
until a commit (16 R412; 17 R427); the write is journalled with KIND 2, the old copy and the new one (16 R415, R416), and answered OK, once
its own entry has left the journal's queue where that was full (14 R372). -/
def Obligations.StagedWritesChangeTheCopyAlone : Prop :=
  ∀ (s : State) (src : Src) (i : BitVec 16) (b : Byte) (v : List Byte) (r : ORow) (k : Nat),
    k = okey i.toNat b.toNat → s.srcPresent src = true → s.writeStatus src k v false = 0 →
    lookupRow i.toNat b.toNat = some r → r.acc = .staged →
    ∃ t : State, exec (.objectWrite src i b v) s = .next (s.after (t.saysOk s src k)) ∧
      t = { s.begin with staged := t.staged, nvm := t.nvm } ∧
      t.stagedOf k = bytesNat v &&& r.keep ∧ (∀ j, j ≠ k → t.stagedOf j = s.stagedOf j) ∧
      t.nvm.queue = s.nvm.queue ++ [s.journalEntry k 2 (s.journalSrc src) false r.ty.bytes (s.stagedOf k) (bytesNat v &&& r.keep)] ∧
      t.nvm.next = (s.nvm.next + 1) % 2 ^ 32

/-- OBJECT_WRITE of a register that is not STAGED is journalled with KIND 1 and has the effect of its Takes effect column; COMMIT and
TC_INVAL, which are answered in their own way, have statements of their own (16 R415; 17 R427). One of a register that holds a setting and
nothing more, those of telemetry and calibration (14), of the home slices (05), the L2 (06) and the data channels (07), reads what was
written, every other register being unchanged. -/
def Obligations.SettingsReadAsWritten : Prop :=
  ∀ (s : State) (src : Src) (i : BitVec 16) (b : Byte) (v : List Byte) (r : ORow) (k w : Nat),
    k = okey i.toNat b.toNat → w = bytesNat v &&& r.keep → s.srcPresent src = true → s.writeStatus src k v false = 0 →
    lookupRow i.toNat b.toNat = some r →
    (r.acc ≠ .staged → k ≠ K.commitObj → (∀ p, p < 16 → k ≠ K.tcInval p) →
      exec (.objectWrite src i b v) s = .next (s.after (((s.noted src k w).writeEffect src k w r.acc {}).saysOk s src k)) ∧
      (s.noted src k w).nvm.queue =
        s.nvm.queue ++ [s.journalEntry k 1 (s.journalSrc src) false r.ty.bytes (s.begin.oldValue k r.acc) w]) ∧
    (r.acc = .rw → (0x1200 ≤ i.toNat ∧ i.toNat < 0x1300 ∨ i.toNat = 0x2211 ∨ i.toNat = 0x2300 ∨ i.toNat = 0x2400) →
      ∃ t : State, exec (.objectWrite src i b v) s = .next (s.after (t.saysOk s src k)) ∧
        t = { s.begin with objs := t.objs, nvm := t.nvm } ∧ t.obj k = w ∧ (∀ j, j ≠ k → t.obj j = s.obj j) ∧
        t.nvm.queue = s.nvm.queue ++ [s.journalEntry k 1 (s.journalSrc src) false r.ty.bytes (s.obj k) w])

/-! MODE_REQ. -/

/-- Accepted mode requests (14 R356, R357, R361, R362, R364; 15 R381). MODE_REQ reads the value and MODE_RESULT is 1 until the mode
changes; 1 writes the journal out and enters Standby with PD0 alone; 2 resets the hub into Bring-up with its own samples, RESET_CAUSE 2 and
MODE_RESULT 2; 3 leaves Diagnostic; 4 starts the way to the working mode, from Park at once; 6 and 7 quiesce; 8 drains; 10 starts the way
to Diagnostic. -/
def Obligations.ModeRequestsAct : Prop :=
  ∀ (s : State) (src : Src),
    (s.accepts src K.modeReq 1 → ∃ t : State, exec (.modeReqStandby src) s = .next (s.after (t.saysOk s src K.modeReq)) ∧
      t.mode = .standby ∧ t.domains = 1 ∧ t.trans = .none ∧ t.ports = [] ∧ t.links = [] ∧ t.mls = [] ∧ t.txns = [] ∧ t.arrays = [] ∧
      t.nvm.queue = [] ∧ t.obj K.modePrev = s.mode.code ∧ t.deviceTime = s.deviceTime ∧ t.sent = []) ∧
    (∀ n tb o p, s.accepts src K.modeReq 2 → ∃ t : State, exec (.modeReqBringup src n tb o p) s = .next (s.after (t.saysOk s src K.modeReq)) ∧
      t.mode = .bringup ∧ t.domains = 3 ∧ t.trans = .none ∧ t.nodeId = n ∧ t.plcaOk = p ∧ t.tbState = tb.toNat ∧
      t.obj K.resetCause = 2 ∧ t.obj K.modeResult = 2 ∧ t.obj K.modePrev = s.mode.code ∧ t.deviceTime = s.deviceTime ∧ t.ports = [] ∧
      t.links = [] ∧ t.arrays = [] ∧ t.sent = []) ∧
    (s.accepts src K.modeReq 3 → exec (.modeReqConfigure src) s =
      .next (s.after ((s.requested src 3).leaveDiagnostic.saysOk s src K.modeReq))) ∧
    (s.accepts src K.modeReq 4 →
      (s.mode = .park → exec (.modeReqRun src) s = .next (s.after
        ((({ s.requested src 4 with drained := false, transStart := s.deviceTime }).enterMode s.workingMode).saysOk s src K.modeReq))) ∧
      (s.mode = .retain → exec (.modeReqRun src) s = .next (s.after
        (({ s.requested src 4 with trans := .retainExit, transStart := s.deviceTime }).dataOn.saysOk s src K.modeReq))) ∧
      (s.mode = .configure → exec (.modeReqRun src) s = .next (s.after
        (({ (s.requested src 4).fixConfig with
            trans := .powering, transStart := (s.requested src 4).fixConfig.deviceTime, linkWaited := false }).saysOk s src K.modeReq)))) ∧
    (s.accepts src K.modeReq 6 → exec (.modeReqRetain src) s = .next (s.after
      (({ s.requested src 6 with trans := .toRetain, transStart := s.deviceTime }).drainPorts.saysOk s src K.modeReq))) ∧
    (s.accepts src K.modeReq 7 → exec (.modeReqPark src) s = .next (s.after
      (({ s.requested src 7 with trans := .toPark, transStart := s.deviceTime }).drainPorts.saysOk s src K.modeReq))) ∧
    (s.accepts src K.modeReq 8 → exec (.modeReqDrain src) s = .next (s.after
      (({ s.requested src 8 with transStart := s.deviceTime }).enterDrain.saysOk s src K.modeReq))) ∧
    (s.accepts src K.modeReq 10 → exec (.modeReqDiagnostic src) s = .next (s.after
      (({ s.requested src 10 with trans := .diagPowering, transStart := s.deviceTime }).saysOk s src K.modeReq)))

/-! Fences. -/

/-- Accepted writes of the fence registers (15 R394, R395): each register reads what was written, its reserved bits 0; a newly fenced slice,
port or accession channel is fenced unit by unit with event 26, and the working mode follows. -/
def Obligations.FenceRegistersAct : Prop :=
  ∀ (s : State) (src : Src),
    (∀ v : Word, s.accepts src K.fenceSlice v.toNat → ∃ t : State, exec (.fenceSlice src v) s = .next (s.after (t.saysOk s src K.fenceSlice)) ∧
      t = ((((newBits (s.obj K.fenceSlice) v.toNat).foldl (fun s h => s.fenceUnit K.fenceSlice 0 h)
        (s.noted src K.fenceSlice v.toNat)).setObj K.fenceSlice v.toNat).slicesRetarget).toWorking ∧ t.obj K.fenceSlice = v.toNat) ∧
    (∀ v : Word, s.accepts src K.fenceDc v.toNat → ∃ t : State, exec (.fenceDc src v) s = .next (s.after (t.saysOk s src K.fenceDc)) ∧
      t = (s.noted src K.fenceDc (v.toNat &&& 0xFF)).fenceChans (v.toNat &&& 0xFF) ∧
      (newBits (v.toNat &&& 0xFF) (s.obj K.fenceDc) = [] → t.obj K.fenceDc = v.toNat &&& 0xFF)) ∧
    (∀ v : Word, s.accepts src K.fenceMl v.toNat → ∃ t : State, exec (.fenceMl src v) s = .next (s.after (t.saysOk s src K.fenceMl)) ∧
      t = (s.noted src K.fenceMl (v.toNat &&& 0xFF)).fenceLinks (v.toNat &&& 0xFF) ∧
      (newBits (v.toNat &&& 0xFF) (s.obj K.fenceMl) = [] → t.obj K.fenceMl = v.toNat &&& 0xFF)) ∧
    (∀ v : BitVec 64, s.accepts src K.fencePort v.toNat → ∃ t : State, exec (.fencePort src v) s = .next (s.after (t.saysOk s src K.fencePort)) ∧
      t = ((((newBits (s.obj K.fencePort) (v.toNat &&& 0xFFFFFFFFFFFF)).foldl (fun s n => (s.portDies n).fenceUnit K.fencePort 3 n)
        (s.noted src K.fencePort (v.toNat &&& 0xFFFFFFFFFFFF))).setObj K.fencePort (v.toNat &&& 0xFFFFFFFFFFFF)).toWorking) ∧
      t.obj K.fencePort = v.toNat &&& 0xFFFFFFFFFFFF) ∧
    (∀ v : Word, s.accepts src K.fenceAcc v.toNat → ∃ t : State, exec (.fenceAcc src v) s = .next (s.after (t.saysOk s src K.fenceAcc)) ∧
      t = ((((newBits (s.obj K.fenceAcc) (v.toNat &&& 0xFFF)).foldl (fun s c => ((s.fenceUnit K.fenceAcc 4 c).accStop c).accEmpty c)
        (s.noted src K.fenceAcc (v.toNat &&& 0xFFF))).setObj K.fenceAcc (v.toNat &&& 0xFFF)).toWorking) ∧
      t.obj K.fenceAcc = v.toNat &&& 0xFFF)

/-! Ports, slices, channels and partitions. -/

/-- Accepted writes of the registers of ports, slices and channels. PORT_ENABLE 1 only enables, 0 lowers APn_PRDY (04 R129); HELD_ACK clears
LOSS_CAUSE and FIRST_LOSS_TIME and returns the port to Normal (13 R341); WAKE_REQ raises APn_WAKE of a sleeping port and does nothing
to another (04 R126); each bit of WAY_DISABLED written 1 enables that way again, invalid and with its count at 0 (06 R184); a changed
mark starts the count of the chip it named afresh (07 R202). -/
def Obligations.PortSliceAndChannelRegistersAct : Prop :=
  (∀ (s : State) (src : Src) (n : Port),
    (s.accepts src (K.portEnable n) 1 → exec (.portEnable src n 1) s = .next (s.after
      (((s.noted src (K.portEnable n) 1).setObj (K.portEnable n) 1).saysOk s src (K.portEnable n)))) ∧
    (s.accepts src (K.portEnable n) 0 → exec (.portEnable src n 0) s = .next (s.after
      ((((s.noted src (K.portEnable n) 0).setObj (K.portEnable n) 0).portDies n).saysOk s src (K.portEnable n)))) ∧
    (s.accepts src (K.heldAck n) 1 → exec (.heldAck src n) s = .next (s.after
      (((((s.noted src (K.heldAck n) 1).setObj (K.lossCause n) 0).setObj (K.firstLossTime n) 0).modPort n
        (fun p => { p with fence := .normal, discardAfter := none })).saysOk s src (K.heldAck n)))) ∧
    (s.accepts src (K.wakeReq n) 1 →
      ((s.port n).mode = .sleeping → exec (.wakeReq src n) s = .next (s.after
        (((s.noted src (K.wakeReq n) 1).modPort n (fun p => { p with wake := true })).saysOk s src (K.wakeReq n)))) ∧
      ((s.port n).mode ≠ .sleeping → exec (.wakeReq src n) s = .next (s.after
        ((s.noted src (K.wakeReq n) 1).saysOk s src (K.wakeReq n)))))) ∧
  (∀ (s : State) (src : Src),
    (∀ (h : Slice) (v : Word), s.accepts src (K.wayDisabled h) v.toNat → exec (.wayDisabled src h v) s = .next (s.after
      (((s.noted src (K.wayDisabled h) (v.toNat &&& 0xFFFF)).enableWays h (v.toNat &&& 0xFFFF)).saysOk s src (K.wayDisabled h)))) ∧
    (∀ (c : Chan) (v : Byte), s.accepts src (K.dcMarkA c) v.toNat → s.obj (K.dcMarkA c) ≠ v.toNat → s.obj (K.dcMarkA c) < 20 →
      exec (.dcMarkA src c v) s = .next (s.after ((({ s.noted src (K.dcMarkA c) v.toNat with
        chipErrs := tset 0 s.chipErrs (c * 32 + s.obj (K.dcMarkA c)) 0 }).setObj (K.dcMarkA c) v.toNat).saysOk s src (K.dcMarkA c)))) ∧
    (∀ (c : Chan) (v : Byte), s.accepts src (K.dcMarkA c) v.toNat → s.obj (K.dcMarkA c) = v.toNat ∨ 20 ≤ s.obj (K.dcMarkA c) →
      exec (.dcMarkA src c v) s = .next (s.after
        (((s.noted src (K.dcMarkA c) v.toNat).setObj (K.dcMarkA c) v.toNat).saysOk s src (K.dcMarkA c)))) ∧
    (∀ (c : Chan) (v : Byte), s.accepts src (K.dcMarkB c) v.toNat → s.obj (K.dcMarkB c) ≠ v.toNat → s.obj (K.dcMarkB c) < 20 →
      exec (.dcMarkB src c v) s = .next (s.after ((({ s.noted src (K.dcMarkB c) v.toNat with
        chipErrs := tset 0 s.chipErrs (c * 32 + s.obj (K.dcMarkB c)) 0 }).setObj (K.dcMarkB c) v.toNat).saysOk s src (K.dcMarkB c)))) ∧
    (∀ (c : Chan) (v : Byte), s.accepts src (K.dcMarkB c) v.toNat → s.obj (K.dcMarkB c) = v.toNat ∨ 20 ≤ s.obj (K.dcMarkB c) →
      exec (.dcMarkB src c v) s = .next (s.after
        (((s.noted src (K.dcMarkB c) v.toNat).setObj (K.dcMarkB c) v.toNat).saysOk s src (K.dcMarkB c)))))


/-! Interrupt controllers, ledgers and event pins. -/

/-- The candidate of a controller in LINE mode is the pending and enabled INTID of the lowest priority value and, among equals, of the lowest
number; there is none exactly when no INTID is both pending and enabled. The running priority is that at the top of the stack, 16 with the
stack empty, and the partition presents exactly while a candidate's priority is below it (11 R295). -/
def Obligations.CandidateIsTheBestPendingIntid : Prop :=
  ∀ (s : State) (p : Nat),
    (∀ i q, s.candidate p = some (i, q) →
      i < 256 ∧ (s.ctl p).pending.getLsbD i = true ∧ s.intEnabled p i = true ∧ q = s.intPri p i ∧
      ∀ j, j < 256 → (s.ctl p).pending.getLsbD j = true → s.intEnabled p j = true →
        q < s.intPri p j ∨ (q = s.intPri p j ∧ i ≤ j)) ∧
    (s.candidate p = none → ∀ j, j < 256 → (s.ctl p).pending.getLsbD j = true → s.intEnabled p j = false) ∧
    ((s.ctl p).stack = [] → (s.ctl p).running = 16) ∧ (∀ i q rest, (s.ctl p).stack = (i, q) :: rest → (s.ctl p).running = q) ∧
    (s.linePresents p = true ↔ ∃ i q, s.candidate p = some (i, q) ∧ q < (s.ctl p).running)

/-- CLAIM by the command of its own (11 R296): in LINE mode with a candidate below the running priority it reads INTID and PRIORITY, the
INTID leaves pending, becomes active and goes on the stack, and CLAIMS counts; otherwise it reads 1023 and changes nothing. The read
may be made in every mode but Bring-up and Fault-hold (16 R407). -/
def Obligations.ClaimTakesTheCandidate : Prop :=
  ∀ (s : State) (src : Src) (p : Part), s.srcPresent src = true → s.mode ≠ .bringup → s.mode ≠ .faultHold →
    s.permits src (K.claim p) .u32 false = true →
    (∀ i q, s.ledgerMode p = false → s.pd 2 = true → s.candidate p = some (i, q) → q < (s.ctl p).running →
      exec (.claim src p) s = .next (s.after
        (((s.begin.modCtl p (fun c => {
            c with
            pending := c.pending &&& ~~~ (bit256 i), active := c.active ||| bit256 i, stack := (i, q) :: c.stack })).bump
          (K.claims p)).emit
          (.objStatus src (K.claim p) 0 (natBytes 4 (i + q * 2 ^ 16)))))) ∧
    (s.ledgerMode p = true ∨ s.pd 2 = false ∨ s.linePresents p = false →
      exec (.claim src p) s = .next (s.after (s.begin.emit (.objStatus src (K.claim p) 0 (natBytes 4 1023)))))

/-- Accepted writes of a controller's and a ledger's registers (11 R293, R294, R298, R305, R307). EOI of the INTID at the top of the stack
pops it, and an asserted level pin pends again; of another INTID it changes no state of the controller but is a mismatch: EOI_LAST_BAD,
EOI_MISMATCHES and event 15; in LEDGER mode, and of 1023, it is ignored. DOORBELL makes one occurrence of its INTID with the 24-bit
detail. A 1 written to PENDING clears the bit. LEDGER_TAIL reads as written, and a ledger that becomes empty returns to state 1. -/
def Obligations.InterruptRegistersAct : Prop :=
  ∀ (s : State) (src : Src) (p : Part),
    (∀ v : Word, s.accepts src (K.eoi p) v.toNat →
      (s.ledgerMode p = true ∨ v.toNat % 1024 = 1023 →
        exec (.eoi src p v) s = .next (s.after ((s.noted src (K.eoi p) (v.toNat % 1024)).saysOk s src (K.eoi p)))) ∧
      (∀ j q rest, s.ledgerMode p = false → v.toNat % 1024 ≠ 1023 → (s.ctl p).stack = (j, q) :: rest → v.toNat % 1024 = j →
        exec (.eoi src p v) s = .next (s.after (((s.noted src (K.eoi p) (v.toNat % 1024)).modCtl p (fun c => {
          c with
          stack := rest, active := c.active &&& ~~~ (bit256 j),
          pending := if s.levelAsserted p j then c.pending ||| bit256 j else c.pending })).saysOk s src (K.eoi p)))) ∧
      (s.ledgerMode p = false → v.toNat % 1024 ≠ 1023 → (s.ctl p).top ≠ v.toNat % 1024 →
        exec (.eoi src p v) s = .next (s.after (((((s.noted src (K.eoi p) (v.toNat % 1024)).setObj (K.eoiLastBad p)
          (v.toNat % 1024 + srcPort src * 2 ^ 10 + (s.ctl p).top * 2 ^ 16)).bump (K.eoiMismatches p)).raisePS p 15
          (v.toNat % 1024 + srcPort src * 2 ^ 10 + (s.ctl p).top * 2 ^ 16) (srcPort src)).saysOk s src (K.eoi p))))) ∧
    (∀ v : Word, s.accepts src (K.doorbell p) v.toNat → exec (.doorbell src p v) s = .next (s.after
      (((s.noted src (K.doorbell p) v.toNat).occur p (v.toNat % 256) (v.toNat / 256 % 2 ^ 24) (srcPort src)).saysOk s src (K.doorbell p)))) ∧
    (∀ (w : Fin 8) (v : Word), s.accepts src (K.pending p w) v.toNat → ∃ t : State,
      exec (.pendingClear src p w v) s = .next (s.after (t.saysOk s src (K.pending p w))) ∧
      t = { s.noted src (K.pending p w) v.toNat with ctls := t.ctls } ∧ (∀ q, q ≠ p.val → t.ctl q = s.ctl q) ∧
      (t.ctl p).active = (s.ctl p).active ∧ (t.ctl p).stack = (s.ctl p).stack ∧
      ∀ i, i < 256 → (t.ctl p).pending.getLsbD i = ((s.ctl p).pending.getLsbD i &&
        !(decide (i / 32 = w.val) && v.getLsbD (i % 32) && !s.levelAsserted p i))) ∧
    (∀ (l : Fin 4) (v : Word), s.accepts src (K.ledgerTail p l) v.toNat → ∃ t : State,
      exec (.ledgerTail src p l v) s = .next (s.after (t.saysOk s src (K.ledgerTail p l))) ∧
      t = { s.noted src (K.ledgerTail p l) v.toNat with objs := t.objs, ledgers := t.ledgers } ∧
      t.obj (K.ledgerTail p l) = v.toNat ∧ (∀ k, k ≠ K.ledgerTail p l → t.obj k = s.obj k) ∧
      (t.ledgerHeld p l = 0 → (t.ledger p l).state = 1) ∧
      (t.ledgerHeld p l ≠ 0 → (t.ledger p l).state = if (s.ledger p l).state = 1 then 3 else (s.ledger p l).state))

/-- One occurrence of an INTID (11 R289, R294, R302, R304, R306). With PD2 off nothing occurs. In LINE mode it pends, enabled or not, with the
detail, port and time of the occurrence that made it pending, and nothing else changes. In LEDGER mode a disabled INTID leaves nothing; an
enabled one forms a record of its ledger, or, with the ring full, is dropped, and LEDGER_DROPPED counts; the first drop of an episode is
event 14 in the supervisor. Nothing but controllers, ledgers and LEDGER_DROPPED ever changes. -/
def Obligations.AnOccurrencePendsOrIsRecorded : Prop :=
  ∀ (s : State) (p i detail port : Nat),
    s.eventsOnly (s.occur p i detail port) ∧
    (s.pd 2 = false → s.occur p i detail port = s) ∧
    (s.pd 2 = true → s.ledgerMode p = false →
      s.occur p i detail port = s.modCtl p (fun c => { c with
        pending := c.pending ||| BitVec.ofNat 256 (2 ^ i)
        info := if c.pending.getLsbD i then c.info else tput (detail, port, s.deviceTime) i c.info })) ∧
    (s.pd 2 = true → s.ledgerMode p = true → s.intEnabled p i = false → s.occur p i detail port = s) ∧
    (s.pd 2 = true → s.ledgerMode p = true → s.intEnabled p i = true → ∀ l held, l = s.recordLedger p i →
      held = ((s.ledger p l).next + 2 ^ 32 - s.obj (K.ledgerTail p l)) % 2 ^ 32 →
      (held < s.ledgerSize p l → ∃ r : LedgerRec, r.index = (s.ledger p l).next ∧ r.pri = s.intPri p i ∧ r.txn = none ∧
        r.data = ledgerRecord i (s.intPri p i) (s.ledger p l).overflow ((s.ledger p l).next / s.ledgerSize p l % 2 == 0) l port detail
          s.deviceTime ∧
        s.occur p i detail port = s.modLedger p l (fun g => { g with
          overflow := false, full := false, next := (g.next + 1) % 2 ^ 32, recs := g.recs ++ [r] })) ∧
      (s.ledgerSize p l ≤ held → ∀ u, u = (s.bump (K.ledgerDropped p l)).modLedger p l (fun g => { g with overflow := true, full := true }) →
        ((s.ledger p l).full = true → s.occur p i detail port = u) ∧
        ((s.ledger p l).full = false → s.occur p i detail port =
          (u.occurOnly u.inForce.supervisor 14 (u.intPri u.inForce.supervisor 14) (p + 16 * l) 63).1)))

/-- Events of the ledgers and the pins. A record is visible once its transaction owns its line: it leaves the queue, HEAD counts it and the
ledger's moderation takes it (11 R305, R307). MOD_TIME ends moderation (R307). ALLWAIT_GRACE with every port waiting is event 7 at
priority 0 and wakes the presenting port (R309). A level of an EVIN pin in mode 5 that differs from the accepted one is one occurrence
in each partition of its route (R291, R292). -/
def Obligations.LedgerAndPinEventsAct : Prop :=
  ∀ (s : State) (p : Part),
    (∀ l : Fin 4, s.recordVisible p l = true → exec (.ledgerRecordVisible p l) s = .next (s.after (s.begin.recordWritten p l))) ∧
    (∀ l : Fin 4, s.recordVisible p l = false → exec (.ledgerRecordVisible p l) s = .next (s.after s.begin)) ∧
    (∀ l : Fin 4, (s.ledger p l).state = 2 →
      exec (.modTimeExpiry p l) s = .next (s.after (s.begin.modLedger p l (fun g => { g with state := 3 })))) ∧
    (∀ l : Fin 4, (s.ledger p l).state ≠ 2 → exec (.modTimeExpiry p l) s = .next (s.after s.begin)) ∧
    (s.dead = true ∨ s.pd 2 = false ∨ s.obj (K.allwaitGrace p) = 0 ∨ s.allWait p = false →
      exec (.allwaitGraceExpiry p) s = .next (s.after s.begin)) ∧
    (∀ n, s.dead = false → s.pd 2 = true → s.obj (K.allwaitGrace p) ≠ 0 → s.allWait p = true →
      (s.begin.occurPri p 7 0 0 63).presenter p = some n → exec (.allwaitGraceExpiry p) s = .next (s.after ((s.begin.occurPri p 7 0 0 63).wakePort n))) ∧
    (s.dead = false → s.pd 2 = true → s.obj (K.allwaitGrace p) ≠ 0 → s.allWait p = true →
      (s.begin.occurPri p 7 0 0 63).presenter p = none → exec (.allwaitGraceExpiry p) s = .next (s.after (s.begin.occurPri p 7 0 0 63))) ∧
    (∀ (i : Fin 64) (b : Bool), s.viom = true → s.pd 2 = true → s.evinLevel.getLsbD i ≠ b → s.obj (K.evinMode i) = 5 →
      s.evinAsserted.getLsbD i = false →
      exec (.evinAccepted i b) s = .next (s.after (({ s.begin with
        evinLevel := if b then s.evinLevel ||| 1#64 <<< i.val else s.evinLevel &&& ~~~ (1#64 <<< i.val) }).pinOccurs i false))) ∧
    (∀ (i : Fin 64) (b : Bool), s.evinLevel.getLsbD i = b ∨ s.viom = false ∨ s.pd 2 = false →
      exec (.evinAccepted i b) s = .next (s.after s.begin))

/-! Accession. -/

/-- Accepted writes of an accession channel's registers (12 R323, R324, R317, R333): MARK saves R, REWIND returns R to the mark, RELEASE
frees what has been read and judges the threshold, FLUSH empties the channel at once unless a packet is in progress, and ACC_ENABLE
reads as written, a fall stopping and emptying the channel. -/
def Obligations.AccessionRegistersAct : Prop :=
  ∀ (s : State) (src : Src) (c : Acc),
    (s.accepts src (K.accCmd c) 1 → exec (.mark src c) s = .next (s.after
      (((s.noted src (K.accCmd c) 1).modAcc c (fun a => { a with m := some a.r })).saysOk s src (K.accCmd c)))) ∧
    (∀ m, s.accepts src (K.accCmd c) 2 → (s.acc c).m = some m → exec (.rewind src c) s = .next (s.after
      (((s.noted src (K.accCmd c) 2).modAcc c (fun a => { a with r := a.m.getD a.r })).saysOk s src (K.accCmd c)))) ∧
    (s.accepts src (K.accCmd c) 3 → exec (.release src c) s = .next (s.after
      ((((s.noted src (K.accCmd c) 3).modAcc c (fun a =>
        ({ a with m := a.m.filter (fun m => m == a.r) } : AccSt).releaseTo a.r)).accThreshold c).saysOk s src (K.accCmd c)))) ∧
    (s.accepts src (K.accCmd c) 4 →
      ((s.acc c).inPacket = true → exec (.flush src c) s = .next (s.after
        (((s.noted src (K.accCmd c) 4).modAcc c (fun a => { a with flushPending := true })).saysOk s src (K.accCmd c)))) ∧
      ((s.acc c).inPacket = false → exec (.flush src c) s = .next (s.after
        (((s.noted src (K.accCmd c) 4).accFlushNow c).saysOk s src (K.accCmd c))))) ∧
    (s.accepts src (K.accEnable c) 1 → exec (.accEnable src c 1) s = .next (s.after
      (((s.noted src (K.accEnable c) 1).setObj (K.accEnable c) 1).saysOk s src (K.accEnable c)))) ∧
    (s.accepts src (K.accEnable c) 0 → s.obj (K.accEnable c) = 1 → exec (.accEnable src c 0) s = .next (s.after
      (((((s.noted src (K.accEnable c) 0).setObj (K.accEnable c) 0).accStop c).accEmpty c).saysOk s src (K.accEnable c))))

/-- Writes that the present state or another register forbids. HELD_ACK for a port that is not fence-held (13 R341); a mark of the chip that
the channel's other mark names (07 R202); a TAIL that would show more records than the ledger holds, a DOORBELL of an INTID below 96,
EOI with PD2 off (11 R293, R305; 14 R352); MARK, REWIND and RELEASE in auto-drain, and REWIND without a mark (12 R323, R326).
A MODE_REQ is out of range for 0, 5, 9 and 11 and above, and forbidden for a value that names no transition from the present mode,
during a transition, and, but in Fault-hold, while nSTBY is low (14 R356, R357); 4 in Configure also under 09 R242. -/
def Obligations.WritesThatTheStateForbids : Prop :=
  (∀ (s : State) (m : BitVec 48), s.mode ≠ .bringup → s.mode ≠ .faultHold →
    (∀ n : Port, (s.port n).fence ≠ .held → s.writeStatus (.net m) (K.heldAck n) [1] false = 7) ∧
    (∀ (c : Chan) (v : Byte), v ≠ 0xFF → s.obj (K.dcMarkB c) = v.toNat → s.writeStatus (.net m) (K.dcMarkA c) [v] false = 6) ∧
    (∀ (p : Part) (v : Word),
      (∀ l : Fin 4, 2 ^ s.obj (K.ledgerSizeLog2 p l) < (s.obj (K.ledgerHead p l) + 2 ^ 32 - v.toNat) % 2 ^ 32 →
        s.writeStatus (.net m) (K.ledgerTail p l) (natBytes 4 v.toNat) false = 6) ∧
      (v.toNat % 256 < 96 → s.writeStatus (.net m) (K.doorbell p) (natBytes 4 v.toNat) false = 6) ∧
      (s.pd 2 = false → s.writeStatus (.net m) (K.eoi p) (natBytes 4 v.toNat) false = 7)) ∧
    (∀ (c : Acc) (v : Byte), 1 ≤ v.toNat → v.toNat ≤ 4 → s.pd 2 = true →
      (s.writeStatus (.net m) (K.accCmd c) [v] false = 0 ↔
        ¬((s.acc c).cfg.mode = 1 ∧ v.toNat < 4) ∧ ¬(v.toNat = 2 ∧ (s.acc c).m = none)))) ∧
  (∀ (s : State) (m : BitVec 48) (v : Byte), s.mode ≠ .bringup →
    (v.toNat = 0 ∨ v.toNat = 5 ∨ v.toNat = 9 ∨ 11 ≤ v.toNat → s.writeStatus (.net m) K.modeReq [v] false = 6) ∧
    (¬(v.toNat = 0 ∨ v.toNat = 5 ∨ v.toNat = 9 ∨ 11 ≤ v.toNat) →
      (s.modeReqNamed v.toNat = false ∨ s.trans ≠ .none ∨ (s.nstby = false ∧ s.mode ≠ .faultHold) →
        s.writeStatus (.net m) K.modeReq [v] false = 7) ∧
      (s.modeReqNamed v.toNat = true → s.trans = .none → s.nstby = true ∨ s.mode = .faultHold →
        s.writeStatus (.net m) K.modeReq [v] false = 0)) ∧
    (s.modeReqNamed 4 = true ↔ s.mode = .park ∨ s.mode = .retain ∨ (s.mode = .configure ∧ s.linksLegal = true)))

/-- Reads of an accession channel (12 R325). ACC_DATA returns the word at R with its ACC_WSTAT and advances R, when the channel is in read
mode and the word is readable; otherwise it returns 0, ACC_WSTAT reads 64 and R stays. ACC_BLOCK, over the field network, returns all
readable words of the packet at R, at most 256. -/
def Obligations.AccessionReadsAdvance : Prop :=
  ∀ (s : State) (src : Src) (c : Acc), s.srcPresent src = true → s.mode ≠ .bringup → s.mode ≠ .faultHold →
    (s.permits src (K.accData c) .u32 false = true →
      (∀ p, (s.acc c).atR = some p → (s.acc c).cfg.mode = 0 → p.readable (s.acc c).r = true →
        exec (.accData src c) s = .next (s.after ((s.begin.modAcc c (fun a => { a with wstat := wordStatus p a.r, r := a.r + 1 })).emit
          (.objStatus src (K.accData c) 0 (natBytes 4 (tget 0 (s.acc c).buf (s.acc c).r).toNat))))) ∧
      ((∀ p, (s.acc c).atR = some p → (s.acc c).cfg.mode ≠ 0 ∨ p.readable (s.acc c).r = false) → exec (.accData src c) s = .next (s.after ((s.begin.modAcc c (fun a => { a with wstat := 64 })).emit
          (.objStatus src (K.accData c) 0 (natBytes 4 0)))))) ∧
    (∀ m p n, src = .net m → (s.acc c).atR = some p → (s.acc c).cfg.mode = 0 → readableWords p (s.acc c).r 256 = n → n ≠ 0 →
      exec (.accBlock src c) s = .next (s.after
        ((s.begin.modAcc c (fun a => { a with wstat := wordStatus p (a.r + n - 1), r := a.r + n })).emit
          (.objStatus src (K.accBlock c) 0 ((List.range n).flatMap (fun i => natBytes 4 (tget 0 (s.acc c).buf ((s.acc c).r + i)).toNat)))))) ∧
    (∀ m, src = .net m → (∀ p, (s.acc c).atR = some p → (s.acc c).cfg.mode ≠ 0 ∨ readableWords p (s.acc c).r 256 = 0) →
      exec (.accBlock src c) s = .next (s.after ((s.begin.modAcc c (fun a => { a with wstat := 64 })).emit
        (.objStatus src (K.accBlock c) 0 []))))

/-- The wires of an accession channel (12 R314, R316, R328, R330). A rise of ACn_REQ on an active channel with ACn_FRAME low is a stray byte:
counted and acknowledged; with ACn_FRAME high its byte is taken by the capture rules. A fall lowers ACn_ACK and ends the wait of a
byte. A fall of ACn_FRAME between handshakes ends the packet. A visible descriptor advances the heads, and the control line is read
again while room lacks. -/
def Obligations.AccessionWiresAct : Prop :=
  ∀ (s : State) (c : Acc),
    (∀ d : Byte, (s.acc c).req = false → (s.acc c).frame = false → (s.acc c).active = true → (s.acc c).sampled = true →
      exec (.accReqRise c d false) s = .next (s.after
        (((s.begin.modAcc c (fun a => { a with req := true, frame := false })).bump (K.strayBytes c)).accAck c)) ∧
      exec (.accReqRise c d true) s = .next (s.after ((s.begin.modAcc c (fun a => { a with req := true, frame := true })).accByte c d))) ∧
    (∀ (d : Byte) (f : Bool), (s.acc c).req = true → exec (.accReqRise c d f) s = .next (s.after s.begin)) ∧
    exec (.accReqFall c) s = .next (s.after
      (s.begin.modAcc c (fun a => { a with req := false, ack := false, waitByte := none, sampled := true }))) ∧
    ((s.acc c).frame = true → (s.acc c).req = false → (s.acc c).ack = false → (s.acc c).inPacket = true →
      exec (.accFrameFall c) s = .next (s.after
        ((s.begin.modAcc c (fun a => { a with frame := false, discarding := false })).accPacketEnds c false))) ∧
    (s.descVisible c = true → exec (.descriptorVisible c) s = .next (s.after (s.begin.accHeadsAdvance c))) ∧
    (∀ t : State, (s.acc c).polling = true → s.accLacksRoom c = true → s.accMoves = true → s.accHas .ctrlRead c = false →
      s.begin.accCtrlRead c = some t → exec (.ctrlLinePoll c) s = .next (s.after t)) ∧
    ((s.acc c).frame = false ∨ (s.acc c).req = true ∨ (s.acc c).ack = true → exec (.accFrameFall c) s = .next (s.after s.begin)) ∧
    (s.descVisible c = false → exec (.descriptorVisible c) s = .next (s.after s.begin)) ∧
    ((s.acc c).polling = false ∨ s.accLacksRoom c = false ∨ s.accMoves = false ∨ s.accHas .ctrlRead c = true ∨
        s.begin.accCtrlRead c = none → exec (.ctrlLinePoll c) s = .next (s.after s.begin))

/-! The Conservator, direct access and the logs. -/

/-- The rows of the Conservator are one write of MAINT_START or SCRUB_START each with the operation or target that the parameters hold; with
another one the row names no event and nothing happens. An accepted start with parameters in range begins the job with its captured
parameters and status 1; one with a bad range ends at once with status 5, counted and with event 19 (06 R179, R180, R182; 08 R222,
R224). MAINT_ABORT marks what runs as aborted. -/
def Obligations.ConservatorRowsAct : Prop :=
  ∀ (s : State) (src : Src),
    (s.accepts src K.maintStart 1 → ∀ c, (c = .invalL2 src ∧ s.obj K.maintOp = 1) ∨ (c = .recallL1 src ∧ s.obj K.maintOp = 2) ∨
        (c = .preload src ∧ s.obj K.maintOp = 3) ∨ (c = .unlock src ∧ s.obj K.maintOp = 4) →
      (s.obj K.maintBase % 64 = 0 → s.obj K.maintLength % 64 = 0 → 0 < s.obj K.maintLength →
        s.obj K.maintBase + s.obj K.maintLength ≤ 2 ^ 40 → s.obj K.maintPart ≤ 15 ∨ s.obj K.maintOp = 1 ∨ s.obj K.maintOp = 2 →
        exec c s = .next (s.after (({ (s.noted src K.maintStart 1).setObj K.maintStatus 1 with job := some {
          op := s.obj K.maintOp, next := s.obj K.maintBase / 64, last := (s.obj K.maintBase + s.obj K.maintLength) / 64,
          part := if s.obj K.maintOp = 3 ∨ s.obj K.maintOp = 4 then s.obj K.maintPart else s.inForce.supervisor,
          flags := s.obj K.maintFlags, start := s.deviceTime } }).saysOk s src K.maintStart))) ∧
      (s.obj K.maintBase % 64 ≠ 0 ∨ s.obj K.maintLength % 64 ≠ 0 ∨ s.obj K.maintLength = 0 ∨
          2 ^ 40 < s.obj K.maintBase + s.obj K.maintLength ∨ (15 < s.obj K.maintPart ∧ (s.obj K.maintOp = 3 ∨ s.obj K.maintOp = 4)) →
        exec c s = .next (s.after (((((s.noted src K.maintStart 1).jobSummary 5 0 0 0 0 0).bump K.maintSeq).raiseS 19
          ((s.obj K.maintSeq + 1) % 2 ^ 32)).saysOk s src K.maintStart)))) ∧
    (s.accepts src K.scrubStart 1 → ∀ c, (c = .scrubStartDc src ∧ s.obj K.scrubTarget = 0) ∨
        (c = .scrubStartTags src ∧ s.obj K.scrubTarget = 1) ∨ (c = .scrubStartCat src ∧ s.obj K.scrubTarget = 2) →
      (∀ x : Scrub, x = {
          target := s.obj K.scrubTarget, units := s.scrubSelect (s.obj K.scrubTarget) (s.obj K.scrubUnit), first := s.obj K.scrubFirst,
          row := s.obj K.scrubFirst, last := s.obj K.scrubLast, start := s.deviceTime } →
        (s.obj K.scrubUnit ≠ 0xFF ∧ scrubUnits (s.obj K.scrubTarget) ≤ s.obj K.scrubUnit) ∨ s.obj K.scrubLast < s.obj K.scrubFirst →
        exec c s = .next (s.after (((((s.noted src K.scrubStart 1).scrubSummary 5 x 0).bump K.scrubSeq).raiseS 19
          ((s.obj K.scrubSeq + 1) % 2 ^ 32)).saysOk s src K.scrubStart))) ∧
      (s.obj K.scrubUnit = 0xFF ∨ s.obj K.scrubUnit < scrubUnits (s.obj K.scrubTarget) → s.obj K.scrubFirst ≤ s.obj K.scrubLast →
      exec c s = .next (s.after (({ (s.noted src K.scrubStart 1).setObj K.scrubStatus 1 with scrub := some {
        target := s.obj K.scrubTarget, units := s.scrubSelect (s.obj K.scrubTarget) (s.obj K.scrubUnit), first := s.obj K.scrubFirst,
        row := s.obj K.scrubFirst, last := s.obj K.scrubLast, start := s.deviceTime } }).saysOk s src K.scrubStart)))) ∧
    (s.accepts src K.maintAbort 1 → exec (.maintAbort src) s = .next (s.after
      ((s.noted src K.maintAbort 1).abortJobs.saysOk s src K.maintAbort))) ∧
    (s.obj K.maintOp ≠ 1 → exec (.invalL2 src) s = .next (s.after s.begin)) ∧
    (s.obj K.maintOp ≠ 2 → exec (.recallL1 src) s = .next (s.after s.begin)) ∧
    (s.obj K.maintOp ≠ 3 → exec (.preload src) s = .next (s.after s.begin)) ∧
    (s.obj K.maintOp ≠ 4 → exec (.unlock src) s = .next (s.after s.begin)) ∧
    (s.obj K.scrubTarget ≠ 0 → exec (.scrubStartDc src) s = .next (s.after s.begin)) ∧
    (s.obj K.scrubTarget ≠ 1 → exec (.scrubStartTags src) s = .next (s.after s.begin)) ∧
    (s.obj K.scrubTarget ≠ 2 → exec (.scrubStartCat src) s = .next (s.after s.begin))

/-- The ends and the rows of the Conservator (06 R182; 08 R221, R224): a job ends once its last line has, with status 2, 3 where lines were
skipped, or 4 where it was aborted, its counts, MAINT_SEQ and event 19; a pass once its last row has and its writes are complete. Each
patrol interval starts one row of its target and moves its place, in the serving modes alone and with an interval that is not 0. -/
def Obligations.ConservatorProgresses : Prop :=
  ∀ s : State,
    (∀ j, s.job = some j → (j.last ≤ j.next ∨ j.aborted = true) → s.jobLines = 0 → ∃ t : State,
      exec .maintJobEnd s = .next (s.after t) ∧ t = s.begin.endJob ∧ t.job = none ∧
      t.obj K.maintSeq = (s.obj K.maintSeq + 1) % 2 ^ 32 ∧
      t.obj K.maintStatus = (if j.aborted then 4 else if j.skipped = 0 then 2 else 3) ∧ t.obj K.linesVisited = j.visited ∧
      t.obj K.linesAffected = j.affected ∧ t.obj K.dirtyWritten = j.dirty ∧ t.obj K.linesSkipped = j.skipped) ∧
    (s.job = none → exec .maintJobEnd s = .next (s.after s.begin)) ∧
    (∀ j, s.job = some j → (j.next < j.last ∧ j.aborted = false) ∨ s.jobLines ≠ 0 → exec .maintJobEnd s = .next (s.after s.begin)) ∧
    (∀ x, s.scrub = some x → (x.units = [] ∨ x.aborted = true) → s.scrubRuns = false → s.consWrites = false → ∃ t : State,
      exec .scrubPassEnd s = .next (s.after t) ∧ t.scrub = none ∧ t.obj K.scrubSeq = (s.obj K.scrubSeq + 1) % 2 ^ 32 ∧
      t.obj K.scrubStatus = (if x.aborted then 4 else if x.unread then 3 else 2) ∧ t.obj K.rowsVisited = x.visited) ∧
    (s.scrub = none ∨ s.scrubRuns = true ∨ s.consWrites = true → exec .scrubPassEnd s = .next (s.after s.begin)) ∧
    (∀ x, s.scrub = some x → x.units ≠ [] → x.aborted = false → exec .scrubPassEnd s = .next (s.after s.begin)) ∧
    (s.mode.serving = true → s.dead = false →
      (s.obj K.patrolDcInterval ≠ 0 → exec .patrolDcRow s = .next (s.after s.begin.patrolData)) ∧
      (s.obj K.patrolTagInterval ≠ 0 → exec .patrolTagRow s = .next (s.after s.begin.patrolTags)) ∧
      (s.obj K.patrolCatInterval ≠ 0 → exec .patrolCatRow s = .next (s.after s.begin.patrolCats))) ∧
    (s.mode.serving = false ∨ s.dead = true → exec .patrolDcRow s = .next (s.after s.begin) ∧
      exec .patrolTagRow s = .next (s.after s.begin) ∧ exec .patrolCatRow s = .next (s.after s.begin)) ∧
    (s.obj K.patrolDcInterval = 0 → exec .patrolDcRow s = .next (s.after s.begin)) ∧
    (s.obj K.patrolTagInterval = 0 → exec .patrolTagRow s = .next (s.after s.begin)) ∧
    (s.obj K.patrolCatInterval = 0 → exec .patrolCatRow s = .next (s.after s.begin))

/-- Direct access in Diagnostic (08 R225, R226), arrays 0 to 3 in range: READ shows data, check bits and syndrome of the word as it stands,
with DIAG_RESULT by the code; WRITE stores the data with its check bits; WRITE_RAW stores the check bits as given. A refused access
answers DIAG_RESULT 0xFF and changes nothing else.
The clears of the logs (08 R220; 13 R346; 16 R412): CE_LOG_CLEAR leaves every entry of the correctable-error log invalid and its counts 0
and arms both its events; LL_CLEAR leaves every entry of the line-loss log invalid and LL_NEXT and LL_TOTAL 0; STAGE_DISCARD leaves no
staged copy that differs. -/
def Obligations.DirectAccessAndLogClearsAct : Prop :=
  (∀ (s : State) (src : Src) (b : Beat) (a u w : Nat), s.accepts src K.diagGo 1 →
    a = s.obj K.diagArray → u = s.obj K.diagUnit → w = s.obj K.diagAddr → a < 4 →
    (s.obj K.diagOp = 1 → s.diagRefused 1 = false → ∃ t : State, exec (.diagRead src b) s = .next (s.after (t.saysOk s src K.diagGo)) ∧
      t.obj K.diagData = (storedData (s.word a u w)).toNat ∧ t.obj K.diagCheck = (storedCheck (s.word a u w)).toNat ∧
      t.obj K.diagSyndrome = (syndrome (s.word a u w)).toNat ∧ t.arrays = s.arrays ∧
      (∀ d, decodeWord (s.word a u w) = .clean d → t.obj K.diagResult = 0) ∧
      (∀ d i, decodeWord (s.word a u w) = .corrected d i → t.obj K.diagResult = (if i < 32 then 1 else 2) ∧ t.obj K.diagBit = i) ∧
      (decodeWord (s.word a u w) = .uncorrectable → t.obj K.diagResult = 3)) ∧
    (s.obj K.diagOp = 2 → s.diagRefused 2 = false → exec (.diagWrite src) s = .next (s.after
      (((s.noted src K.diagGo 1).free.1.setWord a u w (BitVec.ofNat 32 (s.obj K.diagData))).saysOk s src K.diagGo))) ∧
    (s.obj K.diagOp = 3 → s.diagRefused 3 = false → exec (.writeRaw src) s = .next (s.after
      (((s.noted src K.diagGo 1).free.1.setRaw a u w (BitVec.ofNat 7 (s.obj K.diagCheck) ++ BitVec.ofNat 32 (s.obj K.diagData))).saysOk s
        src K.diagGo))) ∧
    (s.obj K.diagOp = 2 → s.diagRefused 2 = true → exec (.diagWrite src) s = .next (s.after
      (((s.noted src K.diagGo 1).free.1.setObj K.diagResult 0xFF).saysOk s src K.diagGo)))) ∧
  (∀ (s : State) (src : Src),
    (s.accepts src K.ceLogClear 1 → ∃ t : State, exec (.ceLogClear src) s = .next (s.after (t.saysOk s src K.ceLogClear)) ∧
      t = { s.noted src K.ceLogClear 1 with objs := t.objs, ceArm := true, ceUnlogArm := true } ∧
      (∀ e, e < 32 → t.objBit (K.ceWhere e) 0 = false) ∧ t.obj K.ceLogUsed = 0 ∧ t.obj K.ceUnlogged = 0 ∧
      (∀ k, (∀ e, e < 32 → k ≠ K.ceWhere e) → k ≠ K.ceLogUsed → k ≠ K.ceUnlogged → t.obj k = s.obj k)) ∧
    (s.accepts src K.llClear 1 → ∃ t : State, exec (.llClear src) s = .next (s.after (t.saysOk s src K.llClear)) ∧
      t = { s.noted src K.llClear 1 with objs := t.objs } ∧
      (∀ e, e < 32 → t.objBit (K.llInfo e) 31 = false) ∧ t.obj K.llNext = 0 ∧ t.obj K.llTotal = 0 ∧
      (∀ k, (∀ e, e < 32 → k ≠ K.llInfo e) → k ≠ K.llNext → k ≠ K.llTotal → t.obj k = s.obj k)) ∧
    (s.accepts src K.stageDiscard 1 → exec (.stageDiscard src) s = .next (s.after
      (({ s.noted src K.stageDiscard 1 with staged := [] }).saysOk s src K.stageDiscard))))


/-! Rails, presence and modes. -/

/-- The rails and the reset pins (14 R356, R358, R359; 18 R442, R447). VAON up: Off to Standby, device time from 0. VAON down: everything is
lost but the journal NVM. nRESET: a hub reset into Standby with RESET_CAUSE 1; device time runs on. The release of both pins enters
Bring-up with its samples, unless TEST_EN is high. VIOM down takes the field interface down, with what it has queued and the answers it
owes; its return restarts it. -/
def Obligations.RailsAndResetAct : Prop :=
  ∀ s : State,
    (s.mode = .off → exec .vaonRise s = .next (s.after { s.begin with mode := .standby, domains := 1, deviceTime := 0 })) ∧
    (s.mode ≠ .off → exec .vaonRise s = .next (s.after s.begin)) ∧
    exec .vaonLoss s = .next (s.after { State.reset with
      pending := s.pending, freeCtr := s.freeCtr, nstby := s.nstby, presA := s.presA, presB := s.presB, viom := s.viom, vnvm := s.vnvm
      nvm := { s.nvm with queue := [] } }) ∧
    (s.mode ≠ .off → ∃ t : State, exec .nresetLow s = .next (s.after t) ∧ t.mode = .standby ∧ t.domains = 1 ∧
      t.deviceTime = s.deviceTime ∧ t.obj K.resetCause = 1 ∧ (∀ k, k ≠ K.resetCause → t.obj k = defaultOf k) ∧
      t.ports = [] ∧ t.links = [] ∧ t.mls = [] ∧ t.txns = [] ∧ t.arrays = [] ∧ t.nvm = { s.nvm with queue := [] }) ∧
    (∀ n tb o p, s.mode = .standby → ∃ t : State, exec (.bringupRelease n tb o p false) s = .next (s.after t) ∧
      t.mode = .bringup ∧ t.domains = 3 ∧ t.nodeId = n ∧ t.plcaOk = p ∧ t.tbState = tb.toNat ∧ t.nstby = true ∧ t.viom = true ∧
      t.vnvm = true ∧ t.obj K.modePrev = 1 ∧ (tb = true → t.obj K.tbOffset = o.toNat)) ∧
    (∀ n tb o p b, s.mode ≠ .standby ∨ b = true → exec (.bringupRelease n tb o p b) s = .next (s.after s.begin)) ∧
    exec .viomLoss s = .next (s.after { s.begin with
      viom := false, plcaOk := false, due := s.due.filter (fun x => match x.1 with
        | .status (.net _) _ => false
        | .status (.console _ _) _ | .complete _ _ => true)
      jop := { s.jop with up := false, waiting := none, queue := [], kept := [], segs := [] } }) ∧
    (∀ n p, s.pd 1 = true → ∃ t : State, exec (.viomRestored n p) s = .next (s.after t) ∧ t.viom = true ∧ t.nodeId = n ∧
      t.plcaOk = p ∧ t.jop = { s.jop with up := true } ∧ (t.plcaOn = true ↔ s.obj K.plcaEnable = 1 ∧ n ≠ 0x3F)) ∧
    (∀ n p, s.pd 1 = false → exec (.viomRestored n p) s = .next (s.after { s.begin with viom := true }))

/-- Presence in Bring-up (15 R376, R377). A disagreement reads PRES_STATE 1 and counts as a bounce when it ends; one that lasts is latched,
PRES_STATE 3, until both inputs have been low; agreement at high ends Bring-up with PD0 to PD2 and PD11 on. Nothing is judged while a
discrepancy is latched, or outside Bring-up. -/
def Obligations.PresenceIsJudgedInBringUp : Prop :=
  ∀ s : State,
    (s.mode = .bringup → s.presLatched = false → s.dead = false →
      (∃ t u : State, exec .presenceAgreed s = .next (s.after t) ∧ t = u.mlJudge ∧ u.mode = .configure ∧ u.domains = 0x807 ∧
        u.presA = true ∧ u.presB = true ∧ u.obj K.presState = 2 ∧ u.obj K.modePrev = s.mode.code ∧
        u.obj K.presBounces = (if s.obj K.presState = 1 then (s.obj K.presBounces + 1) % 2 ^ 32 else s.obj K.presBounces)) ∧
      (∀ a b : Bool, a ≠ b → exec (.presBounce a b) s = .next (s.after
        (({ s.begin with presA := a, presB := b } : State).setObj K.presState 1))) ∧
      (s.obj K.presState = 1 → exec (.presBounce false false) s = .next (s.after
        ((({ s.begin with presA := false, presB := false } : State).bump K.presBounces).setObj K.presState 0))) ∧
      (s.obj K.presState ≠ 1 → exec (.presBounce false false) s = .next (s.after
        (({ s.begin with presA := false, presB := false } : State).setObj K.presState 0))) ∧
      exec (.presBounce true true) s = .next (s.after s.begin) ∧
      (∀ a b : Bool, a ≠ b → exec (.presDiscrepancy a b) s = .next (s.after
        { s.begin.setObj K.presState 3 with presA := a, presB := b, presLatched := true })) ∧
      (∀ a : Bool, exec (.presDiscrepancy a a) s = .next (s.after s.begin))) ∧
    (s.mode ≠ .bringup ∨ s.presLatched = true ∨ s.dead = true → exec .presenceAgreed s = .next (s.after s.begin) ∧
      ∀ a b : Bool, exec (.presBounce a b) s = .next (s.after s.begin) ∧ exec (.presDiscrepancy a b) s = .next (s.after s.begin)) ∧
    (s.mode = .bringup → s.presLatched = true → exec .presDiscrepancyRelease s = .next (s.after
      { s.begin.setObj K.presState 0 with presA := false, presB := false, presLatched := false })) ∧
    (s.mode ≠ .bringup ∨ s.presLatched = false → exec .presDiscrepancyRelease s = .next (s.after s.begin))

/-- Presence, nSTBY and nPARK_REQ (14 R356; 15 R378, R381, R383). From Configure onwards, losing PRES_B takes the surprise path into Standby
with RESET_CAUSE 1 and every domain but PD0 off; a short glitch is counted; PRES_A low alone is a presence fault, PRES_STATE 3, with event
3, until it is high again. nSTBY low goes to Standby at once from Bring-up and Configure, through Configure from Diagnostic, is ignored in
Fault-hold, and is kept in the other modes, where Drain, then Park and Standby follow of themselves. nPARK_REQ drains from the working
modes, Park and Retain and from no other. -/
def Obligations.PinsFallFromConfigureOnwards : Prop :=
  ∀ s : State,
    (s.watched = true ↔ s.mode = .configure ∨ s.mode = .diagnostic ∨ s.mode = .park ∨ s.mode = .retain ∨ s.mode = .drain ∨
      s.mode = .run ∨ s.mode = .degraded ∨ s.mode = .sole) ∧
    (s.watched = true →
      (∃ t : State, exec .presBLoss s = .next (s.after t) ∧ t = ({ s.begin with presB := false } : State).surprisePath false ∧
        t.mode = .standby ∧ t.domains = 1 ∧ t.obj K.resetCause = 1 ∧ t.ports = [] ∧ t.links = [] ∧ t.mls = [] ∧ t.arrays = []) ∧
      exec .presBGlitch s = .next (s.after (s.begin.bump K.presBGlitches)) ∧
      (s.presFault = false → exec .presADiscrepancy s = .next (s.after
        (({ s.begin.setObj K.presState 3 with presA := false, presB := true, presFault := true } : State).raiseS 3 (2 + 2 ^ 8))))) ∧
    (s.watched = false → exec .presBLoss s = .next (s.after s.begin) ∧ exec .presBGlitch s = .next (s.after s.begin)) ∧
    (s.watched = false ∨ s.presFault = true → exec .presADiscrepancy s = .next (s.after s.begin)) ∧
    (s.presFault = true → exec .presARestored s = .next (s.after
      { s.begin.setObj K.presState 2 with presA := true, presFault := false })) ∧
    (s.presFault = false → exec .presARestored s = .next (s.after s.begin)) ∧
    (s.dead = false → (s.mode = .bringup ∨ s.mode = .configure → ∃ t : State, exec .nstbyLow s = .next (s.after t) ∧
      t = ({ s.begin with nstby := false } : State).goStandby ∧ t.mode = .standby ∧ t.domains = 1 ∧ t.obj K.modePrev = s.mode.code) ∧
      (s.mode = .diagnostic → ∃ t : State, exec .nstbyLow s = .next (s.after t) ∧
        t = ({ s.begin with nstby := false } : State).leaveDiagnostic.goStandby ∧ t.mode = .standby ∧ t.domains = 1)) ∧
    (s.mode = .faultHold → exec .nstbyLow s = .next (s.after s.begin)) ∧
    (s.mode ≠ .bringup → s.mode ≠ .configure → s.mode ≠ .diagnostic → s.mode ≠ .faultHold →
      exec .nstbyLow s = .next (s.after { s.begin with nstby := false })) ∧
    (s.dead = true → s.mode ≠ .faultHold → exec .nstbyLow s = .next (s.after { s.begin with nstby := false })) ∧
    (s.dead = false → s.nstby = false → s.trans = .none →
      (s.mode.serving = true ∨ s.mode = .retain ∨ (s.mode = .park ∧ s.parkQuiet = false) → s.modeWork = some s.enterDrain) ∧
      (s.mode = .park → s.parkQuiet = true → s.modeWork = some s.goStandby)) ∧
    (s.dead = false →
      (s.mode.serving = true ∨ s.mode = .retain ∨ s.mode = .park → exec .nparkReqLow s = .next (s.after s.begin.enterDrain)) ∧
      (s.mode.serving = false → s.mode ≠ .retain → s.mode ≠ .park → exec .nparkReqLow s = .next (s.after s.begin))) ∧
    (s.dead = true → exec .nparkReqLow s = .next (s.after s.begin))

/-- The events on the way into and out of the working mode (14 R361, R362, R364; 15 R381). Powered domains free the arrays, invalidate the
tags and calibrate; LINK_WAIT, once the calibrations are over, fences late links whose partner serves, or abandons the path; the working
mode is entered, a quiesce ends, Retain is left and Drain goes on exactly under their conditions, and an event that comes without them
changes nothing; DRAIN_LIMIT takes the surprise path. -/
def Obligations.ModeEventsAct : Prop :=
  ∀ s : State,
    (s.trans = .powering → exec .partDomainsPowered s = .next (s.after
      { ({ s.begin with domains := s.fullDomains } : State).freeArrays.timedInval.freshCal with trans := .calibrating })) ∧
    (s.trans = .diagPowering → exec .partDomainsPowered s = .next (s.after
      { ({ s.begin with domains := 0x7FF } : State).freeArrays.timedInval.freshCal with trans := .diagCalibrating })) ∧
    (s.trans ≠ .powering → s.trans ≠ .diagPowering → exec .partDomainsPowered s = .next (s.after s.begin)) ∧
    (s.trans = .calibrating →
      (s.calibrating = true → exec .linkWaitExpiry s = .next (s.after { s.begin with linkWaited := true })) ∧
      (s.calibrating = false →
        (s.pairReady = false ∨ (∃ k ∈ s.lateLinks, s.partnerServes k = false) → exec .linkWaitExpiry s = .next (s.after s.begin.giveUp)) ∧
        (s.pairReady = true → (∀ k ∈ s.lateLinks, s.partnerServes k = true) → exec .linkWaitExpiry s = .next (s.after
          (s.lateLinks.foldl (fun u k => match u.partner k with
            | some j => u.mlFence k j
            | none => u) s.begin)))) ∧
      (s.calibrating = false → s.lateLinks = [] → s.pairReady = true →
        (s.begin.joinPair = none → exec .workingModeEntered s = .next (s.after s.begin.giveUp)) ∧
        (∀ u v, s.begin.joinPair = some u → v = (List.range 12).foldl (fun x c => x.accEmpty c) (u.enterMode u.workingMode) →
          (v.nvm.fatalValid = false → exec .workingModeEntered s = .next (s.after v)) ∧
          (v.nvm.fatalValid = true → exec .workingModeEntered s = .next (s.after
            (v.raiseS 31 (v.nvm.fatalCause % 256 + v.nvm.fatalUnit % 2 ^ 16 * 2 ^ 8)))))) ∧
      (s.calibrating = true ∨ s.lateLinks ≠ [] ∨ s.pairReady = false → exec .workingModeEntered s = .next (s.after s.begin))) ∧
    (s.trans ≠ .calibrating →
      exec .linkWaitExpiry s = .next (s.after s.begin) ∧ exec .workingModeEntered s = .next (s.after s.begin)) ∧
    (s.quiesced = true → s.trans = .toPark → exec .quiesceComplete s = .next (s.after (s.begin.abortJobs.enterMode .park))) ∧
    (s.quiesced = true → s.trans = .toRetain → exec .quiesceComplete s = .next (s.after (s.begin.abortJobs.dataOff.enterMode .retain))) ∧
    (s.quiesced = false ∨ (s.trans ≠ .toPark ∧ s.trans ≠ .toRetain) → exec .quiesceComplete s = .next (s.after s.begin)) ∧
    (s.trans = .retainExit → s.calibrating = false →
      exec .retainExitComplete s = .next (s.after (s.begin.timedInval.enterMode s.begin.timedInval.workingMode))) ∧
    (s.trans ≠ .retainExit ∨ s.calibrating = true → exec .retainExitComplete s = .next (s.after s.begin)) ∧
    (s.trans = .drainAck → s.giveAcked = true → exec .drainHomeMapAcked s = .next (s.after s.begin.startDrainRecall)) ∧
    (s.trans ≠ .drainAck ∨ s.giveAcked = false → exec .drainHomeMapAcked s = .next (s.after s.begin)) ∧
    (s.trans = .drainRecall → s.drainClean = true →
      (s.pair.giving ≠ 0 → exec .drainRecallsDone s = .next (s.after { s.begin.giveNow with trans := .drainGive })) ∧
      (s.pair.giving = 0 → exec .drainRecallsDone s = .next (s.after
        (({ s.begin.enterMode .park with drained := true } : State).raiseS 30 0)))) ∧
    (s.trans ≠ .drainRecall ∨ s.drainClean = false → exec .drainRecallsDone s = .next (s.after s.begin)) ∧
    (s.mode = .drain → ∃ t : State, exec .drainLimitExpiry s = .next (s.after t) ∧ t = s.begin.surprisePath true ∧
      t.mode = .standby ∧ t.domains = 1 ∧ t.obj K.resetCause = 1 ∧ t.obj K.modeResult = 4) ∧
    (s.mode ≠ .drain → exec .drainLimitExpiry s = .next (s.after s.begin))

/-- Fatal causes (13 R347 to R350; 14 R373). Outside Fault-hold a cause starts the way there and writes the fatal record, with cause, time and
unit, once; a further one is only counted, and only where a record was written; with PD1 off nothing is recorded. The flush done, Fault-hold
is entered with PD0 and PD1 alone: every ready wire low, no transaction left, the journal, the staged copies and, where no job or pass was
cut, the registers kept. -/
def Obligations.FatalCausesLeadToFaultHold : Prop :=
  ∀ s : State,
    (s.pd 1 = true → s.mode ≠ .faultHold → s.trans ≠ .toFaultHold →
      (∀ (c : Instr) (cause unit : Nat) (x : BitVec 16),
        (c = .handshakeStall x ∧ cause = 2 ∧ unit = x.toNat) ∨ (c = .vcoreLoss true ∧ cause = 17 ∧ unit = 0xFFFF) ∨
          (c = .ioRailLoss ∧ (s.pd 10 = true ∨ s.pd 11 = true) ∧ cause = 18 ∧ unit = 0xFFFF) →
        ∃ t : State, exec c s = .next (s.after t) ∧
          t = { s.begin with trans := .toFaultHold, transStart := s.deviceTime, fatalKept := true, nvm := t.nvm } ∧
          t.nvm.fatalCause = cause ∧ t.nvm.fatalUnit = unit ∧ t.nvm.fatalTime = s.deviceTime ∧ t.nvm.fatalValid = true ∧
          t.nvm.fatalCount = min (2 ^ 32 - 1) (s.nvm.fatalCount + 1)) ∧
      exec (.vcoreLoss false) s = .next (s.after
        { s.begin with trans := .toFaultHold, transStart := s.deviceTime, fatalKept := false })) ∧
    (∀ x, s.pd 1 = true → s.mode = .faultHold ∨ s.trans = .toFaultHold →
      (s.fatalKept = true → exec (.handshakeStall x) s = .next (s.after
        { s.begin with nvm := { s.nvm with fatalCount := min (2 ^ 32 - 1) (s.nvm.fatalCount + 1) } })) ∧
      (s.fatalKept = false → exec (.handshakeStall x) s = .next (s.after s.begin))) ∧
    (∀ x, s.pd 1 = false → exec (.handshakeStall x) s = .next (s.after s.begin)) ∧
    (∀ b, s.pd 1 = false → exec (.vcoreLoss b) s = .next (s.after s.begin)) ∧
    (s.pd 10 = false → s.pd 11 = false → exec .ioRailLoss s = .next (s.after s.begin)) ∧
    (s.trans = .toFaultHold → ∃ t : State, exec .faultHoldFlushDone s = .next (s.after t) ∧ t.mode = .faultHold ∧ t.domains = 3 ∧
      t.trans = .none ∧ (∀ l, t.ready l = false) ∧ t.txns = [] ∧ t.mls = [] ∧ t.nvm = s.nvm ∧ t.staged = s.staged ∧
      t.obj K.modePrev = s.mode.code ∧ (s.job = none → s.scrub = none →
        (∀ k, k ≠ K.modePrev → k ≠ K.transitionTime → k ≠ K.modeResult → t.obj k = s.obj k) ∧
        t.obj K.modeResult = if s.obj K.modeResult = 1 then 2 else s.obj K.modeResult)) ∧
    (s.trans ≠ .toFaultHold → exec .faultHoldFlushDone s = .next (s.after s.begin))

/-- The journal NVM (14 R372; 16 R415; 18 R447). A verified program moves the oldest queued entry to the next place of the ring; one that
fails moves on with the entry still queued and marks its segment; with the place not erased, the operation is the erase. Losing VNVM
in a program damages that entry; otherwise only the supply changes. -/
def Obligations.JournalNvmActs : Prop :=
  ∀ s : State,
    (∀ e rest, s.vnvm = true → s.pd 1 = true → s.nvm.segs ≠ [] → s.nvm.queue = e :: rest →
      (s.nvm.erased = true →
        exec (.journalProgramDone true) s = .next (s.after
          ({ s.begin with nvm := { s.nvm with queue := rest, entries := (s.nvm.place, e) :: s.nvm.entries } } : State).nextPlace) ∧
        (∃ t : State, exec (.journalProgramDone false) s = .next (s.after t) ∧ t.nvm.queue = s.nvm.queue ∧
          t.nvm.entries = s.nvm.entries ∧ t.nvm.bad.contains s.segHere = true ∧
          t.nvm.place = if s.journalCapacity ≤ s.nvm.place + 1 then 0 else s.nvm.place + 1)) ∧
      (s.nvm.erased = false → ∀ ok, exec (.journalProgramDone ok) s = .next (s.after (s.begin.eraseDone ok)))) ∧
    (∀ ok, s.vnvm = false ∨ s.nvm.queue = [] ∨ s.nvm.segs = [] ∨ s.pd 1 = false →
      exec (.journalProgramDone ok) s = .next (s.after s.begin)) ∧
    (s.vnvm = true → s.nvm.queue = [] ∨ s.nvm.erased = false ∨ s.pd 1 = false →
      exec .vnvmLoss s = .next (s.after { s.begin with vnvm := false })) ∧
    (∀ e rest, s.vnvm = true → s.nvm.queue = e :: rest → s.nvm.erased = true → s.pd 1 = true →
      ∃ t : State, exec .vnvmLoss s = .next (s.after t) ∧ t.vnvm = false ∧ t.nvm.queue = rest ∧
        t.nvm.entries = (s.nvm.place, e) :: s.nvm.entries ∧ t.damagedAt (some s.nvm.place) = true) ∧
    exec .vnvmRestored s = .next (s.after { s.begin with vnvm := true })

/-- The timebase (14 R365, R366) and telemetry (R368 to R371). TB_STATE goes 0 to 1 when TBIN appears, 1 to 2 when it is lost, 2 to 1 when
it returns, each with event 2; a correction updates TB_OFFSET; a loss in a serving mode or Park moves CLK and calibrates every channel
anew, with lookups missing until the tags are invalid. With the oscillator off none of them happens. A telemetry update stores every value, then judges warnings, calibration
and the trip. -/
def Obligations.TimebaseAndTelemetryAct : Prop :=
  ∀ s : State,
    (s.mode ≠ .off → s.mode ≠ .standby →
      (∀ o, s.tbState = 0 → exec (.tbinAppeared o) s = .next (s.after
        (({ s.begin.setObj K.tbOffset o.toNat with tbState := 1 } : State).raiseS 2 1))) ∧
      (∀ o, s.tbState = 1 → exec (.trimCorrection o) s = .next (s.after (s.begin.setObj K.tbOffset o.toNat))) ∧
      (s.tbState = 2 → exec .tbinReturned s = .next (s.after (({ s.begin with tbState := 1 } : State).raiseS 2 (1 + 2 * 256)))) ∧
      (s.tbState = 1 → s.mode.serving = false → s.mode ≠ .park → s.trans ≠ .retainExit →
        exec .tbinLost s = .next (s.after (({ s.begin with tbState := 2 } : State).raiseS 2 (2 + 256)))) ∧
      (s.tbState = 1 → s.mode.serving = true ∨ s.mode = .park → ∃ t u : State,
        exec .tbinLost s = .next (s.after t) ∧ u = (({ s.begin with tbState := 2 } : State).raiseS 2 (2 + 256)).clkTo false ∧
        t = ({ u with missAll := true } : State).calAll.calSettled) ∧
      (s.tbState = 1 → s.mode.serving = false → s.mode ≠ .park → s.trans = .retainExit → exec .tbinLost s = .next (s.after
        ((({ s.begin with tbState := 2 } : State).raiseS 2 (2 + 256)).clkTo false)))) ∧
    (s.mode = .off ∨ s.mode = .standby → ∀ o, exec (.tbinAppeared o) s = .next (s.after s.begin) ∧
      exec (.trimCorrection o) s = .next (s.after s.begin) ∧ exec .tbinLost s = .next (s.after s.begin) ∧
      exec .tbinReturned s = .next (s.after s.begin)) ∧
    (∀ x : Telemetry, x.wellFormed = true → s.pd 1 = false → exec (.telemetryUpdate x) s = .next (s.after s.begin)) ∧
    (∀ o, s.tbState ≠ 0 → exec (.tbinAppeared o) s = .next (s.after s.begin)) ∧
    (∀ o, s.tbState ≠ 1 → exec (.trimCorrection o) s = .next (s.after s.begin) ∧ exec .tbinLost s = .next (s.after s.begin)) ∧
    (s.tbState ≠ 2 → exec .tbinReturned s = .next (s.after s.begin)) ∧
    (∀ x : Telemetry, x.wellFormed = true → s.pd 1 = true → ∃ u : State,
      exec (.telemetryUpdate x) s = .next (s.after u.warnTemps.warnVolts.warnRates.judgeCal.judgeTrip) ∧
      u = { s.begin with objs := u.objs } ∧
      (∀ i (h : i < x.temp.length), u.obj (K.temp i) = (x.temp[i]).toNat) ∧
      (∀ i (h : i < x.volt.length), u.obj (K.volt i) = (x.volt[i]).toNat) ∧
      (∀ i (h : i < x.rateMon.length), u.obj (K.rateMon i) = (x.rateMon[i]).toNat) ∧
      (∀ i (h : i < x.portRate.length), u.obj (K.portRate i) = (x.portRate[i]).toNat) ∧
      (∀ i (h : i < x.mlRate.length), u.obj (K.mlRate i) = (x.mlRate[i]).toNat))

/-- Calibration (07 R207 to R210; 14 R371). A trigger makes one background calibration due; it starts at an idle slot, or is forced and
counted, and holds the channel while it searches; it ends with its hold, counted, its longest hold kept and its references taken. A full
calibration raises DLLEN and returns the channel to serving with the settings that its chips found; unmarked chips without one are marked,
and three chips without one fence the channel. -/
def Obligations.CalibrationActs : Prop :=
  ∀ (s : State) (c : Chan) (r : CalResult),
    (s.chanServes c = true → exec (.calIntervalExpiry c) s = .next (s.after (s.begin.modChan c (fun h => { h with calDue := true })))) ∧
    (s.chanServes c = false → exec (.calIntervalExpiry c) s = .next (s.after s.begin)) ∧
    (s.chanServes c = true → (s.chan c).calDue = true → (s.chan c).hold = false →
      (∀ u : State, u = ((s.begin.bump K.calForced).modChan c (fun h => { h with hold := true, calDue := false, calFinds := some r })) →
        ((s.chan c).reads = [] → exec (.calDeferExpiry c r) s = .next (s.after (u.calSearch c))) ∧
        ((s.chan c).reads ≠ [] → exec (.calDeferExpiry c r) s = .next (s.after u))) ∧
      ((s.chan c).reads = [] → (s.chan c).queue = [] → exec (.backgroundCalibration c r) s = .next (s.after
        ((s.begin.modChan c (fun h => { h with hold := true, calDue := false, calFinds := some r })).calSearch c))) ∧
      ((s.chan c).reads ≠ [] ∨ (s.chan c).queue ≠ [] → exec (.backgroundCalibration c r) s = .next (s.after s.begin))) ∧
    ((s.chan c).calDue = false ∨ (s.chan c).hold = true ∨ s.chanServes c = false → exec (.calDeferExpiry c r) s = .next (s.after s.begin) ∧
      exec (.backgroundCalibration c r) s = .next (s.after s.begin)) ∧
    (∀ ticks, (s.chan c).hold = true → (s.chan c).calFinds = none → ∃ t u : State, exec (.calHoldEnd c ticks) s = .next (s.after t) ∧
      t = u.flushDue c ∧ (u.chan c).hold = false ∧ (u.chan c).calDue = (s.chan c).calDue ∧ (u.chan c).refTime = s.deviceTime ∧
      (u.chan c).refTemp = s.obj (K.temp (8 + c)) ∧ (u.chan c).refVolt = s.obj (K.volt 7) ∧
      u.obj (K.calRuns c) = (s.obj (K.calRuns c) + 1) % 2 ^ 32 ∧ u.obj (K.calLongest c) = max (s.obj (K.calLongest c)) ticks.toNat) ∧
    (∀ ticks, (s.chan c).hold = false ∨ (s.chan c).calFinds ≠ none → exec (.calHoldEnd c ticks) s = .next (s.after s.begin)) ∧
    ((s.chan c).state = .calibrating → s.pd 10 = true → ∃ t u v : State, exec (.fullCalibrationDone c r) s = .next (s.after t) ∧
      u = ((s.begin.setObj (K.dcReadLatency c) r.latency.toNat).chipSettings c r true).modChan c
        (fun h => { h with state := .serving, dllen := true }) ∧
      v = u.markFailing c (s.failingChips c r true) ∧
      ((s.failingChips c r true).length < 3 → t = (v.calReference c).calSettled) ∧
      (3 ≤ (s.failingChips c r true).length → t = ((v.fenceChan c).calReference c).calSettled)) ∧
    ((s.chan c).state ≠ .calibrating ∨ s.pd 10 = false → exec (.fullCalibrationDone c r) s = .next (s.after s.begin))

/-! Links. -/

/-- Numbered messages of every kind (03 R78, R82, R83, R87, R88; 09 R235): a link whose ready wire is low, or whose direction is being
resynchronised, hears nothing; a framing or CRC error leaves everything but the link as the error rules say; before the LINK_HELLO
exchange has ended any of them is a failed bring-up; a port whose DESCRIBE was illegal takes them off the link and does nothing with them
(DEDUCED, assumption 80). A message is good exactly when the symbol after its body is the CRC-8 of the body, and
one in which one symbol has changed is not good under the CRC of the message sent (03 R84). -/
def Obligations.MessagesAreHeardOnlyWhole : Prop :=
  (∀ (s : State) (c : Instr) (l : LinkId) (r : RxState) (syms : List Nat), s.message c = some (l, r, syms) →
    (s.deafTo l → exec c s = .next (s.after s.begin)) ∧
    (s.listens l →
      (r = .framing → exec c s = .next (s.after (s.begin.rxError l 2))) ∧
      (r = .badCrc → exec c s = .next (s.after ((s.begin.capture l syms).rxError l 1))) ∧
      (r = .good → (s.link l).phase = .leaving → exec c s = .next (s.after (s.took l syms)))) ∧
    (s.greeting l →
      (r = .framing → exec c s = .next (s.after ((s.begin.countLink l 2).bringupFails l))) ∧
      (r = .badCrc → exec c s = .next (s.after ((s.begin.countLink l 1).bringupFails l))) ∧
      (r = .good → exec c s = .next (s.after (s.begin.bringupFails l))))) ∧
  (∀ (body : List Byte) (c : Byte), rx8 body (.crc (BitVec.setWidth 32 c)) = .good ↔ c = crc8 body) ∧
  (∀ (xs ys : List Byte) (a b : Byte), a ≠ b →
    rx8 (xs ++ b :: ys) (.crc (BitVec.setWidth 32 (crc8 (xs ++ a :: ys)))) = .badCrc)

/-- A code violation, or a symbol left incomplete (03 R81, R87 to R89). On a link that listens it is counted, the direction is ignored from
then on and LINK_RESYNC goes out with the next number expected, unless the link waits for LINK_READY itself; the sixteenth within
100,000 ticks fails the link; before the exchange has ended it fails the bring-up. Which symbols of the broken message were captured is
free (assumption 80). -/
def Obligations.LinkErrorsResynchronise : Prop :=
  ∀ (s : State) (l : LinkId) (c : Instr), c = .codeViolation l ∨ c = .symbolTimeout l →
    (s.deafTo l → exec c s = .next (s.after s.begin)) ∧
    (s.greeting l → exec c s = .next (s.after ((s.begin.countLink l 0).bringupFails l))) ∧
    (s.listens l → (s.link l).txResync ≠ none →
      exec c s = .next (s.after (((s.begin.captureSome l).countLink l 0).modLink l (fun e => { e with rxResync := true })))) ∧
    (s.listens l → (s.link l).txResync = none → ∀ times, times = recentTimes s.deviceTime (s.link l).resyncsIn → ∃ u : State,
      u = (((((s.begin.captureSome l).countLink l 0).countLink l 3).modLink l
        (fun e => { e with rxResync := true, resyncsIn := times })).sendLink l (.resync (s.link l).rxNext)) ∧
      (times.length < 16 → exec c s = .next (s.after u) ∧ (u.link l).rxResync = true ∧ (u.link l).phase = (s.link l).phase ∧
        u.sent = [.link l (.resync (s.link l).rxNext)]) ∧
      (16 ≤ times.length → exec c s = .next (s.after (u.linkFails l))))

/-- Link-layer messages (03 R78, R79, R85, R87 to R89). Good ones on a link that listens: LINK_ACK k frees every replay entry up to number k,
one of a number already freed frees nothing (one of the number before the first the same: DESIGN CHOICE, assumption 80), and one of a number not
yet sent fails the link; LINK_RESYNC k stops launching, and fails the link when messages that it names are gone; LINK_READY
after it sends LINK_ACK and launches the messages from k on again; LINK_HELLO fails the link. In bring-up any but LINK_HELLO fails it, and
broken ones are errors of the link. -/
def Obligations.LinkMessagesAct : Prop :=
  ∀ (s : State) (l : LinkId) (k : Byte) (rx : Rx) (syms : List Nat),
    (∀ (c : Instr) (hello : Bool) (r : RxState), linkMessage c = some (l, hello, r, syms) →
      (s.deafTo l → exec c s = .next (s.after s.begin)) ∧
      (s.listens l →
        (r = .framing → exec c s = .next (s.after (s.begin.rxError l 2))) ∧
        (r = .badCrc → exec c s = .next (s.after ((s.begin.capture l syms).rxError l 1)))) ∧
      (s.greeting l →
        (r = .framing → exec c s = .next (s.after ((s.begin.countLink l 2).bringupFails l))) ∧
        (r = .badCrc → exec c s = .next (s.after ((s.begin.countLink l 1).bringupFails l))) ∧
        (r = .good → hello = false → exec c s = .next (s.after (s.begin.bringupFails l))))) ∧
    (s.listens l →
    (linkMessage (.linkAck l k rx) = some (l, false, .good, syms) →
      ∀ m left, m = numberMod l → left = ((s.link l).txNext + 2 * m - 1 - k.toNat % m) % m →
      (left ≤ (s.link l).replay.length → exec (.linkAck l k rx) s = .next (s.after
        (((s.begin.capture l syms).modLink l (fun e => { e with replay := e.replay.drop (e.replay.length - left) })).pumpTx l))) ∧
      ((s.link l).replay.length < left → left ≤ replayDepth l → left ≤ (s.link l).txSent →
        exec (.linkAck l k rx) s = .next (s.after (s.begin.capture l syms))) ∧
      ((s.link l).replay.length < left → replayDepth l < left ∨ (s.link l).txSent < left →
        exec (.linkAck l k rx) s = .next (s.after ((s.begin.capture l syms).linkFails l)))) ∧
    (linkMessage (.linkResync l k rx) = some (l, false, .good, syms) →
      ∀ m times u, m = numberMod l → times = recentTimes s.deviceTime (s.link l).resyncsOut →
      u = ((s.begin.capture l syms).countLink l 4).modLink l (fun e => { e with resyncsOut := times }) →
      (times.length < 16 → ((s.link l).txNext + m - k.toNat % m) % m ≤ (s.link l).replay.length →
        exec (.linkResync l k rx) s = .next (s.after (u.modLink l (fun e => { e with txResync := some (k.toNat % m) })))) ∧
      (16 ≤ times.length ∨ (s.link l).replay.length < ((s.link l).txNext + m - k.toNat % m) % m →
        exec (.linkResync l k rx) s = .next (s.after (u.linkFails l)))) ∧
    (∀ ack, linkMessage (.linkReady l ack rx) = some (l, false, .good, syms) →
      ((s.link l).txResync = none → exec (.linkReady l ack rx) s = .next (s.after (s.begin.capture l syms))) ∧
      (∀ j u, (s.link l).txResync = some j →
        u = ((s.begin.capture l syms).modLink l (fun e => { e with ackIn := ack, unacked := 0, txResync := none })).sendAck l →
        exec (.linkReady l ack rx) s = .next (s.after ((u.relaunch l j ((s.link l).replay.drop ((s.link l).replay.length -
          ((s.link l).txNext + numberMod l - j) % numberMod l))).pumpTx l)))) ∧
    (∀ v f, linkMessage (.linkHello l v f rx) = some (l, true, .good, syms) →
      exec (.linkHello l v f rx) s = .next (s.after ((s.begin.capture l syms).linkFails l))))

/-- LINK_HELLO in bring-up (03 R78, R79; 04 R110; 09 R232; R91). On a port a legal one is answered, at the reach announced when APn_PRDY rose,
and brings the link up: the port awaits DESCRIBE, with event 4. On another link it ends the exchange once this end has sent its own. An
illegal one is refused, and a second one fails the bring-up. The timers of bring-up: no LINK_HELLO in time fails it, the retry may follow
100,000 ticks later, and a refused link lowers its ready wire. The timers of a link whose exchange has ended (R86, R88, R89): the oldest
unacknowledged delivery calls for LINK_ACK; a resynchronised direction takes the rail levels found as references and sends LINK_READY; no
progress fails the link where an acknowledge or LINK_READY is owed to it. -/
def Obligations.LinkBringUpAndTimersAct : Prop :=
  ∀ s : State,
    (∀ (n : Port) (v f : Byte) (rx : Rx) (syms : List Nat), (s.link (.port n)).phase = .hello → (s.link (.port n)).helloSeen = false →
      linkMessage (.linkHello (.port n) v f rx) = some (.port n, true, .good, syms) →
      (v = 1 → f.toNat < 2 → ∃ t : State, exec (.linkHello (.port n) v f rx) s = .next (s.after t) ∧
        (t.link (.port n)).phase = .up ∧ (t.link (.port n)).short = ((s.link (.port n)).near && f.toNat % 2 == 1) ∧
        (t.port n).mode = .awaitDescribe ∧ t.sent = [.link (.port n) (.hello (2 + (s.link (.port n)).near.toNat))]) ∧
      (v ≠ 1 ∨ 2 ≤ f.toNat → ∃ t : State, exec (.linkHello (.port n) v f rx) s = .next (s.after t) ∧
        (t.link (.port n)).phase = .refused ∧ (t.link (.port n)).barred = true ∧
        t.sent = [.link (.port n) (.hello (2 + (s.link (.port n)).near.toNat))] ∧
        t.obj (K.versionRefusals n) = (s.obj (K.versionRefusals n) + 1) % 2 ^ 32)) ∧
    (∀ (l : LinkId) (v f : Byte) (rx : Rx) (syms : List Nat) (u : State), (∀ n, l ≠ .port n) → (s.link l).phase = .hello →
      (s.link l).helloSeen = false → linkMessage (.linkHello l v f rx) = some (l, true, .good, syms) →
      u = (s.begin.capture l syms).modLink l (fun e => { e with helloSeen := true, short := e.near && f.toNat % 2 == 1 }) →
      (v = 1 → (l = .pair → f.toNat = 2 ∨ f.toNat = 3) → (l ≠ .pair → f.toNat < 2) →
        exec (.linkHello l v f rx) s = .next (s.after (u.helloEnds l)) ∧
        ((s.link l).helloSent = true → ((u.helloEnds l).link l).phase = .up) ∧ ((s.link l).helloSent = false → u.helloEnds l = u)) ∧
      (v ≠ 1 ∨ (l = .pair ∧ f.toNat ≠ 2 ∧ f.toNat ≠ 3) ∨ (l ≠ .pair ∧ 2 ≤ f.toNat) →
        exec (.linkHello l v f rx) s = .next (s.after (u.modLink l (fun e => { e with phase := .refused, barred := true }))))) ∧
    (∀ (l : LinkId) (v f : Byte) (rx : Rx) (syms : List Nat), s.greeting l → (s.link l).helloSeen = true →
      linkMessage (.linkHello l v f rx) = some (l, true, .good, syms) →
      exec (.linkHello l v f rx) s = .next (s.after ((s.begin.capture l syms).bringupFails l))) ∧
    (∀ l : LinkId,
      ((s.link l).phase = .hello → (s.link l).helloSeen = false →
        exec (.bringupTimeout l) s = .next (s.after (s.begin.bringupFails l))) ∧
      ((s.link l).phase ≠ .hello ∨ (s.link l).helloSeen = true → exec (.bringupTimeout l) s = .next (s.after s.begin)) ∧
      (l ≠ .pair → exec (.bringupRetry l) s = .next (s.after (s.begin.modLink l (fun e => { e with backoff := false })))) ∧
      ((s.link l).phase ≠ .refused → (s.link l).phase ≠ .leaving → exec (.refusalPrdyDrop l) s = .next (s.after s.begin)) ∧
      ((s.link l).phase = .refused ∨ (s.link l).phase = .leaving →
        (∀ n, l = .port n → exec (.refusalPrdyDrop l) s = .next (s.after (s.begin.portDies n))) ∧
        (l = .pair → exec (.refusalPrdyDrop l) s = .next (s.after
          (s.begin.pairLower.modLink .pair (fun e => { e with backoff := false })))) ∧
        (∀ k, l = .arch k → exec (.refusalPrdyDrop l) s = .next (s.after ((s.begin.mlLower k).mlTo k .down))))) ∧
    exec (.bringupRetry .pair) s = .next (s.after s.begin) ∧
    (∀ l : LinkId,
    ((s.link l).ended = true → 0 < (s.link l).rxUnacked → (s.link l).txResync = none → ∃ t : State,
      exec (.linkAckTimerExpiry l) s = .next (s.after t) ∧ (t.link l).rxUnacked = 0 ∧
      t.sent = [.link l (.ack (((s.link l).rxNext + numberMod l - 1) % numberMod l))]) ∧
    ((s.link l).ended = false ∨ (s.link l).rxUnacked = 0 ∨ (s.link l).txResync ≠ none →
      exec (.linkAckTimerExpiry l) s = .next (s.after s.begin)) ∧
    (∀ rails, (s.link l).ended = true → (s.link l).rxResync = true → (s.link l).txResync = none → ∃ t : State,
      exec (.resyncSettleExpiry l rails) s = .next (s.after t) ∧ (t.link l).railsIn = rails ∧ (t.link l).rxResync = false ∧
      t.sent = [.link l .ready]) ∧
    (∀ rails, (s.link l).ended = false ∨ (s.link l).rxResync = false ∨ (s.link l).txResync ≠ none →
      exec (.resyncSettleExpiry l rails) s = .next (s.after s.begin)) ∧
    ((s.link l).replay ≠ [] ∨ 0 < (s.link l).unacked ∨ (s.link l).txResync ≠ none →
      exec (.linkProgressTimeout l) s = .next (s.after (s.begin.linkFails l))) ∧
    ((s.link l).replay = [] → (s.link l).unacked = 0 → (s.link l).txResync = none →
      exec (.linkProgressTimeout l) s = .next (s.after s.begin)))

/-- A port's ready wires and bring-up (03 R67, R74 to R76; 04 R110, R127, R128). APn_PRDY rises when everything lets it, with the reach of
this moment; a wire still high is
counted; APn_AALIVE low kills the port, whose APn_PRDY is then low; a glitch is counted; a late DESCRIBE fails the bring-up and a late
HOME_MAP_ACK the port. -/
def Obligations.PortWiresAct : Prop :=
  ∀ (s : State) (n : Port),
    (s.portMayRise n = true →
      exec (.prdyRaise n) s = .next (s.after ((s.begin.modLink (portLink n) (fun e =>
        { e with phase := .hello, near := s.obj (K.reach n) % 2 == 1 })).modPort n (fun p => { p with mode := .bringup, alive := true }))) ∧
      exec (.upwireResample n) s = .next (s.after (s.begin.bump (K.upwireWaits n)))) ∧
    (s.portMayRise n = false → exec (.prdyRaise n) s = .next (s.after s.begin) ∧ exec (.upwireResample n) s = .next (s.after s.begin)) ∧
    (∃ t : State, exec (.aaliveFall n) s = .next (s.after t) ∧ (t.port n).alive = false ∧ (t.link (portLink n)).barred = false ∧
      t = ((s.begin.portDies n).modLink (portLink n) (fun e => { e with barred := false })).modPort n (fun p => { p with alive := false })) ∧
    (s.pd (portDomain n) = true → exec (.aaliveGlitch n) s = .next (s.after (s.begin.bump (K.aaliveGlitches n)))) ∧
    (s.pd (portDomain n) = false → exec (.aaliveGlitch n) s = .next (s.after s.begin)) ∧
    ((s.link (portLink n)).phase = .up → (s.port n).mode = .awaitDescribe →
      exec (.describeTimeout n) s = .next (s.after (s.begin.portBringupFails n))) ∧
    ((s.port n).mode ≠ .awaitDescribe ∨ (s.link (portLink n)).phase ≠ .up → exec (.describeTimeout n) s = .next (s.after s.begin)) ∧
    (∀ m, (s.port n).map = some m →
      (m.why ≠ .take → (s.port n).mapNext ≠ some .take → exec (.homeMapAckTimeout n) s = .next (s.after (s.begin.portFails n))) ∧
      (m.why = .take ∨ (s.port n).mapNext = some .take → ∃ v, exec (.homeMapAckTimeout n) s = .next (s.after ((s.begin.free.1.addObj K.orphanLost v).portFails n)))) ∧
    ((s.port n).map = none → exec (.homeMapAckTimeout n) s = .next (s.after s.begin))

/-! Ports. -/

/-- Memory requests that the port takes (04 R92 to R98, R103, R105, R111). A good request of legal form becomes outstanding under the port's
epoch and takes its place in the port's order with its fields; what the home slices then do for it follows at once. -/
def Obligations.MemoryRequestsAreTaken : Prop :=
  ∀ (s : State) (n : Port) (h : Hdr) (a : Word) (rx : Rx) (syms : List Nat) (u : State), s.dead = false → s.hears (portLink n) →
    u = s.reached n syms → (u.port n).resetHold = false →
    ((u.port n).takes h.tid.toNat true → h.tid ≠ 0xFFF →
      (hLocked h = false → a.toNat % 64 = 0 → ∀ c op, (c = .readShared n h a rx ∧ op = .readShared) ∨ (c = .readOwn n h a rx ∧ op = .readOwn) ∨
          (c = .upgrade n h a rx ∧ op = .upgrade) ∨ (c = .zeroLine n h a rx ∧ op = .zeroLine) →
        s.message c = some (portLink n, .good, syms) →
        exec c s = .next (s.after ((u.takeIn n h.tid.toNat).enqueue n {
          op := op, tid := h.tid.toNat, pa := a.toNat, token := hTokenOf h
          stream := hStream h && (op == .readShared || op == .readOwn) }))) ∧
      (hSize3 h ≠ 7 → a.toNat % 2 ^ hSize3 h = 0 → s.message (.readUnc n h a rx) = some (portLink n, .good, syms) →
        exec (.readUnc n h a rx) s = .next (s.after ((u.takeIn n h.tid.toNat).enqueue n {
          op := .readUnc, tid := h.tid.toNat, pa := a.toNat, size := hSize3 h, token := hTokenOf h, stream := hStream h
          locked := hLocked h }))) ∧
      (∀ m d, hHasToken h = false → a.toNat % 8 = 0 → s.message (.putPartial n h a m d rx) = some (portLink n, .good, syms) →
        exec (.putPartial n h a m d rx) s = .next (s.after ((u.takeIn n h.tid.toNat).enqueue n {
          op := .putPartial, tid := h.tid.toNat, pa := a.toNat, locked := hLocked h
          mask := BitVec.ofNat 64 (m.toNat * 2 ^ (a.toNat % 64)), data := shiftIn d.toNat (a.toNat % 64) }))) ∧
      (∀ d, hHasToken h = false → a.toNat % 64 = 0 → s.message (.putLine n h a d rx) = some (portLink n, .good, syms) →
        exec (.putLine n h a d rx) s = .next (s.after ((u.takeIn n h.tid.toNat).enqueue n {
          op := .putLine, tid := h.tid.toNat, pa := a.toNat, locked := hLocked h, mask := fullMask, data := d })))) ∧
    ((u.port n).takes 0xFFF false →
      (hLocked h = false → a.toNat % 64 = 0 → s.message (.loadReserve n h a rx) = some (portLink n, .good, syms) →
        exec (.loadReserve n h a rx) s = .next (s.after ((u.takeIn n 0xFFF).enqueue n {
          op := .loadReserve, tid := 0xFFF, pa := a.toNat, token := hTokenOf h }))) ∧
      (∀ d, hHasToken h = false → hLocked h = false → a.toNat % 2 ^ hSize2 h = 0 →
        s.message (.storeCond n h a d rx) = some (portLink n, .good, syms) →
        exec (.storeCond n h a d rx) s = .next (s.after ((u.takeIn n 0xFFF).enqueue n {
          op := .storeCond, tid := 0xFFF, pa := a.toNat, size := hSize2 h, early := u.reserveOpen n }))))

/-- WRITEBACK and EVICT_OFFER (02 R31, R36, R45; 04 R106, R107, R119, R127; 05 R136, R151, R153) go past the port's order and past a partition
reset: one of a bucket that is not this hub's is answered HOME_LOST. A write-back of a line that the catalogue shows frees the entry, one
from a port recorded S being a breach, and is performed at its home; another waits as an orphan for its translation. An offer of a line
that the catalogue shows frees the entry and becomes the head of that line's queue; another is declined and counted, and so is one from a
port recorded O (DESIGN CHOICE, assumption 74). -/
def Obligations.WriteBacksAndOffersGoToTheHome : Prop :=
  ∀ (s : State) (n : Port) (h : Hdr) (a : Word) (d : Line) (rx : Rx) (syms : List Nat) (u v : State), s.dead = false →
    s.hears (portLink n) → u = s.reached n syms → v = u.takeIn n h.tid.toNat → (u.port n).takes h.tid.toNat true → h.tid ≠ 0xFFF →
    hHasToken h = false → hLocked h = false → a.toNat % 64 = 0 →
    (s.message (.writeback n h a d rx) = some (portLink n, .good, syms) →
      (v.isHome n (a.toNat / 64) = false →
        exec (.writeback n h a d rx) s = .next (s.after (v.refuse n h.tid.toNat (u.port n).epoch .complete 12))) ∧
      (v.isHome n (a.toNat / 64) = true → ∀ w c, (v.modPort n (fun p => { p with seq := p.seq + 1 })).copyAt n a.toNat = (w, c) →
        (∀ line st x, c = some (line, st) → x = (if st = .shared then (w.dropLine n line).breach n else w.dropLine n line) →
          exec (.writeback n h a d rx) s = .next (s.after (x.takeBack n {
            id := 0, kind := .writeback, line := line, slice := x.sliceOf line, port := n, tid := h.tid.toNat, pa := a.toNat
            part := x.partOf n, epoch := x.epochOf n h.tid.toNat, entry := .waiting, data := d } (u.port n).seq))) ∧
        (c = none → exec (.writeback n h a d rx) s = .next (s.after (w.modPort n (fun p => { p with
          waiting := p.waiting ++ [{ op := .writeback, tid := h.tid.toNat, pa := a.toNat, data := d, mask := fullMask,
                                     seq := (u.port n).seq, epoch := p.epoch }]
          accesses := p.accesses ++ [{ seq := (u.port n).seq, key := .load h.tid.toNat, near := true }] })))))) ∧
    (s.message (.evictOffer n h a d rx) = some (portLink n, .good, syms) →
      (v.isHome n (a.toNat / 64) = false →
        exec (.evictOffer n h a d rx) s = .next (s.after (v.refuse n h.tid.toNat (u.port n).epoch .complete 12))) ∧
      (v.isHome n (a.toNat / 64) = true → ∀ w c, v.copyAt n a.toNat = (w, c) →
        (c = none → exec (.evictOffer n h a d rx) s = .next (s.after (w.declineOffer n h.tid.toNat (a.toNat / 64)))) ∧
        (∀ line st x, c = some (line, st) → x = ((w.dropLine n line).drainLine n line).modPort n (fun p => { p with
            reservation := if p.reservation = some line then none else p.reservation }) →
          (st = .owned → exec (.evictOffer n h a d rx) s = .next (s.after (x.declineOffer n h.tid.toNat line))) ∧
          (st ≠ .owned → exec (.evictOffer n h a d rx) s = .next (s.after (x.newTxnFirst {
            id := 0, kind := .evictOffer, line := line, slice := x.sliceOf line, port := n, tid := h.tid.toNat, pa := a.toNat
            part := x.partOf n, epoch := x.epochOf n h.tid.toNat, entry := .waiting, data := d }))))))

/-- Barriers, loans, waiting and sleep (02 R31, R35, R51, R53; 04 R105, R123 to R125; 09 R254; 11 R308). A BARRIER drains the store buffer and
takes its place in the port's order; before Run it is answered as the port's fence says. LOAN_TARGET is judged and kept. WAIT_EVENT is
held unless APn_IRQ is high. SLEEP_REQ is refused for its reasons in order, or drains the store buffer and sleeps once it is empty. -/
def Obligations.OrderingRequestsAct : Prop :=
  ∀ (s : State) (n : Port) (h : Hdr) (rx : Rx) (syms : List Nat) (u v : State), s.dead = false →
    s.hears (portLink n) → u = s.reached n syms → v = u.takeIn n h.tid.toNat → h.tid ≠ 0xFFF → hHasToken h = false → hLocked h = false →
    (∀ c scope, (c = .barrierPort n h rx ∧ scope = .port) ∨ (c = .barrierPartition n h rx ∧ scope = .partition) ∨
        (c = .barrierSystem n h rx ∧ scope = .system) → s.message c = some (portLink n, .good, syms) →
      ((u.port n).takes h.tid.toNat true → (u.port n).resetHold = false → exec c s = .next (s.after ((v.drainAll n).modPort n (fun p => { p with
        seq := p.seq + 1, barriers := p.barriers ++ [{ seq := p.seq, tid := h.tid.toNat, scope := scope, answered := false }] })))) ∧
      ((u.port n).mode ≠ .run → (u.port n).hasTid h.tid.toNat = false →
        ((u.port n).fence = .normal →
          exec c s = .next (s.after ((v.bump (K.barriersOk n)).respondNow n { op := .complete, tid := h.tid.toNat, status := 0 }))) ∧
        ((u.port n).fence = .pending →
          exec c s = .next (s.after ((v.toHeld n).respondNow n { op := .complete, tid := h.tid.toNat, status := 11 }))) ∧
        ((u.port n).fence = .held →
          exec c s = .next (s.after ((v.bump (K.heldRefusals n)).respondNow n { op := .complete, tid := h.tid.toNat, status := 10 }))))) ∧
    ((u.port n).takes h.tid.toNat true → (u.port n).resetHold = false →
      (∀ k : Byte, (s.port n).areq = false → s.message (.loanTarget n h k rx) = some (portLink n, .good, syms) →
        (v.parked = true → exec (.loanTarget n h k rx) s = .next (s.after
          (v.respondNow n { op := .complete, tid := h.tid.toNat, status := 13 }))) ∧
        (v.parked = false → v.loanable (v.partOf n) k.toNat = false → exec (.loanTarget n h k rx) s = .next (s.after
          ((v.bump (K.permFaults n)).respondNow n { op := .complete, tid := h.tid.toNat, status := 7 }))) ∧
        (v.parked = false → v.loanable (v.partOf n) k.toNat = true → exec (.loanTarget n h k rx) s = .next (s.after
          ((v.modPort n (fun p => { p with loanTarget := some k.toNat })).respondNow n
            { op := .complete, tid := h.tid.toNat, status := 0 })))) ∧
      (s.message (.waitEvent n h rx) = some (portLink n, .good, syms) →
        (v.irqShould.getLsbD n = true → exec (.waitEvent n h rx) s = .next (s.after
          (v.respond n { op := .complete, tid := h.tid.toNat, epoch := (v.port n).epoch }))) ∧
        (v.irqShould.getLsbD n = false → exec (.waitEvent n h rx) s = .next (s.after
          (v.modPort n (fun p => { p with waitEvent := some h.tid.toNat }))))) ∧
      (s.message (.sleepReq n h rx) = some (portLink n, .good, syms) → ∀ busy,
        busy = ((v.port n).outstanding.any (fun o => o.1 != h.tid.toNat) || (v.port n).owedErrors.any (fun o => !o.retires)) →
        (busy = true → exec (.sleepReq n h rx) s = .next (s.after (v.sleepNack n h.tid.toNat 3))) ∧
        (busy = false →
          ((v.port n).areq = true ∨ (v.port n).agnt = true → exec (.sleepReq n h rx) s = .next (s.after (v.sleepNack n h.tid.toNat 2))) ∧
          ((v.port n).areq = false → (v.port n).agnt = false →
            (v.sleepHeldUp n = true → exec (.sleepReq n h rx) s = .next (s.after
              ((v.endModeration (v.partOf n)).sleepNack n h.tid.toNat 1))) ∧
            (v.sleepHeldUp n = false → exec (.sleepReq n h rx) s = .next (s.after
              (((v.drainAll n).modPort n (fun p => { p with sleepTid := some h.tid.toNat })).sleeps n)))))))

/-- DESCRIBE and HOME_MAP_ACK (04 R108, R110, R112, R127). A legal first DESCRIBE records the geometry, is answered OK and is followed by
HOME_MAP; an illegal one is a DECODE_ERROR and a refusal of the link, whose APn_PRDY then falls; a repeated one must be the same. The
acknowledgement of the bring-up's map puts the port in Run when the map is still today's; that of another sends the map that waited for
it. -/
def Obligations.PortsAreDescribed : Prop :=
  ∀ (s : State) (n : Port) (rx : Rx) (syms : List Nat) (u : State), s.dead = false → s.hears (portLink n) → u = s.reached n syms →
    (∀ (h : Hdr) (p0 p1 p2 p3 p4 : Byte) (v bad : State), s.message (.describe n h p0 p1 p2 p3 p4 rx) = some (portLink n, .good, syms) →
      h.tid ≠ 0xFFF → hHasToken h = false → hLocked h = false → (u.port n).hasTid h.tid.toNat = false →
      (u.port n).resetHold = false → v = u.takeIn n h.tid.toNat →
      bad = (v.bump (K.decodeErrors n)).respondNow n { op := .complete, tid := h.tid.toNat, status := 14 } →
      ((u.port n).mode ≠ .run → (u.port n).map = none →
        (describeLegal p0.toNat p1.toNat p2.toNat p3.toNat p4.toNat = true →
          exec (.describe n h p0 p1 p2 p3 p4 rx) s = .next (s.after
            ((((v.modPort n (fun p => { p with l1 := some (p1.toNat, p2.toNat, p3.toNat, p4.toNat) })).setObj (K.l1Geometry n)
              (p1.toNat + p2.toNat * 2 ^ 8 + p3.toNat * 2 ^ 16 + p4.toNat * 2 ^ 24)).respond n
              { op := .complete, tid := h.tid.toNat, epoch := (u.port n).epoch }).sendMap n .bringup))) ∧
        (describeLegal p0.toNat p1.toNat p2.toNat p3.toNat p4.toNat = false →
          exec (.describe n h p0 p1 p2 p3 p4 rx) s = .next (s.after
            ((bad.bump (K.bringupFails n)).modLink (portLink n) (fun e => { e with phase := .leaving, barred := true }))))) ∧
      ((u.port n).mode = .run ∨ (u.port n).map ≠ none → ((u.port n).mode = .run → (u.port n).tagged < (u.port n).maxTagged) →
        (p0 = 1 → (u.port n).l1 = some (p1.toNat, p2.toNat, p3.toNat, p4.toNat) →
          exec (.describe n h p0 p1 p2 p3 p4 rx) s = .next (s.after
            (v.respond n { op := .complete, tid := h.tid.toNat, epoch := (u.port n).epoch }))) ∧
        (p0 ≠ 1 ∨ (u.port n).l1 ≠ some (p1.toNat, p2.toNat, p3.toNat, p4.toNat) →
          exec (.describe n h p0 p1 p2 p3 p4 rx) s = .next (s.after bad)))) ∧
    (∀ (tid : Tid) (x : Byte), s.message (.homeMapAck n tid x rx) = some (portLink n, .good, syms) →
      (∀ (m : MapOut) (v : State), (s.port n).map = some m → m.tid = tid.toNat →
        v = (s.took (portLink n) syms).modPort n (fun p => { p with map := none, mapNext := none, mapAcked := m.mask }) →
        (m.why = .bringup → (s.port n).mode = .awaitDescribe →
          (v.mapMask = m.mask → exec (.homeMapAck n tid x rx) s = .next (s.after (v.modPort n (fun p => { p with mode := .run })))) ∧
          (v.mapMask ≠ m.mask → exec (.homeMapAck n tid x rx) s = .next (s.after (v.sendMap n .bringup)))) ∧
        (m.why ≠ .bringup ∨ (s.port n).mode ≠ .awaitDescribe →
          ((s.port n).mapNext = none → exec (.homeMapAck n tid x rx) s = .next (s.after v)) ∧
          (∀ w, (s.port n).mapNext = some w → exec (.homeMapAck n tid x rx) s = .next (s.after (v.sendMap n w))))) ∧
      ((∀ m, (s.port n).map = some m → m.tid ≠ tid.toNat) →
        exec (.homeMapAck n tid x rx) s = .next (s.after (s.took (portLink n) syms))))

/-- The checks of every request (04 R93, R95, R99, R103, R105, R111; 10 R274). A TID that is outstanding, a form that is not legal, more than
MAX_OUTSTANDING, or a port not yet in Run, where only DESCRIBE and BARRIER pass: DECODE_ERROR and nothing else. While a partition
reset holds the port every request but WRITEBACK and EVICT_OFFER waits for its end. -/
def Obligations.RequestsAreChecked : Prop :=
  ∀ (s : State) (c : Instr) (x : Asked) (syms : List Nat) (u : State), s.dead = false → s.asked c = some x →
    s.hears (portLink x.port) → u = s.reached x.port syms → s.message c = some (portLink x.port, .good, syms) →
    ((u.port x.port).hasTid x.tid = true → exec c s = .next (s.after (u.decodeError x.port x.tid x.resp x.kind true))) ∧
    ((u.port x.port).hasTid x.tid = false →
      (x.legal = false ∨ ((u.port x.port).mode = .run ∧ x.tagged = true ∧ (u.port x.port).maxTagged ≤ (u.port x.port).tagged) ∨
          ((u.port x.port).mode ≠ .run ∧ x.kind ≠ .describe ∧ x.kind ≠ .barrier) →
        exec c s = .next (s.after (u.decodeError x.port x.tid x.resp x.kind false))) ∧
      (x.legal = true → (u.port x.port).takes x.tid x.tagged → (u.port x.port).resetHold = true → x.kind ≠ .evict →
        exec c s = .next (s.after ((u.takeIn x.port x.tid).modPort x.port (fun p =>
          if x.kind = .barrier then { p with resetBars := p.resetBars ++ [x.tid] }
          else { p with resetReqs := p.resetReqs ++ [(x.tid, x.resp)] })))))

/-- The answers of agents (02 R36; 04 R101, R112, R120, R121; 05 R136, R138, R146). COMP_ACK ends the grant that waits for it; a snoop
answer ends the snoop of its TID, and a TID that names none changes nothing; SNOOP_DATA behind a PORT barrier is held, and its snoop has
then been answered; a snoop or a grant that is not answered in time fails the port. -/
def Obligations.AgentAnswersAct : Prop :=
  ∀ (s : State) (n : Port) (tid : Tid) (x : Byte) (rx : Rx) (syms : List Nat) (u : State), s.dead = false → s.hears (portLink n) →
    u = s.took (portLink n) syms →
    (s.message (.compAck n tid x rx) = some (portLink n, .good, syms) →
      (∀ t, u.txns.find? (fun t => t.phase == .granted && t.port == n.val && t.tid == tid.toNat && !t.ackIn) = some t →
        exec (.compAck n tid x rx) s = .next (s.after (u.grantEnds t))) ∧
      (u.txns.find? (fun t => t.phase == .granted && t.port == n.val && t.tid == tid.toNat && !t.ackIn) = none →
        exec (.compAck n tid x rx) s = .next (s.after u))) ∧
    (s.message (.snoopResp n tid x rx) = some (portLink n, .good, syms) →
      exec (.snoopResp n tid x rx) s = .next (s.after (u.snoopAnswer n tid.toNat (x.toNat % 16) (x.toNat / 16 % 8) none)) ∧
      ((u.port n).snoops.find? (fun x => x.tid == tid.toNat) = none → exec (.snoopResp n tid x rx) s = .next (s.after u))) ∧
    (∀ d v, s.message (.snoopData n tid x d rx) = some (portLink n, .good, syms) →
      v = u.modPort n (fun p => { p with seq := p.seq + 1 }) →
      (v.holdsData n (u.port n).seq ((v.port n).snoopLine tid.toNat) = false →
        exec (.snoopData n tid x d rx) s = .next (s.after (v.snoopAnswer n tid.toNat 3 (x.toNat / 16 % 8) (some d)))) ∧
      (v.holdsData n (u.port n).seq ((v.port n).snoopLine tid.toNat) = true →
        exec (.snoopData n tid x d rx) s = .next (s.after (v.modPort n (fun p => { p with
          held := p.held ++ [{ seq := (u.port n).seq, tid := tid.toNat, code := x.toNat / 16 % 8, data := d }] }))))) ∧
    ((s.port n).snoops.any (fun x => x.tid == tid.toNat) = true → (s.port n).held.any (fun d => d.tid == tid.toNat) = false →
      exec (.snoopLimitExpiry n tid) s = .next (s.after (s.begin.portFails n))) ∧
    ((s.port n).snoops.any (fun x => x.tid == tid.toNat) = false ∨ (s.port n).held.any (fun d => d.tid == tid.toNat) = true → exec (.snoopLimitExpiry n tid) s = .next (s.after s.begin)) ∧
    (s.txns.any (fun t => t.phase == .granted && t.port == n.val && t.tid == tid.toNat && !t.ackIn) = true →
      exec (.compAckTimeout n tid) s = .next (s.after (s.begin.portFails n))) ∧
    (s.txns.any (fun t => t.phase == .granted && t.port == n.val && t.tid == tid.toNat && !t.ackIn) = false →
      exec (.compAckTimeout n tid) s = .next (s.after s.begin))

/-- What a port's own engines reach (02 R31; 04 R125; 05 R144, R156; 09 R255 to R257; 10 R266): an aged entry drains; a drain owns its
line; a walk's entry is judged, poison faults it; sleep and reclamation go on once the store buffer is empty and end once their writes
are over; APn_AREQ makes a candidate, its fall ends a loan whose locked accesses are over, and LOAN_LIMIT cuts one. -/
def Obligations.PortEventsAct : Prop :=
  ∀ (s : State) (n : Port),
    (∀ (i : Fin 16) (e : SbEntry), (s.port n).sb.find? (fun e => e.slot == i.val && e.isOpen) = some e →
      exec (.sbAgeDrain n i) s = .next (s.after ((s.begin.modPort n (fun p => { p with
        sb := p.sb.map (fun x => if x.id = e.id then { x with isOpen := false } else x) })).bump (K.sbAgeDrains n)))) ∧
    (∀ (i : Fin 16) (e : SbEntry) (t : Txn), (s.port n).sb.find? (fun e => e.slot == i.val) = some e →
      s.txns.find? (fun t => t.kind == .drain && t.port == n.val && t.aux == e.id) = some t →
      (s.canOwn t = true → exec (.storeDrainVisible n i) s = .next (s.after (s.begin.startOwner t))) ∧
      (s.canOwn t = false → exec (.storeDrainVisible n i) s = .next (s.after s.begin))) ∧
    (∀ i : Fin 16, (s.port n).sb.find? (fun e => e.slot == i.val && e.isOpen) = none →
      exec (.sbAgeDrain n i) s = .next (s.after s.begin)) ∧
    (∀ i : Fin 16, (∀ e, (s.port n).sb.find? (fun e => e.slot == i.val) = some e →
        s.txns.find? (fun t => t.kind == .drain && t.port == n.val && t.aux == e.id) = none) →
      exec (.storeDrainVisible n i) s = .next (s.after s.begin)) ∧
    ((∀ w t, (s.port n).walk = some w → w.txn.bind s.txn = some t → t.phase ≠ .done) →
      exec (.walkReadDone n) s = .next (s.after s.begin)) ∧
    (∀ w t, (s.port n).walk = some w → w.txn.bind s.txn = some t → t.phase = .done →
      (t.poisoned = true → exec (.walkReadDone n) s = .next (s.after ((s.begin.endTxn t.id).translationFault n w.req 5))) ∧
      (t.poisoned = false → exec (.walkReadDone n) s = .next (s.after ((s.begin.endTxn t.id).walkJudge n w
        ((shiftOut t.data (w.addr % 64)).extractLsb' 0 32))))) ∧
    (∀ tid, (s.port n).sleepTid = some tid → (s.port n).sb = [] → ∃ v, v = (s.begin.modPort n (fun p => { p with
        sleepTid := none, reservation := none })).respond n { op := .sleepAck, tid := tid, epoch := (s.port n).epoch } ∧
      exec (.sleepDrainDone n) s = .next (s.after (v.modPort n (fun p =>
        if p.mode = .run ∧ p.outstanding.isEmpty then { p with mode := .sleeping } else p)))) ∧
    ((s.port n).sleepTid = none ∨ (s.port n).sb ≠ [] → exec (.sleepDrainDone n) s = .next (s.after s.begin)) ∧
    ((s.port n).reclaim = .draining → (s.port n).sb = [] → exec (.reclaimDrainVisible n) s = .next (s.after (s.begin.reclaimEntries n))) ∧
    ((s.port n).reclaim ≠ .draining ∨ (s.port n).sb ≠ [] → exec (.reclaimDrainVisible n) s = .next (s.after s.begin)) ∧
    ((s.port n).reclaim ≠ .poisoning ∨ s.poisonsDone n = false → exec (.reclaimComplete n) s = .next (s.after s.begin)) ∧
    ((s.port n).reclaim = .poisoning → s.poisonsDone n = true → exec (.reclaimComplete n) s = .next (s.after
      (((s.begin.addObj (K.linesPoisoned n) (s.port n).lostLines).modPort n (fun p => { p with reclaim := .idle, lostLines := 0 })).raisePS
        (s.partOf n) 5 (n + (s.port n).lostLines * 256) n))) ∧
    (s.prdy n = true →
      (∃ u, u = s.begin.modPort n (fun p => { p with areq := true }) ∧
        (∀ k, s.loanLink n = some k → exec (.areqRise n) s = .next (s.after (u.loanGrant k))) ∧
        (s.loanLink n = none → exec (.areqRise n) s = .next (s.after u))) ∧
      exec (.areqFall n) s = .next (s.after (s.begin.modPort n (fun p => { p with areq := false, loanFresh := p.loanFresh || !p.agnt })))) ∧
    (s.prdy n = false → exec (.areqRise n) s = .next (s.after s.begin) ∧ exec (.areqFall n) s = .next (s.after s.begin)) ∧
    (∀ k : Link, (s.ml k).owner = some n.val →
      ((s.port n).areq = false → s.lockedOver k n = true → exec (.loanRelease k) s = .next (s.after
        ((s.begin.modMl k (fun m => { m with tenant := n, ending := some 0 })).loanClose k))) ∧
      (s.lockedOver k n = false → exec (.loanRelease k) s = .next (s.after s.begin)) ∧
      ((s.port n).areq = true → exec (.loanRelease k) s = .next (s.after s.begin) ∧
        exec (.loanLimitExpiry k) s = .next (s.after (s.begin.loanCut k 1))) ∧
      ((s.port n).areq = false → exec (.loanLimitExpiry k) s = .next (s.after s.begin))) ∧
    (∀ k : Link, (s.ml k).owner = none → exec (.loanRelease k) s = .next (s.after s.begin) ∧
      exec (.loanLimitExpiry k) s = .next (s.after s.begin))

/-- Stores, barriers and admission inside the hub (02 R28, R29, R35, R51; 05 R141). A store merges into the open entry of its line, byte by
byte, and is answered OK; a barrier of a Normal port is answered at once, once everything before it is near, or once everything before
it is complete, by its scope; a held port answers HELD; admission refuses for the partition's cap, the line's queue and the entries in
that order, and a valid credit passes all three. -/
def Obligations.StoresBarriersAndAdmissionFollowTheirRules : Prop :=
  ∀ (s : State) (n : Nat),
    (∀ (r : Req) (line : Nat) (e : SbEntry), (s.port n).sb.find? (fun e => e.line == line && e.isOpen) = some e →
      ∃ u : State, s.acceptStore n r line = (u.takeOut n r).respond n { op := .complete, tid := r.tid, epoch := r.epoch } ∧
        u = s.modPort n (fun p => { p with
          sb := (u.port n).sb, accesses := p.accesses ++ [{ seq := r.seq, key := .store e.id }] }) ∧
        (u.port n).sb = (s.port n).sb.map (fun x => if x.id = e.id then
          { x with mask := x.mask ||| r.mask, data := overlay x.data r.data r.mask, isOpen := !((s.port n).barriers.any (fun b => r.seq < b.seq)) } else x)) ∧
    (∀ b : Barrier, b.answered = false →
      ((s.port n).fence = .normal → b.scope = .partition → (s.port n).nearBefore b.seq = true →
        s.barrierStep n b = some (((s.dropBarrier n b).bump (K.barriersOk n)).answerBarrier n b 0)) ∧
      ((s.port n).fence = .normal → b.scope = .partition → (s.port n).nearBefore b.seq = false → s.barrierStep n b = none) ∧
      ((s.port n).fence = .normal → b.scope = .system → (s.port n).doneBefore b.seq = true →
        s.barrierStep n b = some (((s.dropBarrier n b).bump (K.barriersOk n)).answerBarrier n b 0)) ∧
      ((s.port n).fence = .normal → b.scope = .system → (s.port n).doneBefore b.seq = false → s.barrierStep n b = none) ∧
      ((s.port n).fence = .normal → b.scope = .port → s.barrierStep n b = some (((s.modPort n (fun p => { p with
        barriers := p.barriers.map (fun x => if x = b then { x with answered := true } else x) })).bump (K.barriersOk n)).answerBarrier n b 0)) ∧
      ((s.port n).fence = .held → s.barrierStep n b = some (((s.dropBarrier n b).bump (K.heldRefusals n)).answerBarrier n b 10))) ∧
    (∀ (h q line : Nat) (token : Option Nat),
      (∀ c, s.validCredit h token n line = some c → s.judge h q n line token = .admitted (.credit c.credit)) ∧
      (s.validCredit h token n line = none →
        (s.obj (K.sliceCap q) ≤ s.occupancy h q → s.judge h q n line token = .qos) ∧
        (s.occupancy h q < s.obj (K.sliceCap q) →
          (s.blocked line = true ∨ 0 < s.lineQueue line → s.obj K.lineQueueDepth ≤ s.lineQueue line →
            s.judge h q n line token = .conflict) ∧
          ((s.blocked line = false ∧ s.lineQueue line = 0) ∨ s.lineQueue line < s.obj K.lineQueueDepth → s.entryFree h q = false →
            s.judge h q n line token = .resource) ∧
          ((s.blocked line = false ∧ s.lineQueue line = 0) ∨ s.lineQueue line < s.obj K.lineQueueDepth → s.entryFree h q = true → s.judge h q n line token = .admitted .general))))

/-! Slices, channels and the Archive. -/

/-- The timers of the home slices and the data channels (05 R142, R145; 06 R184; 07 R199, R205, R210; 13 R344): a hold window ends its grant,
at once where COMP_ACK has come; a credit's entry is free again and counted; a way's and a chip's counts start anew; an aged merge entry
is written, by read-modify-write where it is not whole, ahead of every queued command of its address, and only after a calibration hold;
a write waiting for WRITE_RETRY_GAP goes out again. A timer of something that is not there changes nothing. -/
def Obligations.SliceAndChannelTimersAct : Prop :=
  ∀ s : State,
    (∀ (x : LineNo) (t : Txn), s.txns.find? (fun t => t.phase == .granted && t.line == x.toNat && !t.windowOver) = some t →
      (t.ackIn = true → exec (.holdWindowEnd x) s = .next (s.after (s.begin.endTxn t.id))) ∧
      (t.ackIn = false → exec (.holdWindowEnd x) s = .next (s.after (s.begin.modTxn t.id (fun t => { t with windowOver := true }))))) ∧
    (∀ x : LineNo, s.txns.find? (fun t => t.phase == .granted && t.line == x.toNat && !t.windowOver) = none →
      exec (.holdWindowEnd x) s = .next (s.after s.begin)) ∧
    (∀ (h : Slice) (i : Fin 8), (∃ c ∈ s.credits, c.slice = h.val ∧ c.credit = i.val) → exec (.creditLifetimeExpiry h i) s = .next (s.after
      (({ s.begin with credits := s.credits.filter (fun c => !(c.slice == h.val && c.credit == i.val)) } : State).bump
        (K.creditsExpired h)))) ∧
    (∀ (h : Slice) (i : Fin 8), (∀ c ∈ s.credits, ¬(c.slice = h.val ∧ c.credit = i.val)) →
      exec (.creditLifetimeExpiry h i) s = .next (s.after s.begin)) ∧
    (∀ (h : Slice) (w : Fin 16), exec (.wayErrWindowEnd h w) s = .next (s.after
      { s.begin with wayErrs := tset 0 s.wayErrs (h * 16 + w) 0 })) ∧
    (∀ (c : Chan) (i : Fin 20), exec (.markWindowEnd c i) s = .next (s.after
      { s.begin with chipErrs := tset 0 s.chipErrs (c * 32 + i) 0 })) ∧
    (∀ (c : Chan) (ba : BitVec 17) (m : MergeEntry), (s.chan c).merge.find? (fun m => m.ba == ba.toNat) = some m →
      (m.flushing = true → exec (.mergeTimeoutExpiry c ba) s = .next (s.after s.begin)) ∧
      (m.flushing = false → (s.chan c).hold = true → exec (.mergeTimeoutExpiry c ba) s = .next (s.after
        (s.begin.modChan c (fun h => { h with merge := h.merge.map (fun x => if x.ba = m.ba then { x with due := true } else x) })))) ∧
      (m.flushing = false → (s.chan c).hold = false → beatsWhole m.mask = true →
        exec (.mergeTimeoutExpiry c ba) s = .next (s.after
          (s.begin.modChan c (fun h => ({ h with merge := h.merge.filter (fun x => x.ba != m.ba) } : ChanSt).putFirst
            { ba := m.ba, op := .write m.mask m.data, who := m.who })))) ∧
      (m.flushing = false → (s.chan c).hold = false → beatsWhole m.mask = false →
        exec (.mergeTimeoutExpiry c ba) s = .next (s.after
          ((s.begin.bump (K.mergeRmw c)).modChan c (fun h => ({ h with
            merge := h.merge.map (fun x => if x.ba = m.ba then { x with flushing := true, due := false } else x) } : ChanSt).putFirst
            { ba := m.ba, op := .read .merge, who := m.who, rmw := true }))))) ∧
    (∀ (c : Chan) (ba : BitVec 17), (s.chan c).merge.find? (fun m => m.ba == ba.toNat) = none →
      exec (.mergeTimeoutExpiry c ba) s = .next (s.after s.begin)) ∧
    (∀ (x : LineNo) (t : Txn), s.txns.find? (fun t => t.phase == .retryGap && t.line == x.toNat) = some t →
      (t.poisoned = true → exec (.writeRetryGapExpiry x) s = .next (s.after
        (((s.begin.bump K.writeRetries).putTxn { t with phase := .poisonWrite, poisoned := false }).memWrite t fullMask t.poison true true))) ∧
      (t.poisoned = false → exec (.writeRetryGapExpiry x) s = .next (s.after
        (((s.begin.bump K.writeRetries).putTxn { t with phase := .memWrite }).memWrite t t.mask t.data false t.kind.reservedClass)))) ∧
    (∀ x : LineNo, s.txns.find? (fun t => t.phase == .retryGap && t.line == x.toNat) = none →
      exec (.writeRetryGapExpiry x) s = .next (s.after s.begin))

/-- A burst arrives from a data channel (07 R191, R194, R197, R201, R206, R209; 06 R178). One that nobody reads changes nothing; every other
is the oldest read of its address, and a calibration that waited for it goes on. For a lookup, decoded data finishes the read, a corrected
line being counted and logged first; an uncorrectable line is read again from memory as a miss. For a poison write, the data is what is
written with poison. A row of scrub or patrol is judged as such. For a merge entry, the merged beats go ahead of every queued command of
the address; an uncorrectable one is repaired. -/
def Obligations.BurstsAreDecodedForTheirReader : Prop :=
  ∀ (s : State) (c : Chan) (ba : BitVec 17) (b : Burst),
    ((s.chan c).reads.find? (fun r => r.1 == ba.toNat) = none → exec (.dcReadComplete c ba b) s = .next (s.after s.begin)) ∧
    (∀ r u, (s.chan c).reads.find? (fun r => r.1 == ba.toNat) = some r →
      u = s.begin.modChan c (fun h => { h with reads := h.reads.erase r }) →
      (r.2 = .unused → exec (.dcReadComplete c ba b) s = .next (s.after (u.calSearch c))) ∧
      (∀ id, r.2 = .txn id → s.txn id = none → exec (.dcReadComplete c ba b) s = .next (s.after (u.calSearch c))) ∧
      (∀ id t, r.2 = .txn id → s.txn id = some t →
        (t.kind = .scrubRow ∨ t.kind = .patrolRow →
          exec (.dcReadComplete c ba b) s = .next (s.after ((u.scrubBurst t c ba.toNat b).calSearch c))) ∧
        (t.kind ≠ .scrubRow → t.kind ≠ .patrolRow →
          (∀ d fixed chips v, decodeBurst (s.marks c) b = some (d, fixed, chips) →
            v = (if fixed then u.lineCorrected c ba.toNat chips else u) →
            (t.phase = .chanRead →
              exec (.dcReadComplete c ba b) s = .next (s.after ((v.finishRead { t with data := d, way := 16 }).calSearch c))) ∧
            (t.phase = .poisonRead → exec (.dcReadComplete c ba b) s = .next (s.after ((v.writePoison t d).calSearch c)))) ∧
          (decodeBurst (s.marks c) b = none → ∀ v, v = u.lineBad c t.line t.way →
            (t.phase ≠ .poisonRead →
              exec (.dcReadComplete c ba b) s = .next (s.after ((v.putTxn { t with phase := .missed }).calSearch c))) ∧
            (t.phase = .poisonRead →
              exec (.dcReadComplete c ba b) s = .next (s.after (((v.putTxn t).memRead t true).calSearch c)))))) ∧
      (r.2 = .merge →
        ((s.chan c).merge.find? (fun m => m.flushing && m.ba == ba.toNat) = none →
          exec (.dcReadComplete c ba b) s = .next (s.after (u.calSearch c))) ∧
        (∀ m, (s.chan c).merge.find? (fun m => m.flushing && m.ba == ba.toNat) = some m →
          (∀ d chips w, decodeBurst (s.marks c) b = some (d, false, chips) → (s.chan c).state ≠ .fenced →
            w = (if (s.chan c).hold then u.bump (K.calStall c) else u) →
            exec (.dcReadComplete c ba b) s = .next (s.after
              ((w.modChan c (fun h => ({ h with merge := h.merge.filter (fun x => x.ba != ba.toNat) } : ChanSt).putFirst
                { ba := ba.toNat, op := .write (touchedBeats m.mask) (overlay d m.data m.mask), who := m.who, rmw := true })).calSearch c))) ∧
          (decodeBurst (s.marks c) b = none →
            exec (.dcReadComplete c ba b) s = .next (s.after ((u.repairAt c ba.toNat).calSearch c))))))

/-- Packets of the Archive controllers (09 R238, R244 to R248, R252; 05 R155). An answer whose tag names no request of its kind fails the
link; otherwise the tag is free, errors and poison are counted, and the requester goes on with the data. A SNOOP_IN of a served bucket
becomes a transaction; one outside Normal memory, with an empty mask, or of a bucket that is not this hub's is answered at once. -/
def Obligations.ArchivePacketsAct : Prop :=
  ∀ (s : State) (k : Link) (tag : Byte) (rx : Rx) (syms : List Nat) (u : State), s.hears (.arch k) → u = s.took (.arch k) syms →
    (∀ st p d, s.message (.rdResp k tag st p d rx) = some (.arch k, .good, syms) →
      ((∀ r, (s.ml k).tagged tag.toNat = some r → r.isRead = false) →
        exec (.rdResp k tag st p d rx) s = .next (s.after (u.mlFails k))) ∧
      (∀ r v, (s.ml k).tagged tag.toNat = some r → r.isRead = true → v = u.answered k tag.toNat (st.toNat != 0 || p) →
        (∀ id, r.who = .txn id → s.txn id = none → exec (.rdResp k tag st p d rx) s = .next (s.after v)) ∧
        (∀ id t, r.who = .txn id → s.txn id = some t → exec (.rdResp k tag st p d rx) s = .next (s.after
          (v.txnRead t (st.toNat == 0 && !p) (st.toNat == 0 && p) (if st.toNat = 0 then d else 0)))) ∧
        (∀ n tid id, r.who = .dev n tid id → exec (.rdResp k tag st p d rx) s = .next (s.after
          (v.devReadAnswer k r n tid id st.toNat p d))))) ∧
    (∀ st, s.message (.wrAck k tag st rx) = some (.arch k, .good, syms) →
      ((∀ r, (s.ml k).tagged tag.toNat = some r → r.isRead = true) → exec (.wrAck k tag st rx) s = .next (s.after (u.mlFails k))) ∧
      (∀ r v, (s.ml k).tagged tag.toNat = some r → r.isRead = false → v = u.answered k tag.toNat (st.toNat != 0) →
        (∀ id, r.who = .txn id → s.txn id = none → exec (.wrAck k tag st rx) s = .next (s.after v)) ∧
        (∀ id t, r.who = .txn id → s.txn id = some t →
          exec (.wrAck k tag st rx) s = .next (s.after (v.txnWrote t (st.toNat == 0) .refused))) ∧
        (∀ n tid id, r.who = .dev n tid id → exec (.wrAck k tag st rx) s = .next (s.after (v.devWriteAnswer k r n tid id st.toNat))))) ∧
    (∀ (a : BitVec 40) (c : Instr) (kind : TxnKind) (m : Mask64) (d : Line),
      (c = .siRead k tag a rx ∧ kind = .siRead ∧ m = 0 ∧ d = 0) ∨ (c = .siReadInval k tag a rx ∧ kind = .siReadInval ∧ m = 0 ∧ d = 0) ∨
        (c = .siWrite k tag a m d rx ∧ kind = .siWrite) → s.message c = some (.arch k, .good, syms) →
      (s.dead = true ∨ s.mlServes k = false ∨ 16 ≤ tag.toNat ∨ (s.ml k).si.contains tag.toNat = true → exec c s = .next (s.after u)) ∧
      (s.dead = false → s.mlServes k = true → tag.toNat < 16 → (s.ml k).si.contains tag.toNat = false →
        (s.route s.epoch a.toNat ≠ .normal ∨ (kind = .siWrite ∧ m = 0) →
          exec c s = .next (s.after (u.siRefuse k tag.toNat 1 (kind == .siWrite)))) ∧
        (s.route s.epoch a.toNat = .normal → ¬(kind = .siWrite ∧ m = 0) → s.homeNow.getLsbD (bucketOf (a.toNat / 64)) = false →
          exec c s = .next (s.after (u.siRefuse k tag.toNat 3 (kind == .siWrite)))) ∧
        (s.route s.epoch a.toNat = .normal → ¬(kind = .siWrite ∧ m = 0) → s.homeNow.getLsbD (bucketOf (a.toNat / 64)) = true →
          exec c s = .next (s.after ((u.modMl k (fun m => { m with si := m.si ++ [tag.toNat] })).newTxn {
            id := 0, kind := kind, line := a.toNat / 64, slice := s.sliceOf (a.toNat / 64), part := s.inForce.supervisor
            entry := .waiting, mask := m, data := d, aux := k * 256 + tag.toNat })))))

/-- Archive links come up and go (09 R232, R233, R250, R251). MLn_RDYO rises where it may; both ready wires high send LINK_HELLO; a legal
ML_DESCRIBE puts the link in service with its tags, another fails the bring-up; MLn_RDYI low fails a serving link and ends a bring-up in
which it was high; ML_DOWN_LIMIT marks
one that is down with no serving partner. -/
def Obligations.ArchiveLinksComeUpAndGo : Prop :=
  ∀ (s : State) (k : Link),
    (s.mlMayRise k = true → exec (.mlRdyoRaise k) s = .next (s.after
      ((s.begin.modLink (archLink k) (fun e => { e with phase := .hello, near := s.obj (K.mlReach k) % 2 == 1 })).mlTo k .bringup))) ∧
    (s.mlMayRise k = false → exec (.mlRdyoRaise k) s = .next (s.after s.begin)) ∧
    ((s.link (archLink k)).phase = .hello ∨ (s.link (archLink k)).phase = .refused → (s.link (archLink k)).helloSent = false →
      exec (.mlReady k) s = .next (s.after
      (((s.begin.modMl k (fun m => { m with rdyi := true })).sendHello (archLink k)).helloEnds (archLink k)))) ∧
    (((s.link (archLink k)).phase ≠ .hello ∧ (s.link (archLink k)).phase ≠ .refused) ∨ (s.link (archLink k)).helloSent = true →
      exec (.mlReady k) s = .next (s.after s.begin)) ∧
    (∀ t si d rx syms u, s.hears (.arch k) → s.message (.mlDescribe k t si d rx) = some (.arch k, .good, syms) → u = s.took (.arch k) syms →
      ((s.ml k).describable = false → exec (.mlDescribe k t si d rx) s = .next (s.after u)) ∧
      ((s.ml k).describable = true →
        (16 < si.toNat ∨ (d = false ∧ s.partner k ≠ none) →
          exec (.mlDescribe k t si d rx) s = .next (s.after (u.mlBringupFails k))) ∧
        (si.toNat ≤ 16 → d = true ∨ s.partner k = none → ∃ v : State, exec (.mlDescribe k t si d rx) s = .next (s.after v) ∧
          (v.ml k).state = .serving ∧ (v.ml k).tags = t.toNat + 1 ∧ (v.ml k).siMax = si.toNat ∧ (v.ml k).away = false ∧
          v.obj (K.mlTags k) = t.toNat + 1))) ∧
    (s.mlServes k = true → exec (.mlRdyiFall k) s = .next (s.after
      (((s.begin.modMl k (fun m => { m with rdyi := false })).mlFails k).modLink (archLink k) (fun e => { e with barred := false })))) ∧
    (∀ u, u = s.begin.modMl k (fun m => { m with rdyi := false }) → s.mlServes k = false →
      ((s.link (archLink k)).phase = .down ∨ ((s.link (archLink k)).phase = .hello ∧ (s.link (archLink k)).helloSent = false) →
        exec (.mlRdyiFall k) s = .next (s.after (u.modLink (archLink k) (fun e => { e with barred := false })))) ∧
      ((s.link (archLink k)).ended = true ∨ ((s.link (archLink k)).phase = .hello ∧ (s.link (archLink k)).helloSent = true) →
        exec (.mlRdyiFall k) s = .next (s.after ((u.mlBringupFails k).modLink (archLink k) (fun e => { e with barred := false })))) ∧
      ((s.link (archLink k)).phase = .refused →
        exec (.mlRdyiFall k) s = .next (s.after (((u.mlLower k).mlTo k .down).modLink (archLink k) (fun e => { e with barred := false }))))) ∧
    (s.mlMode = true → s.dead = false → (s.ml k).state = .down ∨ (s.ml k).state = .bringup → s.partnerServes k = false → (s.ml k).expired = false →
      exec (.mlDownLimitExpiry k) s = .next (s.after
        ((s.begin.modMl k (fun m => { m with expired := true })).bump (K.mlDownExpiries k)))) ∧
    (((s.ml k).state ≠ .down ∧ (s.ml k).state ≠ .bringup) ∨ s.partnerServes k = true ∨ s.mlMode = false ∨ s.dead = true ∨
        (s.ml k).expired = true →
      exec (.mlDownLimitExpiry k) s = .next (s.after s.begin))

/-! Partitions, the console window and the pair. -/

/-- Partition reset and TC_INVAL (10 R271, R273, R274). PART_RESET 1 and 2 start a reset, RESET_STATE 1 or 3 with it; TC_INVAL invalidates
every translation cache of the partition and is busy, its answer waiting, until its walks are over. Both go on only when their step is over: the recalls
done, the member ports' stores drain; the stores done, the reset ends, RESET_STATE reads 0; TC_INVAL ends when no walk of it is left. -/
def Obligations.PartitionsAreResetAndInvalidated : Prop :=
  (∀ (s : State) (src : Src) (p : Part),
    (s.accepts src (K.partReset p) 1 → exec (.graceful src p) s = .next (s.after
      (((s.noted src (K.partReset p) 1).startReset p false).saysOk s src (K.partReset p)))) ∧
    (s.accepts src (K.partReset p) 2 → exec (.immediate src p) s = .next (s.after
      (((s.noted src (K.partReset p) 2).startReset p true).saysOk s src (K.partReset p)))) ∧
    (s.accepts src (K.tcInval p) 1 → ∃ t : State,
      exec (.tcInval src p) s = .next (s.after { t with due := t.due ++ [(.status src (K.tcInval p), .tc p)] }) ∧
      t = { s.noted src (K.tcInval p) 1 with arrays := t.arrays, ports := t.ports, tcInval := t.tcInval } ∧
      t.tcInval.contains p = true ∧
      (∀ n ∈ s.membersOf p, (t.port n).tcOrder = [] ∧ ∀ w, w < 65536 → t.word 3 n w = arrayDefault (akey 3 n w)))) ∧
  (∀ (s : State) (p : Part),
    (∀ r, s.resetOf p = some r →
      (r.stores = false → s.resetRecalled r = true → exec (.partResetRecallsDone p) s = .next (s.after (s.begin.resetStores p))) ∧
      (r.stores = true ∨ s.resetRecalled r = false → exec (.partResetRecallsDone p) s = .next (s.after s.begin)) ∧
      (r.stores = true → s.resetClean r = true → (∀ n ∈ s.membersOf p, s.resetQuiet n = true) → ∃ t : State,
        exec (.partResetStoresDone p) s = .next (s.after t) ∧ t = s.begin.resetEnd r ∧ t.obj (K.resetState p) = 0) ∧
      (r.stores = false ∨ s.resetClean r = false ∨ (∃ n ∈ s.membersOf p, s.resetQuiet n = false) →
        exec (.partResetStoresDone p) s = .next (s.after s.begin))) ∧
    (s.resetOf p = none → exec (.partResetRecallsDone p) s = .next (s.after s.begin) ∧
      exec (.partResetStoresDone p) s = .next (s.after s.begin)) ∧
    (s.tcInval.contains p.val = true → s.tcWalks p = false → exec (.tcInvalDone p) s = .next (s.after (s.begin.tcInvalEnd p))) ∧
    (s.tcInval.contains p.val = false ∨ s.tcWalks p = true → exec (.tcInvalDone p) s = .next (s.after s.begin)))

/-- The console window's own commands (10 R276 to R278; 16 R406). OBJ_CTRL 1 reads the selected object into OBJ_DATA, or shows the status that
refuses it; OBJ_CTRL 2 writes OBJ_LEN bytes of it; TIME_LO returns the low half of device time and latches the high half. A port that is
not in Run, or may not reach the page, does nothing. -/
def Obligations.ConsoleCommandsAct : Prop :=
  ∀ (s : State) (n : Port) (q : Part),
    (s.consoleMay n q = true →
      (∀ w v, s.begin.objRead (conSrc n q) ((s.con n q).sel % 2 ^ 24) false = (w, 0, v) →
        exec (.consoleObjRead n q) s = .next (s.after (w.modCon n q (fun c => { c with
          status := 0, data0 := bytesNat v % 2 ^ 32, data1 := bytesNat v / 2 ^ 32 % 2 ^ 32 })))) ∧
      (∀ w st v, s.begin.objRead (conSrc n q) ((s.con n q).sel % 2 ^ 24) false = (w, st, v) → st ≠ 0 →
        exec (.consoleObjRead n q) s = .next (s.after (w.modCon n q (fun c => { c with status := st })))) ∧
      (∀ w st, s.begin.objWrite (conSrc n q) ((s.con n q).sel % 2 ^ 24)
          (natBytes (min 9 (s.con n q).len) ((s.con n q).data0 + (s.con n q).data1 * 2 ^ 32)) false {} = (w, st) →
        exec (.consoleObjWrite n q) s = .next (s.after (w.modCon n q (fun c => { c with status := st })))) ∧
      exec (.timeLo n q) s = .next (s.after ((s.begin.modPort n (fun p => { p with timeHi := s.deviceTime / 2 ^ 32 % 2 ^ 32 })).emit
        (.objStatus (conSrc n q) 0x0008 0 (natBytes 4 (s.deviceTime % 2 ^ 32)))))) ∧
    (s.consoleMay n q = false → exec (.consoleObjRead n q) s = .next (s.after s.begin) ∧
      exec (.consoleObjWrite n q) s = .next (s.after s.begin) ∧ exec (.timeLo n q) s = .next (s.after s.begin))

/-- The wires of the pair link (03 R91; 15 R392, R396). PL_RDYO rises where it may; PL_RDYI is followed, and its rise in bring-up calls for
LINK_HELLO; PAIR_LOSS_TIME with PL_RDYI low loses the partner; the restart raises PL_RDYO again. -/
def Obligations.PairWiresAct : Prop :=
  ∀ s : State,
    (s.plMayRise = true → (s.link .pair).backoff = false → (s.link .pair).barred = false →
      exec .plRdyoRaise s = .next (s.after (s.begin.plRise.helloEnds .pair))) ∧
    (s.plMayRise = false ∨ (s.link .pair).backoff = true ∨ (s.link .pair).barred = true → exec .plRdyoRaise s = .next (s.after s.begin)) ∧
    (∀ u, u = ({ s.begin with pair := { s.pair with rdyi := true } } : State) →
      ((s.link .pair).phase = .hello ∨ (s.link .pair).phase = .refused → (s.link .pair).helloSent = false →
        exec .plRdyiRise s = .next (s.after ((u.sendHello .pair).helloEnds .pair))) ∧
      (((s.link .pair).phase ≠ .hello ∧ (s.link .pair).phase ≠ .refused) ∨ (s.link .pair).helloSent = true → exec .plRdyiRise s = .next (s.after u))) ∧
    (∀ u, u = ({ s.begin with pair := { s.pair with rdyi := false } } : State) →
      (s.ready .pair = false → exec .plRdyiFall s = .next (s.after (u.modLink .pair (fun e => { e with barred := false })))) ∧
      (s.ready .pair = true → s.pair.state = 2 ∨ s.pair.state = 4 ∨ s.pair.state = 5 →
        exec .plRdyiFall s = .next (s.after ((u.pairLower.pairTo 1).modLink .pair (fun e => { e with barred := false })))) ∧
      (s.ready .pair = true → s.pair.state ≠ 2 → s.pair.state ≠ 4 → s.pair.state ≠ 5 →
        exec .plRdyiFall s = .next (s.after (u.pairLower.modLink .pair (fun e => { e with barred := false }))))) ∧
    (s.pair.rdyi = false → exec .pairLossTimeout s = .next (s.after (s.begin.partnerLost 2))) ∧
    (s.pair.rdyi = true → exec .pairLossTimeout s = .next (s.after s.begin)) ∧
    ((s.link .pair).backoff = true → ∀ u, u = s.begin.modLink .pair (fun e => { e with backoff := false }) →
      (u.plMayRise = true → (s.link .pair).barred = false → exec .pairLinkRestart s = .next (s.after u.plRise)) ∧
      (u.plMayRise = false ∨ (s.link .pair).barred = true → exec .pairLinkRestart s = .next (s.after u))) ∧
    ((s.link .pair).backoff = false → exec .pairLinkRestart s = .next (s.after s.begin))

/-- The messages of the pair (15 R385, R386, R388, R389, R391, R393). PAIR_HELLO of a partner with the same role or another mask refuses the
pair; otherwise it is followed, a give that it shows taken is confirmed and one not confirmed is sent again. RANGE_GIVE is taken, RANGE_TAKEN ends a give, RETURN_REQ begins one of the buckets held, and SURPRISE
loses the partner; a refused pair hears none of them. Buckets taken are served once every port has acknowledged its map. -/
def Obligations.PairMessagesAct : Prop :=
  ∀ (s : State) (tid : Tid) (rx : Rx) (syms : List Nat) (u : State), s.hears .pair → u = s.took .pair syms →
    (∀ (st : Byte) (home mask : Mask64), s.message (.pairHello st home mask tid rx) = some (.pair, .good, syms) →
      ∀ v, v = ({ u with pair := { u.pair with partnerHome := home, partnerMode := st.toNat / 16 % 16, greeted := true } } : State) →
      (st.toNat % 2 = s.obj K.pairRole % 2 ∨ mask ≠ BitVec.ofNat 64 (s.obj K.pairMask) →
        exec (.pairHello st home mask tid rx) s = .next (s.after (v.pairTo 4))) ∧
      (st.toNat % 2 ≠ s.obj K.pairRole % 2 → mask = BitVec.ofNat 64 (s.obj K.pairMask) →
        ∀ w, w = ({ v with pair := { v.pair with lost := false } } : State) →
        (s.pair.giving = 0 → s.pair.given = 0 → s.pair.taking = 0 →
          exec (.pairHello st home mask tid rx) s = .next (s.after (w.pairTo 2))) ∧
        (s.pair.giving ≠ 0 ∨ s.pair.given ≠ 0 ∨ s.pair.taking ≠ 0 → ∀ x, x = (w.pairTo 5).giveConfirmed home →
          (x.pair.given = 0 → exec (.pairHello st home mask tid rx) s = .next (s.after x)) ∧
          (x.pair.given ≠ 0 → exec (.pairHello st home mask tid rx) s = .next (s.after
            (x.sendPair { op := .give, home := x.pair.given })))))) ∧
    (∀ (home : Mask64) (c : Instr),
      c = .rangeGive home tid rx ∨ c = .rangeTaken home tid rx ∨ c = .returnReq home tid rx ∨ c = .surprise tid rx →
      s.message c = some (.pair, .good, syms) →
      (s.pairOpen = false → exec c s = .next (s.after u)) ∧
      (s.pairOpen = true →
        (c = .rangeGive home tid rx → exec c s = .next (s.after (u.takeGiven home))) ∧
        (c = .rangeTaken home tid rx →
          (s.pair.given &&& home = 0 → exec c s = .next (s.after u)) ∧
          (s.pair.given &&& home ≠ 0 → exec c s = .next (s.after
            ((({ u with pair := { u.pair with given := u.pair.given &&& ~~~home } } : State).bump K.handovers).pairSettle.toWorking)))) ∧
        (c = .returnReq home tid rx →
          (s.mode.serving = true → exec c s = .next (s.after (u.startGive (s.homeNow &&& home)))) ∧
          (s.mode.serving = false → exec c s = .next (s.after u))) ∧
        (c = .surprise tid rx → exec c s = .next (s.after (u.partnerLost 1))))) ∧
    (s.takeAcked = true → s.pair.taking ≠ 0 → ∀ v, v = ({ s.begin with
        homeNow := s.homeNow ||| s.pair.taking, pair := { s.pair with taking := 0 } } : State) →
      (s.pair.lost = true → exec .takenBucketsServed s = .next (s.after v.pairSettle.toWorking)) ∧
      (s.pair.lost = false → exec .takenBucketsServed s = .next (s.after
        ((v.sendPair { op := .taken, home := s.pair.taking }).bump K.handovers).pairSettle.toWorking))) ∧
    (s.takeAcked = false ∨ s.pair.taking = 0 → exec .takenBucketsServed s = .next (s.after s.begin))

/-! Field control. -/

/-- A request frame of the field network (16 R400, R402, R403, R405, R406, R414). With the interface or PD1 down it is not heard; only IDENT
may be broadcast; a repeat of a kept request gets the kept answer and is not performed; while an answer waits, 16 requests queue and a
further one is dropped and counted; otherwise the request is served at once, a bad frame with BAD_FRAME and nothing else. A SUBSCRIBE row is
the frame whose MODE byte is the row's, or whose MODE or length no row has, and a SEGMENT row the one with the row's direction bit (R409,
R410). -/
def Obligations.FieldRequestsAreServedOnce : Prop :=
  ∀ (s : State) (c : Instr) (op : Nat) (f : JopFrame) (mode : Nat), mode = payloadNat f.payload 4 1 →
    (c = .ident f ∧ op = 0x01) ∨ (c = .read f ∧ op = 0x02) ∨ (c = .write f ∧ op = 0x03) ∨ (c = .stage f ∧ op = 0x04) ∨
      (c = .commit f ∧ op = 0x05) ∨ (c = .journalRead f ∧ op = 0x08) ∨
      (op = 0x06 ∧ ((c = .subscribeCancel f ∧ (mode = 0 ∨ 2 < mode ∨ f.payload.length ≠ 12)) ∨
        (c = .subscribePeriodic f ∧ (mode = 1 ∨ 2 < mode ∨ f.payload.length ≠ 12)) ∨
        (c = .subscribeOnChange f ∧ (mode = 2 ∨ 2 < mode ∨ f.payload.length ≠ 12)))) ∨
      (op = 0x09 ∧ ((c = .segmentRead f ∧ mode % 2 = 0) ∨ (c = .segmentWrite f ∧ mode % 2 = 1))) →
    (s.jop.up = false ∨ s.pd 1 = false → exec c s = .next (s.after s.begin)) ∧
    (s.jop.up = true → s.pd 1 = true →
      (f.broadcast = true → op ≠ 1 → exec c s = .next (s.after (s.begin.bump K.netDiscarded))) ∧
      (f.broadcast = false ∨ op = 1 → ∀ u, u = s.begin.bump K.framesRx →
        (s.jop.waiting = none →
          (∀ k, s.keptFor f = some k → exec c s = .next (s.after
            (((u.bump K.duplicates).bump K.framesTx).emit (.answer k.mac k.op k.seq k.status k.payload)))) ∧
          (s.keptFor f = none →
            (frameBad op f = true → exec c s = .next (s.after (u.jopAnswer f.mac op f.seq 1 []))) ∧
            (frameBad op f = false → exec c s = .next (s.after ((u.serve op f).state.answerServed op f (u.serve op f)))))) ∧
        (s.jop.waiting ≠ none →
          (s.jop.queue.length < 16 → exec c s = .next (s.after { u with jop := { s.jop with queue := s.jop.queue ++ [{ op := op, frame := f }] } })) ∧
          (16 ≤ s.jop.queue.length → exec c s = .next (s.after (u.bump K.requestsDropped))))))

/-- What good requests do (16 R404, R406, R410 to R414, R417). IDENT changes nothing; JOURNAL_READ answers the entries asked for and
changes nothing but the error records of the metadata words it reads (08 R217); READ answers the object's value or the
status that refuses it; a refused WRITE or STAGE changes nothing; COMMIT while a switch runs is refused, one whose staged values break a
rule leaves COMMIT_ERROR with the first such object, and another advances the epoch and leaves no staged copy; SUBSCRIBE 0 ends the
subscription of its source and object. -/
def Obligations.FieldRequestsAreServed : Prop :=
  ∀ (s : State) (f : JopFrame),
    (frameBad 1 f = false → s.serve 1 f = { state := s, status := 0, payload := s.identPayload }) ∧
    (frameBad 8 f = false → s.readMode K.journalNext = 0 → ∀ start max, start = payloadNat f.payload 0 4 → max = payloadNat f.payload 4 1 →
      (s.serve 8 f).status = 0 ∧ (s.serve 8 f).payload = s.journalPayload start max ∧
      ((∀ x ∈ s.journalRead start max, ∀ i, x.1 = some i → ∃ d, decodeWord (s.metaWord i) = .clean d) → (s.serve 8 f).state = s)) ∧
    (frameBad 2 f = false → ∀ t st v, s.objRead (.net f.mac) (itemKey f.payload) (f.flags == 1) = (t, st, v) →
      s.serve 2 f = { state := t, status := st, payload := f.payload.take 4 ++ v }) ∧
    (∀ stage : Bool, frameBad (if stage then 4 else 3) f = false → ∀ st, st ≠ 0 →
      s.writeStatus (.net f.mac) (itemKey f.payload) (f.payload.drop 4) stage = st →
      (s.serve (if stage then 4 else 3) f).state = s ∧ (s.serve (if stage then 4 else 3) f).status = st) ∧
    (frameBad 5 f = false → s.mode ≠ .bringup → s.mode ≠ .faultHold →
      (s.commitState = true → (s.serve 5 f).status = 7 ∧ (s.serve 5 f).state = s) ∧
      (∀ k, s.commitState = false → s.commitFault = some k → (s.serve 5 f).status = 9 ∧ (s.serve 5 f).state = s.setObj K.commitError k) ∧
      (s.commitState = false → s.commitFault = none → (s.serve 5 f).status = 0 ∧ (s.serve 5 f).state.epoch = (s.epoch + 1) % 16 ∧
        (s.serve 5 f).state.staged = [] ∧ (s.serve 5 f).state.commitState = true)) ∧
    (frameBad 6 f = false → s.readMode (itemKey f.payload) = 0 → ∀ r, lookupRow (itemKey f.payload / 256) (itemKey f.payload % 256) = some r →
      r.acc ≠ .wo → payloadNat f.payload 4 1 = 0 →
      (s.jop.subs.find? (fun y => y.mac == f.mac && y.key == itemKey f.payload) = none →
        s.serve 6 f = { state := s, status := 0, payload := [0xFF] }) ∧
      (∀ y, s.jop.subs.find? (fun y => y.mac == f.mac && y.key == itemKey f.payload) = some y →
        (s.serve 6 f).state = { s with jop := { s.jop with subs := s.jop.subs.filter (fun x => x.id != y.id) } }))

/-- Events of field control (16 R400, R402, R409 to R411, R414). The switch of a commit ends once no port and no bucket is pending, with event
29; NOTIFY goes out at its period, or when the value has changed; a lease ends its subscription; an idle transfer is abandoned; frames
that are not accepted or find the queue full are counted. -/
def Obligations.FieldEventsAct : Prop :=
  ∀ s : State,
    (s.commitState = true → s.commitPending = 0 → s.moving = [] → s.dead = false → exec .commitSwitchDone s = .next (s.after
      ((({ s.begin with commitState := false, oldBound := [] } : State).bump K.commits).raiseS 29 s.epoch))) ∧
    (s.commitState = false ∨ s.commitPending ≠ 0 ∨ s.moving ≠ [] ∨ s.dead = true → exec .commitSwitchDone s = .next (s.after s.begin)) ∧
    (∀ i : Fin 16,
      (∀ x, s.sub i = some x →
        (x.onChange = false → s.notifiable x.key = true → exec (.notifyPeriodExpiry i) s = .next (s.after (s.begin.notify x))) ∧
        (x.onChange = false → s.notifiable x.key = false → exec (.notifyPeriodExpiry i) s = .next (s.after
          (s.begin.setSubs (s.jop.subs.map (fun y => if y.id = i.val then { y with lastTime := s.deviceTime } else y))))) ∧
        (x.onChange = true → exec (.notifyPeriodExpiry i) s = .next (s.after s.begin)) ∧
        (x.onChange = true → s.notifiable x.key = true → s.objGet x.key ≠ x.lastValue →
          exec (.notifyOnChange i) s = .next (s.after (s.begin.notify x))) ∧
        (x.onChange = false ∨ s.notifiable x.key = false ∨ s.objGet x.key = x.lastValue → exec (.notifyOnChange i) s = .next (s.after s.begin))) ∧
      (s.sub i = none → exec (.notifyPeriodExpiry i) s = .next (s.after s.begin) ∧
        exec (.notifyOnChange i) s = .next (s.after s.begin)) ∧
      exec (.subLeaseExpiry i) s = .next (s.after { s.begin with
        jop := { s.jop with subs := s.jop.subs.filter (fun x => x.id != i.val) } })) ∧
    (∀ i : Fin 4,
      (∀ x, s.jop.segs[i.val]? = some x → exec (.segmentIdleTimeout i) s = .next (s.after { s.begin with
        jop := { s.jop with segs := s.jop.segs.filter (fun y => y.mac != x.mac) } })) ∧
      (s.jop.segs[i.val]? = none → exec (.segmentIdleTimeout i) s = .next (s.after s.begin))) ∧
    (s.jop.up = true → s.pd 1 = true →
      exec (.netFrameDiscarded false) s = .next (s.after (s.begin.bump K.netDiscarded)) ∧
      exec (.netFrameDiscarded true) s = .next (s.after ((s.begin.bump K.framesRx).bump K.requestsDropped))) ∧
    (∀ b, s.jop.up = false ∨ s.pd 1 = false → exec (.netFrameDiscarded b) s = .next (s.after s.begin))

end
end

