-- ==== Sys2Proof/Laws/State.lean ====
section
/-! SUPPORT. One small law for each field of the state and each update of it: what the update leaves as it was. -/

namespace Sys2Proof.Machine

variable (s : State)

/-! setObj changes `objs` alone. -/

@[simp] theorem State.setObj_pending (k v : Nat) : (s.setObj k v).pending = s.pending := by cases s; rfl
@[simp] theorem State.setObj_sent (k v : Nat) : (s.setObj k v).sent = s.sent := by cases s; rfl
@[simp] theorem State.setObj_freeCtr (k v : Nat) : (s.setObj k v).freeCtr = s.freeCtr := by cases s; rfl
@[simp] theorem State.setObj_mode (k v : Nat) : (s.setObj k v).mode = s.mode := by cases s; rfl
@[simp] theorem State.setObj_trans (k v : Nat) : (s.setObj k v).trans = s.trans := by cases s; rfl
@[simp] theorem State.setObj_transStart (k v : Nat) : (s.setObj k v).transStart = s.transStart := by cases s; rfl
@[simp] theorem State.setObj_domains (k v : Nat) : (s.setObj k v).domains = s.domains := by cases s; rfl
@[simp] theorem State.setObj_deviceTime (k v : Nat) : (s.setObj k v).deviceTime = s.deviceTime := by cases s; rfl
@[simp] theorem State.setObj_nstby (k v : Nat) : (s.setObj k v).nstby = s.nstby := by cases s; rfl
@[simp] theorem State.setObj_presA (k v : Nat) : (s.setObj k v).presA = s.presA := by cases s; rfl
@[simp] theorem State.setObj_presB (k v : Nat) : (s.setObj k v).presB = s.presB := by cases s; rfl
@[simp] theorem State.setObj_presLatched (k v : Nat) : (s.setObj k v).presLatched = s.presLatched := by cases s; rfl
@[simp] theorem State.setObj_presFault (k v : Nat) : (s.setObj k v).presFault = s.presFault := by cases s; rfl
@[simp] theorem State.setObj_irqPins (k v : Nat) : (s.setObj k v).irqPins = s.irqPins := by cases s; rfl
@[simp] theorem State.setObj_parkRdy (k v : Nat) : (s.setObj k v).parkRdy = s.parkRdy := by cases s; rfl
@[simp] theorem State.setObj_nfaultLow (k v : Nat) : (s.setObj k v).nfaultLow = s.nfaultLow := by cases s; rfl
@[simp] theorem State.setObj_viom (k v : Nat) : (s.setObj k v).viom = s.viom := by cases s; rfl
@[simp] theorem State.setObj_vnvm (k v : Nat) : (s.setObj k v).vnvm = s.vnvm := by cases s; rfl
@[simp] theorem State.setObj_drained (k v : Nat) : (s.setObj k v).drained = s.drained := by cases s; rfl
@[simp] theorem State.setObj_fatalKept (k v : Nat) : (s.setObj k v).fatalKept = s.fatalKept := by cases s; rfl
@[simp] theorem State.setObj_linkWaited (k v : Nat) : (s.setObj k v).linkWaited = s.linkWaited := by cases s; rfl
@[simp] theorem State.setObj_tbState (k v : Nat) : (s.setObj k v).tbState = s.tbState := by cases s; rfl
@[simp] theorem State.setObj_clkTrimmed (k v : Nat) : (s.setObj k v).clkTrimmed = s.clkTrimmed := by cases s; rfl
@[simp] theorem State.setObj_missAll (k v : Nat) : (s.setObj k v).missAll = s.missAll := by cases s; rfl
@[simp] theorem State.setObj_hot (k v : Nat) : (s.setObj k v).hot = s.hot := by cases s; rfl
@[simp] theorem State.setObj_warned (k v : Nat) : (s.setObj k v).warned = s.warned := by cases s; rfl
@[simp] theorem State.setObj_nodeId (k v : Nat) : (s.setObj k v).nodeId = s.nodeId := by cases s; rfl
@[simp] theorem State.setObj_plcaOk (k v : Nat) : (s.setObj k v).plcaOk = s.plcaOk := by cases s; rfl
@[simp] theorem State.setObj_plcaOn (k v : Nat) : (s.setObj k v).plcaOn = s.plcaOn := by cases s; rfl
@[simp] theorem State.setObj_plcaNodes (k v : Nat) : (s.setObj k v).plcaNodes = s.plcaNodes := by cases s; rfl
@[simp] theorem State.setObj_plcaTimer (k v : Nat) : (s.setObj k v).plcaTimer = s.plcaTimer := by cases s; rfl
@[simp] theorem State.setObj_staged (k v : Nat) : (s.setObj k v).staged = s.staged := by cases s; rfl
@[simp] theorem State.setObj_oldBound (k v : Nat) : (s.setObj k v).oldBound = s.oldBound := by cases s; rfl
@[simp] theorem State.setObj_inForce (k v : Nat) : (s.setObj k v).inForce = s.inForce := by cases s; rfl
@[simp] theorem State.setObj_epoch (k v : Nat) : (s.setObj k v).epoch = s.epoch := by cases s; rfl
@[simp] theorem State.setObj_commitState (k v : Nat) : (s.setObj k v).commitState = s.commitState := by cases s; rfl
@[simp] theorem State.setObj_commitPending (k v : Nat) : (s.setObj k v).commitPending = s.commitPending := by cases s; rfl
@[simp] theorem State.setObj_arrays (k v : Nat) : (s.setObj k v).arrays = s.arrays := by cases s; rfl
@[simp] theorem State.setObj_doomed (k v : Nat) : (s.setObj k v).doomed = s.doomed := by cases s; rfl
@[simp] theorem State.setObj_lostEntries (k v : Nat) : (s.setObj k v).lostEntries = s.lostEntries := by cases s; rfl
@[simp] theorem State.setObj_links (k v : Nat) : (s.setObj k v).links = s.links := by cases s; rfl
@[simp] theorem State.setObj_ports (k v : Nat) : (s.setObj k v).ports = s.ports := by cases s; rfl
@[simp] theorem State.setObj_consoles (k v : Nat) : (s.setObj k v).consoles = s.consoles := by cases s; rfl
@[simp] theorem State.setObj_bucketMap (k v : Nat) : (s.setObj k v).bucketMap = s.bucketMap := by cases s; rfl
@[simp] theorem State.setObj_moving (k v : Nat) : (s.setObj k v).moving = s.moving := by cases s; rfl
@[simp] theorem State.setObj_txns (k v : Nat) : (s.setObj k v).txns = s.txns := by cases s; rfl
@[simp] theorem State.setObj_nextTxn (k v : Nat) : (s.setObj k v).nextTxn = s.nextTxn := by cases s; rfl
@[simp] theorem State.setObj_credits (k v : Nat) : (s.setObj k v).credits = s.credits := by cases s; rfl
@[simp] theorem State.setObj_mls (k v : Nat) : (s.setObj k v).mls = s.mls := by cases s; rfl
@[simp] theorem State.setObj_chans (k v : Nat) : (s.setObj k v).chans = s.chans := by cases s; rfl
@[simp] theorem State.setObj_chansUsed (k v : Nat) : (s.setObj k v).chansUsed = s.chansUsed := by cases s; rfl
@[simp] theorem State.setObj_chipErrs (k v : Nat) : (s.setObj k v).chipErrs = s.chipErrs := by cases s; rfl
@[simp] theorem State.setObj_wayErrs (k v : Nat) : (s.setObj k v).wayErrs = s.wayErrs := by cases s; rfl
@[simp] theorem State.setObj_ctls (k v : Nat) : (s.setObj k v).ctls = s.ctls := by cases s; rfl
@[simp] theorem State.setObj_ledgers (k v : Nat) : (s.setObj k v).ledgers = s.ledgers := by cases s; rfl
@[simp] theorem State.setObj_evinLevel (k v : Nat) : (s.setObj k v).evinLevel = s.evinLevel := by cases s; rfl
@[simp] theorem State.setObj_evinAsserted (k v : Nat) : (s.setObj k v).evinAsserted = s.evinAsserted := by cases s; rfl
@[simp] theorem State.setObj_accs (k v : Nat) : (s.setObj k v).accs = s.accs := by cases s; rfl
@[simp] theorem State.setObj_job (k v : Nat) : (s.setObj k v).job = s.job := by cases s; rfl
@[simp] theorem State.setObj_scrub (k v : Nat) : (s.setObj k v).scrub = s.scrub := by cases s; rfl
@[simp] theorem State.setObj_ceArm (k v : Nat) : (s.setObj k v).ceArm = s.ceArm := by cases s; rfl
@[simp] theorem State.setObj_ceUnlogArm (k v : Nat) : (s.setObj k v).ceUnlogArm = s.ceUnlogArm := by cases s; rfl
@[simp] theorem State.setObj_patrolDc (k v : Nat) : (s.setObj k v).patrolDc = s.patrolDc := by cases s; rfl
@[simp] theorem State.setObj_patrolTag (k v : Nat) : (s.setObj k v).patrolTag = s.patrolTag := by cases s; rfl
@[simp] theorem State.setObj_patrolCat (k v : Nat) : (s.setObj k v).patrolCat = s.patrolCat := by cases s; rfl
@[simp] theorem State.setObj_resets (k v : Nat) : (s.setObj k v).resets = s.resets := by cases s; rfl
@[simp] theorem State.setObj_tcInval (k v : Nat) : (s.setObj k v).tcInval = s.tcInval := by cases s; rfl
@[simp] theorem State.setObj_due (k v : Nat) : (s.setObj k v).due = s.due := by cases s; rfl
@[simp] theorem State.setObj_pair (k v : Nat) : (s.setObj k v).pair = s.pair := by cases s; rfl
@[simp] theorem State.setObj_homeNow (k v : Nat) : (s.setObj k v).homeNow = s.homeNow := by cases s; rfl
@[simp] theorem State.setObj_jop (k v : Nat) : (s.setObj k v).jop = s.jop := by cases s; rfl
@[simp] theorem State.setObj_nvm (k v : Nat) : (s.setObj k v).nvm = s.nvm := by cases s; rfl
@[simp] theorem State.setObj_port (k v : Nat) (n0 : Nat) : (s.setObj k v).port n0 = s.port n0 := by simp only [State.port, State.setObj_ports]
@[simp] theorem State.setObj_link (k v : Nat) (l0 : LinkId) : (s.setObj k v).link l0 = s.link l0 := by simp only [State.link, State.setObj_links]
@[simp] theorem State.setObj_ml (k v : Nat) (k0 : Nat) : (s.setObj k v).ml k0 = s.ml k0 := by simp only [State.ml, State.setObj_mls]
@[simp] theorem State.setObj_chan (k v : Nat) (c0 : Nat) : (s.setObj k v).chan c0 = s.chan c0 := by simp only [State.chan, State.setObj_chans]
@[simp] theorem State.setObj_ctl (k v : Nat) (p0 : Nat) : (s.setObj k v).ctl p0 = s.ctl p0 := by simp only [State.ctl, State.setObj_ctls]
@[simp] theorem State.setObj_ledger (k v : Nat) (p0 i0 : Nat) : (s.setObj k v).ledger p0 i0 = s.ledger p0 i0 := by simp only [State.ledger, State.setObj_ledgers]
@[simp] theorem State.setObj_acc (k v : Nat) (c0 : Nat) : (s.setObj k v).acc c0 = s.acc c0 := by simp only [State.acc, State.setObj_accs]
@[simp] theorem State.setObj_pd (k v : Nat) (d0 : Nat) : (s.setObj k v).pd d0 = s.pd d0 := by simp only [State.pd, State.setObj_domains]
@[simp] theorem State.setObj_word (k v : Nat) (a0 u0 w0 : Nat) : (s.setObj k v).word a0 u0 w0 = s.word a0 u0 w0 := by simp only [State.word, State.setObj_arrays]
@[simp] theorem State.setObj_memberOf (k v : Nat) (n0 : Nat) : (s.setObj k v).memberOf n0 = s.memberOf n0 := by simp only [State.memberOf, State.setObj_inForce]
@[simp] theorem State.setObj_dead (k v : Nat) : (s.setObj k v).dead = s.dead := by simp only [State.dead, State.setObj_mode, State.setObj_trans]

/-! setPort changes `ports` alone. -/

@[simp] theorem State.setPort_pending (n : Nat) (p : PortSt) : (s.setPort n p).pending = s.pending := by cases s; rfl
@[simp] theorem State.setPort_sent (n : Nat) (p : PortSt) : (s.setPort n p).sent = s.sent := by cases s; rfl
@[simp] theorem State.setPort_freeCtr (n : Nat) (p : PortSt) : (s.setPort n p).freeCtr = s.freeCtr := by cases s; rfl
@[simp] theorem State.setPort_mode (n : Nat) (p : PortSt) : (s.setPort n p).mode = s.mode := by cases s; rfl
@[simp] theorem State.setPort_trans (n : Nat) (p : PortSt) : (s.setPort n p).trans = s.trans := by cases s; rfl
@[simp] theorem State.setPort_transStart (n : Nat) (p : PortSt) : (s.setPort n p).transStart = s.transStart := by cases s; rfl
@[simp] theorem State.setPort_domains (n : Nat) (p : PortSt) : (s.setPort n p).domains = s.domains := by cases s; rfl
@[simp] theorem State.setPort_deviceTime (n : Nat) (p : PortSt) : (s.setPort n p).deviceTime = s.deviceTime := by cases s; rfl
@[simp] theorem State.setPort_nstby (n : Nat) (p : PortSt) : (s.setPort n p).nstby = s.nstby := by cases s; rfl
@[simp] theorem State.setPort_presA (n : Nat) (p : PortSt) : (s.setPort n p).presA = s.presA := by cases s; rfl
@[simp] theorem State.setPort_presB (n : Nat) (p : PortSt) : (s.setPort n p).presB = s.presB := by cases s; rfl
@[simp] theorem State.setPort_presLatched (n : Nat) (p : PortSt) : (s.setPort n p).presLatched = s.presLatched := by cases s; rfl
@[simp] theorem State.setPort_presFault (n : Nat) (p : PortSt) : (s.setPort n p).presFault = s.presFault := by cases s; rfl
@[simp] theorem State.setPort_irqPins (n : Nat) (p : PortSt) : (s.setPort n p).irqPins = s.irqPins := by cases s; rfl
@[simp] theorem State.setPort_parkRdy (n : Nat) (p : PortSt) : (s.setPort n p).parkRdy = s.parkRdy := by cases s; rfl
@[simp] theorem State.setPort_nfaultLow (n : Nat) (p : PortSt) : (s.setPort n p).nfaultLow = s.nfaultLow := by cases s; rfl
@[simp] theorem State.setPort_viom (n : Nat) (p : PortSt) : (s.setPort n p).viom = s.viom := by cases s; rfl
@[simp] theorem State.setPort_vnvm (n : Nat) (p : PortSt) : (s.setPort n p).vnvm = s.vnvm := by cases s; rfl
@[simp] theorem State.setPort_drained (n : Nat) (p : PortSt) : (s.setPort n p).drained = s.drained := by cases s; rfl
@[simp] theorem State.setPort_fatalKept (n : Nat) (p : PortSt) : (s.setPort n p).fatalKept = s.fatalKept := by cases s; rfl
@[simp] theorem State.setPort_linkWaited (n : Nat) (p : PortSt) : (s.setPort n p).linkWaited = s.linkWaited := by cases s; rfl
@[simp] theorem State.setPort_tbState (n : Nat) (p : PortSt) : (s.setPort n p).tbState = s.tbState := by cases s; rfl
@[simp] theorem State.setPort_clkTrimmed (n : Nat) (p : PortSt) : (s.setPort n p).clkTrimmed = s.clkTrimmed := by cases s; rfl
@[simp] theorem State.setPort_missAll (n : Nat) (p : PortSt) : (s.setPort n p).missAll = s.missAll := by cases s; rfl
@[simp] theorem State.setPort_hot (n : Nat) (p : PortSt) : (s.setPort n p).hot = s.hot := by cases s; rfl
@[simp] theorem State.setPort_warned (n : Nat) (p : PortSt) : (s.setPort n p).warned = s.warned := by cases s; rfl
@[simp] theorem State.setPort_nodeId (n : Nat) (p : PortSt) : (s.setPort n p).nodeId = s.nodeId := by cases s; rfl
@[simp] theorem State.setPort_plcaOk (n : Nat) (p : PortSt) : (s.setPort n p).plcaOk = s.plcaOk := by cases s; rfl
@[simp] theorem State.setPort_plcaOn (n : Nat) (p : PortSt) : (s.setPort n p).plcaOn = s.plcaOn := by cases s; rfl
@[simp] theorem State.setPort_plcaNodes (n : Nat) (p : PortSt) : (s.setPort n p).plcaNodes = s.plcaNodes := by cases s; rfl
@[simp] theorem State.setPort_plcaTimer (n : Nat) (p : PortSt) : (s.setPort n p).plcaTimer = s.plcaTimer := by cases s; rfl
@[simp] theorem State.setPort_objs (n : Nat) (p : PortSt) : (s.setPort n p).objs = s.objs := by cases s; rfl
@[simp] theorem State.setPort_staged (n : Nat) (p : PortSt) : (s.setPort n p).staged = s.staged := by cases s; rfl
@[simp] theorem State.setPort_oldBound (n : Nat) (p : PortSt) : (s.setPort n p).oldBound = s.oldBound := by cases s; rfl
@[simp] theorem State.setPort_inForce (n : Nat) (p : PortSt) : (s.setPort n p).inForce = s.inForce := by cases s; rfl
@[simp] theorem State.setPort_epoch (n : Nat) (p : PortSt) : (s.setPort n p).epoch = s.epoch := by cases s; rfl
@[simp] theorem State.setPort_commitState (n : Nat) (p : PortSt) : (s.setPort n p).commitState = s.commitState := by cases s; rfl
@[simp] theorem State.setPort_commitPending (n : Nat) (p : PortSt) : (s.setPort n p).commitPending = s.commitPending := by cases s; rfl
@[simp] theorem State.setPort_arrays (n : Nat) (p : PortSt) : (s.setPort n p).arrays = s.arrays := by cases s; rfl
@[simp] theorem State.setPort_doomed (n : Nat) (p : PortSt) : (s.setPort n p).doomed = s.doomed := by cases s; rfl
@[simp] theorem State.setPort_lostEntries (n : Nat) (p : PortSt) : (s.setPort n p).lostEntries = s.lostEntries := by cases s; rfl
@[simp] theorem State.setPort_links (n : Nat) (p : PortSt) : (s.setPort n p).links = s.links := by cases s; rfl
@[simp] theorem State.setPort_consoles (n : Nat) (p : PortSt) : (s.setPort n p).consoles = s.consoles := by cases s; rfl
@[simp] theorem State.setPort_bucketMap (n : Nat) (p : PortSt) : (s.setPort n p).bucketMap = s.bucketMap := by cases s; rfl
@[simp] theorem State.setPort_moving (n : Nat) (p : PortSt) : (s.setPort n p).moving = s.moving := by cases s; rfl
@[simp] theorem State.setPort_txns (n : Nat) (p : PortSt) : (s.setPort n p).txns = s.txns := by cases s; rfl
@[simp] theorem State.setPort_nextTxn (n : Nat) (p : PortSt) : (s.setPort n p).nextTxn = s.nextTxn := by cases s; rfl
@[simp] theorem State.setPort_credits (n : Nat) (p : PortSt) : (s.setPort n p).credits = s.credits := by cases s; rfl
@[simp] theorem State.setPort_mls (n : Nat) (p : PortSt) : (s.setPort n p).mls = s.mls := by cases s; rfl
@[simp] theorem State.setPort_chans (n : Nat) (p : PortSt) : (s.setPort n p).chans = s.chans := by cases s; rfl
@[simp] theorem State.setPort_chansUsed (n : Nat) (p : PortSt) : (s.setPort n p).chansUsed = s.chansUsed := by cases s; rfl
@[simp] theorem State.setPort_chipErrs (n : Nat) (p : PortSt) : (s.setPort n p).chipErrs = s.chipErrs := by cases s; rfl
@[simp] theorem State.setPort_wayErrs (n : Nat) (p : PortSt) : (s.setPort n p).wayErrs = s.wayErrs := by cases s; rfl
@[simp] theorem State.setPort_ctls (n : Nat) (p : PortSt) : (s.setPort n p).ctls = s.ctls := by cases s; rfl
@[simp] theorem State.setPort_ledgers (n : Nat) (p : PortSt) : (s.setPort n p).ledgers = s.ledgers := by cases s; rfl
@[simp] theorem State.setPort_evinLevel (n : Nat) (p : PortSt) : (s.setPort n p).evinLevel = s.evinLevel := by cases s; rfl
@[simp] theorem State.setPort_evinAsserted (n : Nat) (p : PortSt) : (s.setPort n p).evinAsserted = s.evinAsserted := by cases s; rfl
@[simp] theorem State.setPort_accs (n : Nat) (p : PortSt) : (s.setPort n p).accs = s.accs := by cases s; rfl
@[simp] theorem State.setPort_job (n : Nat) (p : PortSt) : (s.setPort n p).job = s.job := by cases s; rfl
@[simp] theorem State.setPort_scrub (n : Nat) (p : PortSt) : (s.setPort n p).scrub = s.scrub := by cases s; rfl
@[simp] theorem State.setPort_ceArm (n : Nat) (p : PortSt) : (s.setPort n p).ceArm = s.ceArm := by cases s; rfl
@[simp] theorem State.setPort_ceUnlogArm (n : Nat) (p : PortSt) : (s.setPort n p).ceUnlogArm = s.ceUnlogArm := by cases s; rfl
@[simp] theorem State.setPort_patrolDc (n : Nat) (p : PortSt) : (s.setPort n p).patrolDc = s.patrolDc := by cases s; rfl
@[simp] theorem State.setPort_patrolTag (n : Nat) (p : PortSt) : (s.setPort n p).patrolTag = s.patrolTag := by cases s; rfl
@[simp] theorem State.setPort_patrolCat (n : Nat) (p : PortSt) : (s.setPort n p).patrolCat = s.patrolCat := by cases s; rfl
@[simp] theorem State.setPort_resets (n : Nat) (p : PortSt) : (s.setPort n p).resets = s.resets := by cases s; rfl
@[simp] theorem State.setPort_tcInval (n : Nat) (p : PortSt) : (s.setPort n p).tcInval = s.tcInval := by cases s; rfl
@[simp] theorem State.setPort_due (n : Nat) (p : PortSt) : (s.setPort n p).due = s.due := by cases s; rfl
@[simp] theorem State.setPort_pair (n : Nat) (p : PortSt) : (s.setPort n p).pair = s.pair := by cases s; rfl
@[simp] theorem State.setPort_homeNow (n : Nat) (p : PortSt) : (s.setPort n p).homeNow = s.homeNow := by cases s; rfl
@[simp] theorem State.setPort_jop (n : Nat) (p : PortSt) : (s.setPort n p).jop = s.jop := by cases s; rfl
@[simp] theorem State.setPort_nvm (n : Nat) (p : PortSt) : (s.setPort n p).nvm = s.nvm := by cases s; rfl
@[simp] theorem State.setPort_obj (n : Nat) (p : PortSt) (k0 : Nat) : (s.setPort n p).obj k0 = s.obj k0 := by simp only [State.obj, State.setPort_objs]
@[simp] theorem State.setPort_link (n : Nat) (p : PortSt) (l0 : LinkId) : (s.setPort n p).link l0 = s.link l0 := by simp only [State.link, State.setPort_links]
@[simp] theorem State.setPort_ml (n : Nat) (p : PortSt) (k0 : Nat) : (s.setPort n p).ml k0 = s.ml k0 := by simp only [State.ml, State.setPort_mls]
@[simp] theorem State.setPort_chan (n : Nat) (p : PortSt) (c0 : Nat) : (s.setPort n p).chan c0 = s.chan c0 := by simp only [State.chan, State.setPort_chans]
@[simp] theorem State.setPort_ctl (n : Nat) (p : PortSt) (p0 : Nat) : (s.setPort n p).ctl p0 = s.ctl p0 := by simp only [State.ctl, State.setPort_ctls]
@[simp] theorem State.setPort_ledger (n : Nat) (p : PortSt) (p0 i0 : Nat) : (s.setPort n p).ledger p0 i0 = s.ledger p0 i0 := by simp only [State.ledger, State.setPort_ledgers]
@[simp] theorem State.setPort_acc (n : Nat) (p : PortSt) (c0 : Nat) : (s.setPort n p).acc c0 = s.acc c0 := by simp only [State.acc, State.setPort_accs]
@[simp] theorem State.setPort_pd (n : Nat) (p : PortSt) (d0 : Nat) : (s.setPort n p).pd d0 = s.pd d0 := by simp only [State.pd, State.setPort_domains]
@[simp] theorem State.setPort_word (n : Nat) (p : PortSt) (a0 u0 w0 : Nat) : (s.setPort n p).word a0 u0 w0 = s.word a0 u0 w0 := by simp only [State.word, State.setPort_arrays]
@[simp] theorem State.setPort_memberOf (n : Nat) (p : PortSt) (n0 : Nat) : (s.setPort n p).memberOf n0 = s.memberOf n0 := by simp only [State.memberOf, State.setPort_inForce]
@[simp] theorem State.setPort_dead (n : Nat) (p : PortSt) : (s.setPort n p).dead = s.dead := by simp only [State.dead, State.setPort_mode, State.setPort_trans]

/-! setLink changes `links` alone. -/

@[simp] theorem State.setLink_pending (l : LinkId) (e : LinkEnd) : (s.setLink l e).pending = s.pending := by cases s; rfl
@[simp] theorem State.setLink_sent (l : LinkId) (e : LinkEnd) : (s.setLink l e).sent = s.sent := by cases s; rfl
@[simp] theorem State.setLink_freeCtr (l : LinkId) (e : LinkEnd) : (s.setLink l e).freeCtr = s.freeCtr := by cases s; rfl
@[simp] theorem State.setLink_mode (l : LinkId) (e : LinkEnd) : (s.setLink l e).mode = s.mode := by cases s; rfl
@[simp] theorem State.setLink_trans (l : LinkId) (e : LinkEnd) : (s.setLink l e).trans = s.trans := by cases s; rfl
@[simp] theorem State.setLink_transStart (l : LinkId) (e : LinkEnd) : (s.setLink l e).transStart = s.transStart := by cases s; rfl
@[simp] theorem State.setLink_domains (l : LinkId) (e : LinkEnd) : (s.setLink l e).domains = s.domains := by cases s; rfl
@[simp] theorem State.setLink_deviceTime (l : LinkId) (e : LinkEnd) : (s.setLink l e).deviceTime = s.deviceTime := by cases s; rfl
@[simp] theorem State.setLink_nstby (l : LinkId) (e : LinkEnd) : (s.setLink l e).nstby = s.nstby := by cases s; rfl
@[simp] theorem State.setLink_presA (l : LinkId) (e : LinkEnd) : (s.setLink l e).presA = s.presA := by cases s; rfl
@[simp] theorem State.setLink_presB (l : LinkId) (e : LinkEnd) : (s.setLink l e).presB = s.presB := by cases s; rfl
@[simp] theorem State.setLink_presLatched (l : LinkId) (e : LinkEnd) : (s.setLink l e).presLatched = s.presLatched := by cases s; rfl
@[simp] theorem State.setLink_presFault (l : LinkId) (e : LinkEnd) : (s.setLink l e).presFault = s.presFault := by cases s; rfl
@[simp] theorem State.setLink_irqPins (l : LinkId) (e : LinkEnd) : (s.setLink l e).irqPins = s.irqPins := by cases s; rfl
@[simp] theorem State.setLink_parkRdy (l : LinkId) (e : LinkEnd) : (s.setLink l e).parkRdy = s.parkRdy := by cases s; rfl
@[simp] theorem State.setLink_nfaultLow (l : LinkId) (e : LinkEnd) : (s.setLink l e).nfaultLow = s.nfaultLow := by cases s; rfl
@[simp] theorem State.setLink_viom (l : LinkId) (e : LinkEnd) : (s.setLink l e).viom = s.viom := by cases s; rfl
@[simp] theorem State.setLink_vnvm (l : LinkId) (e : LinkEnd) : (s.setLink l e).vnvm = s.vnvm := by cases s; rfl
@[simp] theorem State.setLink_drained (l : LinkId) (e : LinkEnd) : (s.setLink l e).drained = s.drained := by cases s; rfl
@[simp] theorem State.setLink_fatalKept (l : LinkId) (e : LinkEnd) : (s.setLink l e).fatalKept = s.fatalKept := by cases s; rfl
@[simp] theorem State.setLink_linkWaited (l : LinkId) (e : LinkEnd) : (s.setLink l e).linkWaited = s.linkWaited := by cases s; rfl
@[simp] theorem State.setLink_tbState (l : LinkId) (e : LinkEnd) : (s.setLink l e).tbState = s.tbState := by cases s; rfl
@[simp] theorem State.setLink_clkTrimmed (l : LinkId) (e : LinkEnd) : (s.setLink l e).clkTrimmed = s.clkTrimmed := by cases s; rfl
@[simp] theorem State.setLink_missAll (l : LinkId) (e : LinkEnd) : (s.setLink l e).missAll = s.missAll := by cases s; rfl
@[simp] theorem State.setLink_hot (l : LinkId) (e : LinkEnd) : (s.setLink l e).hot = s.hot := by cases s; rfl
@[simp] theorem State.setLink_warned (l : LinkId) (e : LinkEnd) : (s.setLink l e).warned = s.warned := by cases s; rfl
@[simp] theorem State.setLink_nodeId (l : LinkId) (e : LinkEnd) : (s.setLink l e).nodeId = s.nodeId := by cases s; rfl
@[simp] theorem State.setLink_plcaOk (l : LinkId) (e : LinkEnd) : (s.setLink l e).plcaOk = s.plcaOk := by cases s; rfl
@[simp] theorem State.setLink_plcaOn (l : LinkId) (e : LinkEnd) : (s.setLink l e).plcaOn = s.plcaOn := by cases s; rfl
@[simp] theorem State.setLink_plcaNodes (l : LinkId) (e : LinkEnd) : (s.setLink l e).plcaNodes = s.plcaNodes := by cases s; rfl
@[simp] theorem State.setLink_plcaTimer (l : LinkId) (e : LinkEnd) : (s.setLink l e).plcaTimer = s.plcaTimer := by cases s; rfl
@[simp] theorem State.setLink_objs (l : LinkId) (e : LinkEnd) : (s.setLink l e).objs = s.objs := by cases s; rfl
@[simp] theorem State.setLink_staged (l : LinkId) (e : LinkEnd) : (s.setLink l e).staged = s.staged := by cases s; rfl
@[simp] theorem State.setLink_oldBound (l : LinkId) (e : LinkEnd) : (s.setLink l e).oldBound = s.oldBound := by cases s; rfl
@[simp] theorem State.setLink_inForce (l : LinkId) (e : LinkEnd) : (s.setLink l e).inForce = s.inForce := by cases s; rfl
@[simp] theorem State.setLink_epoch (l : LinkId) (e : LinkEnd) : (s.setLink l e).epoch = s.epoch := by cases s; rfl
@[simp] theorem State.setLink_commitState (l : LinkId) (e : LinkEnd) : (s.setLink l e).commitState = s.commitState := by cases s; rfl
@[simp] theorem State.setLink_commitPending (l : LinkId) (e : LinkEnd) : (s.setLink l e).commitPending = s.commitPending := by cases s; rfl
@[simp] theorem State.setLink_arrays (l : LinkId) (e : LinkEnd) : (s.setLink l e).arrays = s.arrays := by cases s; rfl
@[simp] theorem State.setLink_doomed (l : LinkId) (e : LinkEnd) : (s.setLink l e).doomed = s.doomed := by cases s; rfl
@[simp] theorem State.setLink_lostEntries (l : LinkId) (e : LinkEnd) : (s.setLink l e).lostEntries = s.lostEntries := by cases s; rfl
@[simp] theorem State.setLink_ports (l : LinkId) (e : LinkEnd) : (s.setLink l e).ports = s.ports := by cases s; rfl
@[simp] theorem State.setLink_consoles (l : LinkId) (e : LinkEnd) : (s.setLink l e).consoles = s.consoles := by cases s; rfl
@[simp] theorem State.setLink_bucketMap (l : LinkId) (e : LinkEnd) : (s.setLink l e).bucketMap = s.bucketMap := by cases s; rfl
@[simp] theorem State.setLink_moving (l : LinkId) (e : LinkEnd) : (s.setLink l e).moving = s.moving := by cases s; rfl
@[simp] theorem State.setLink_txns (l : LinkId) (e : LinkEnd) : (s.setLink l e).txns = s.txns := by cases s; rfl
@[simp] theorem State.setLink_nextTxn (l : LinkId) (e : LinkEnd) : (s.setLink l e).nextTxn = s.nextTxn := by cases s; rfl
@[simp] theorem State.setLink_credits (l : LinkId) (e : LinkEnd) : (s.setLink l e).credits = s.credits := by cases s; rfl
@[simp] theorem State.setLink_mls (l : LinkId) (e : LinkEnd) : (s.setLink l e).mls = s.mls := by cases s; rfl
@[simp] theorem State.setLink_chans (l : LinkId) (e : LinkEnd) : (s.setLink l e).chans = s.chans := by cases s; rfl
@[simp] theorem State.setLink_chansUsed (l : LinkId) (e : LinkEnd) : (s.setLink l e).chansUsed = s.chansUsed := by cases s; rfl
@[simp] theorem State.setLink_chipErrs (l : LinkId) (e : LinkEnd) : (s.setLink l e).chipErrs = s.chipErrs := by cases s; rfl
@[simp] theorem State.setLink_wayErrs (l : LinkId) (e : LinkEnd) : (s.setLink l e).wayErrs = s.wayErrs := by cases s; rfl
@[simp] theorem State.setLink_ctls (l : LinkId) (e : LinkEnd) : (s.setLink l e).ctls = s.ctls := by cases s; rfl
@[simp] theorem State.setLink_ledgers (l : LinkId) (e : LinkEnd) : (s.setLink l e).ledgers = s.ledgers := by cases s; rfl
@[simp] theorem State.setLink_evinLevel (l : LinkId) (e : LinkEnd) : (s.setLink l e).evinLevel = s.evinLevel := by cases s; rfl
@[simp] theorem State.setLink_evinAsserted (l : LinkId) (e : LinkEnd) : (s.setLink l e).evinAsserted = s.evinAsserted := by cases s; rfl
@[simp] theorem State.setLink_accs (l : LinkId) (e : LinkEnd) : (s.setLink l e).accs = s.accs := by cases s; rfl
@[simp] theorem State.setLink_job (l : LinkId) (e : LinkEnd) : (s.setLink l e).job = s.job := by cases s; rfl
@[simp] theorem State.setLink_scrub (l : LinkId) (e : LinkEnd) : (s.setLink l e).scrub = s.scrub := by cases s; rfl
@[simp] theorem State.setLink_ceArm (l : LinkId) (e : LinkEnd) : (s.setLink l e).ceArm = s.ceArm := by cases s; rfl
@[simp] theorem State.setLink_ceUnlogArm (l : LinkId) (e : LinkEnd) : (s.setLink l e).ceUnlogArm = s.ceUnlogArm := by cases s; rfl
@[simp] theorem State.setLink_patrolDc (l : LinkId) (e : LinkEnd) : (s.setLink l e).patrolDc = s.patrolDc := by cases s; rfl
@[simp] theorem State.setLink_patrolTag (l : LinkId) (e : LinkEnd) : (s.setLink l e).patrolTag = s.patrolTag := by cases s; rfl
@[simp] theorem State.setLink_patrolCat (l : LinkId) (e : LinkEnd) : (s.setLink l e).patrolCat = s.patrolCat := by cases s; rfl
@[simp] theorem State.setLink_resets (l : LinkId) (e : LinkEnd) : (s.setLink l e).resets = s.resets := by cases s; rfl
@[simp] theorem State.setLink_tcInval (l : LinkId) (e : LinkEnd) : (s.setLink l e).tcInval = s.tcInval := by cases s; rfl
@[simp] theorem State.setLink_due (l : LinkId) (e : LinkEnd) : (s.setLink l e).due = s.due := by cases s; rfl
@[simp] theorem State.setLink_pair (l : LinkId) (e : LinkEnd) : (s.setLink l e).pair = s.pair := by cases s; rfl
@[simp] theorem State.setLink_homeNow (l : LinkId) (e : LinkEnd) : (s.setLink l e).homeNow = s.homeNow := by cases s; rfl
@[simp] theorem State.setLink_jop (l : LinkId) (e : LinkEnd) : (s.setLink l e).jop = s.jop := by cases s; rfl
@[simp] theorem State.setLink_nvm (l : LinkId) (e : LinkEnd) : (s.setLink l e).nvm = s.nvm := by cases s; rfl
@[simp] theorem State.setLink_obj (l : LinkId) (e : LinkEnd) (k0 : Nat) : (s.setLink l e).obj k0 = s.obj k0 := by simp only [State.obj, State.setLink_objs]
@[simp] theorem State.setLink_port (l : LinkId) (e : LinkEnd) (n0 : Nat) : (s.setLink l e).port n0 = s.port n0 := by simp only [State.port, State.setLink_ports]
@[simp] theorem State.setLink_ml (l : LinkId) (e : LinkEnd) (k0 : Nat) : (s.setLink l e).ml k0 = s.ml k0 := by simp only [State.ml, State.setLink_mls]
@[simp] theorem State.setLink_chan (l : LinkId) (e : LinkEnd) (c0 : Nat) : (s.setLink l e).chan c0 = s.chan c0 := by simp only [State.chan, State.setLink_chans]
@[simp] theorem State.setLink_ctl (l : LinkId) (e : LinkEnd) (p0 : Nat) : (s.setLink l e).ctl p0 = s.ctl p0 := by simp only [State.ctl, State.setLink_ctls]
@[simp] theorem State.setLink_ledger (l : LinkId) (e : LinkEnd) (p0 i0 : Nat) : (s.setLink l e).ledger p0 i0 = s.ledger p0 i0 := by simp only [State.ledger, State.setLink_ledgers]
@[simp] theorem State.setLink_acc (l : LinkId) (e : LinkEnd) (c0 : Nat) : (s.setLink l e).acc c0 = s.acc c0 := by simp only [State.acc, State.setLink_accs]
@[simp] theorem State.setLink_pd (l : LinkId) (e : LinkEnd) (d0 : Nat) : (s.setLink l e).pd d0 = s.pd d0 := by simp only [State.pd, State.setLink_domains]
@[simp] theorem State.setLink_word (l : LinkId) (e : LinkEnd) (a0 u0 w0 : Nat) : (s.setLink l e).word a0 u0 w0 = s.word a0 u0 w0 := by simp only [State.word, State.setLink_arrays]
@[simp] theorem State.setLink_memberOf (l : LinkId) (e : LinkEnd) (n0 : Nat) : (s.setLink l e).memberOf n0 = s.memberOf n0 := by simp only [State.memberOf, State.setLink_inForce]
@[simp] theorem State.setLink_dead (l : LinkId) (e : LinkEnd) : (s.setLink l e).dead = s.dead := by simp only [State.dead, State.setLink_mode, State.setLink_trans]

/-! modMl changes `mls` alone. -/

@[simp] theorem State.modMl_pending (k : Nat) (f : MlSt → MlSt) : (s.modMl k f).pending = s.pending := by cases s; rfl
@[simp] theorem State.modMl_sent (k : Nat) (f : MlSt → MlSt) : (s.modMl k f).sent = s.sent := by cases s; rfl
@[simp] theorem State.modMl_freeCtr (k : Nat) (f : MlSt → MlSt) : (s.modMl k f).freeCtr = s.freeCtr := by cases s; rfl
@[simp] theorem State.modMl_mode (k : Nat) (f : MlSt → MlSt) : (s.modMl k f).mode = s.mode := by cases s; rfl
@[simp] theorem State.modMl_trans (k : Nat) (f : MlSt → MlSt) : (s.modMl k f).trans = s.trans := by cases s; rfl
@[simp] theorem State.modMl_transStart (k : Nat) (f : MlSt → MlSt) : (s.modMl k f).transStart = s.transStart := by cases s; rfl
@[simp] theorem State.modMl_domains (k : Nat) (f : MlSt → MlSt) : (s.modMl k f).domains = s.domains := by cases s; rfl
@[simp] theorem State.modMl_deviceTime (k : Nat) (f : MlSt → MlSt) : (s.modMl k f).deviceTime = s.deviceTime := by cases s; rfl
@[simp] theorem State.modMl_nstby (k : Nat) (f : MlSt → MlSt) : (s.modMl k f).nstby = s.nstby := by cases s; rfl
@[simp] theorem State.modMl_presA (k : Nat) (f : MlSt → MlSt) : (s.modMl k f).presA = s.presA := by cases s; rfl
@[simp] theorem State.modMl_presB (k : Nat) (f : MlSt → MlSt) : (s.modMl k f).presB = s.presB := by cases s; rfl
@[simp] theorem State.modMl_presLatched (k : Nat) (f : MlSt → MlSt) : (s.modMl k f).presLatched = s.presLatched := by cases s; rfl
@[simp] theorem State.modMl_presFault (k : Nat) (f : MlSt → MlSt) : (s.modMl k f).presFault = s.presFault := by cases s; rfl
@[simp] theorem State.modMl_irqPins (k : Nat) (f : MlSt → MlSt) : (s.modMl k f).irqPins = s.irqPins := by cases s; rfl
@[simp] theorem State.modMl_parkRdy (k : Nat) (f : MlSt → MlSt) : (s.modMl k f).parkRdy = s.parkRdy := by cases s; rfl
@[simp] theorem State.modMl_nfaultLow (k : Nat) (f : MlSt → MlSt) : (s.modMl k f).nfaultLow = s.nfaultLow := by cases s; rfl
@[simp] theorem State.modMl_viom (k : Nat) (f : MlSt → MlSt) : (s.modMl k f).viom = s.viom := by cases s; rfl
@[simp] theorem State.modMl_vnvm (k : Nat) (f : MlSt → MlSt) : (s.modMl k f).vnvm = s.vnvm := by cases s; rfl
@[simp] theorem State.modMl_drained (k : Nat) (f : MlSt → MlSt) : (s.modMl k f).drained = s.drained := by cases s; rfl
@[simp] theorem State.modMl_fatalKept (k : Nat) (f : MlSt → MlSt) : (s.modMl k f).fatalKept = s.fatalKept := by cases s; rfl
@[simp] theorem State.modMl_linkWaited (k : Nat) (f : MlSt → MlSt) : (s.modMl k f).linkWaited = s.linkWaited := by cases s; rfl
@[simp] theorem State.modMl_tbState (k : Nat) (f : MlSt → MlSt) : (s.modMl k f).tbState = s.tbState := by cases s; rfl
@[simp] theorem State.modMl_clkTrimmed (k : Nat) (f : MlSt → MlSt) : (s.modMl k f).clkTrimmed = s.clkTrimmed := by cases s; rfl
@[simp] theorem State.modMl_missAll (k : Nat) (f : MlSt → MlSt) : (s.modMl k f).missAll = s.missAll := by cases s; rfl
@[simp] theorem State.modMl_hot (k : Nat) (f : MlSt → MlSt) : (s.modMl k f).hot = s.hot := by cases s; rfl
@[simp] theorem State.modMl_warned (k : Nat) (f : MlSt → MlSt) : (s.modMl k f).warned = s.warned := by cases s; rfl
@[simp] theorem State.modMl_nodeId (k : Nat) (f : MlSt → MlSt) : (s.modMl k f).nodeId = s.nodeId := by cases s; rfl
@[simp] theorem State.modMl_plcaOk (k : Nat) (f : MlSt → MlSt) : (s.modMl k f).plcaOk = s.plcaOk := by cases s; rfl
@[simp] theorem State.modMl_plcaOn (k : Nat) (f : MlSt → MlSt) : (s.modMl k f).plcaOn = s.plcaOn := by cases s; rfl
@[simp] theorem State.modMl_plcaNodes (k : Nat) (f : MlSt → MlSt) : (s.modMl k f).plcaNodes = s.plcaNodes := by cases s; rfl
@[simp] theorem State.modMl_plcaTimer (k : Nat) (f : MlSt → MlSt) : (s.modMl k f).plcaTimer = s.plcaTimer := by cases s; rfl
@[simp] theorem State.modMl_objs (k : Nat) (f : MlSt → MlSt) : (s.modMl k f).objs = s.objs := by cases s; rfl
@[simp] theorem State.modMl_staged (k : Nat) (f : MlSt → MlSt) : (s.modMl k f).staged = s.staged := by cases s; rfl
@[simp] theorem State.modMl_oldBound (k : Nat) (f : MlSt → MlSt) : (s.modMl k f).oldBound = s.oldBound := by cases s; rfl
@[simp] theorem State.modMl_inForce (k : Nat) (f : MlSt → MlSt) : (s.modMl k f).inForce = s.inForce := by cases s; rfl
@[simp] theorem State.modMl_epoch (k : Nat) (f : MlSt → MlSt) : (s.modMl k f).epoch = s.epoch := by cases s; rfl
@[simp] theorem State.modMl_commitState (k : Nat) (f : MlSt → MlSt) : (s.modMl k f).commitState = s.commitState := by cases s; rfl
@[simp] theorem State.modMl_commitPending (k : Nat) (f : MlSt → MlSt) : (s.modMl k f).commitPending = s.commitPending := by cases s; rfl
@[simp] theorem State.modMl_arrays (k : Nat) (f : MlSt → MlSt) : (s.modMl k f).arrays = s.arrays := by cases s; rfl
@[simp] theorem State.modMl_doomed (k : Nat) (f : MlSt → MlSt) : (s.modMl k f).doomed = s.doomed := by cases s; rfl
@[simp] theorem State.modMl_lostEntries (k : Nat) (f : MlSt → MlSt) : (s.modMl k f).lostEntries = s.lostEntries := by cases s; rfl
@[simp] theorem State.modMl_links (k : Nat) (f : MlSt → MlSt) : (s.modMl k f).links = s.links := by cases s; rfl
@[simp] theorem State.modMl_ports (k : Nat) (f : MlSt → MlSt) : (s.modMl k f).ports = s.ports := by cases s; rfl
@[simp] theorem State.modMl_consoles (k : Nat) (f : MlSt → MlSt) : (s.modMl k f).consoles = s.consoles := by cases s; rfl
@[simp] theorem State.modMl_bucketMap (k : Nat) (f : MlSt → MlSt) : (s.modMl k f).bucketMap = s.bucketMap := by cases s; rfl
@[simp] theorem State.modMl_moving (k : Nat) (f : MlSt → MlSt) : (s.modMl k f).moving = s.moving := by cases s; rfl
@[simp] theorem State.modMl_txns (k : Nat) (f : MlSt → MlSt) : (s.modMl k f).txns = s.txns := by cases s; rfl
@[simp] theorem State.modMl_nextTxn (k : Nat) (f : MlSt → MlSt) : (s.modMl k f).nextTxn = s.nextTxn := by cases s; rfl
@[simp] theorem State.modMl_credits (k : Nat) (f : MlSt → MlSt) : (s.modMl k f).credits = s.credits := by cases s; rfl
@[simp] theorem State.modMl_chans (k : Nat) (f : MlSt → MlSt) : (s.modMl k f).chans = s.chans := by cases s; rfl
@[simp] theorem State.modMl_chansUsed (k : Nat) (f : MlSt → MlSt) : (s.modMl k f).chansUsed = s.chansUsed := by cases s; rfl
@[simp] theorem State.modMl_chipErrs (k : Nat) (f : MlSt → MlSt) : (s.modMl k f).chipErrs = s.chipErrs := by cases s; rfl
@[simp] theorem State.modMl_wayErrs (k : Nat) (f : MlSt → MlSt) : (s.modMl k f).wayErrs = s.wayErrs := by cases s; rfl
@[simp] theorem State.modMl_ctls (k : Nat) (f : MlSt → MlSt) : (s.modMl k f).ctls = s.ctls := by cases s; rfl
@[simp] theorem State.modMl_ledgers (k : Nat) (f : MlSt → MlSt) : (s.modMl k f).ledgers = s.ledgers := by cases s; rfl
@[simp] theorem State.modMl_evinLevel (k : Nat) (f : MlSt → MlSt) : (s.modMl k f).evinLevel = s.evinLevel := by cases s; rfl
@[simp] theorem State.modMl_evinAsserted (k : Nat) (f : MlSt → MlSt) : (s.modMl k f).evinAsserted = s.evinAsserted := by cases s; rfl
@[simp] theorem State.modMl_accs (k : Nat) (f : MlSt → MlSt) : (s.modMl k f).accs = s.accs := by cases s; rfl
@[simp] theorem State.modMl_job (k : Nat) (f : MlSt → MlSt) : (s.modMl k f).job = s.job := by cases s; rfl
@[simp] theorem State.modMl_scrub (k : Nat) (f : MlSt → MlSt) : (s.modMl k f).scrub = s.scrub := by cases s; rfl
@[simp] theorem State.modMl_ceArm (k : Nat) (f : MlSt → MlSt) : (s.modMl k f).ceArm = s.ceArm := by cases s; rfl
@[simp] theorem State.modMl_ceUnlogArm (k : Nat) (f : MlSt → MlSt) : (s.modMl k f).ceUnlogArm = s.ceUnlogArm := by cases s; rfl
@[simp] theorem State.modMl_patrolDc (k : Nat) (f : MlSt → MlSt) : (s.modMl k f).patrolDc = s.patrolDc := by cases s; rfl
@[simp] theorem State.modMl_patrolTag (k : Nat) (f : MlSt → MlSt) : (s.modMl k f).patrolTag = s.patrolTag := by cases s; rfl
@[simp] theorem State.modMl_patrolCat (k : Nat) (f : MlSt → MlSt) : (s.modMl k f).patrolCat = s.patrolCat := by cases s; rfl
@[simp] theorem State.modMl_resets (k : Nat) (f : MlSt → MlSt) : (s.modMl k f).resets = s.resets := by cases s; rfl
@[simp] theorem State.modMl_tcInval (k : Nat) (f : MlSt → MlSt) : (s.modMl k f).tcInval = s.tcInval := by cases s; rfl
@[simp] theorem State.modMl_due (k : Nat) (f : MlSt → MlSt) : (s.modMl k f).due = s.due := by cases s; rfl
@[simp] theorem State.modMl_pair (k : Nat) (f : MlSt → MlSt) : (s.modMl k f).pair = s.pair := by cases s; rfl
@[simp] theorem State.modMl_homeNow (k : Nat) (f : MlSt → MlSt) : (s.modMl k f).homeNow = s.homeNow := by cases s; rfl
@[simp] theorem State.modMl_jop (k : Nat) (f : MlSt → MlSt) : (s.modMl k f).jop = s.jop := by cases s; rfl
@[simp] theorem State.modMl_nvm (k : Nat) (f : MlSt → MlSt) : (s.modMl k f).nvm = s.nvm := by cases s; rfl
@[simp] theorem State.modMl_obj (k : Nat) (f : MlSt → MlSt) (k0 : Nat) : (s.modMl k f).obj k0 = s.obj k0 := by simp only [State.obj, State.modMl_objs]
@[simp] theorem State.modMl_port (k : Nat) (f : MlSt → MlSt) (n0 : Nat) : (s.modMl k f).port n0 = s.port n0 := by simp only [State.port, State.modMl_ports]
@[simp] theorem State.modMl_link (k : Nat) (f : MlSt → MlSt) (l0 : LinkId) : (s.modMl k f).link l0 = s.link l0 := by simp only [State.link, State.modMl_links]
@[simp] theorem State.modMl_chan (k : Nat) (f : MlSt → MlSt) (c0 : Nat) : (s.modMl k f).chan c0 = s.chan c0 := by simp only [State.chan, State.modMl_chans]
@[simp] theorem State.modMl_ctl (k : Nat) (f : MlSt → MlSt) (p0 : Nat) : (s.modMl k f).ctl p0 = s.ctl p0 := by simp only [State.ctl, State.modMl_ctls]
@[simp] theorem State.modMl_ledger (k : Nat) (f : MlSt → MlSt) (p0 i0 : Nat) : (s.modMl k f).ledger p0 i0 = s.ledger p0 i0 := by simp only [State.ledger, State.modMl_ledgers]
@[simp] theorem State.modMl_acc (k : Nat) (f : MlSt → MlSt) (c0 : Nat) : (s.modMl k f).acc c0 = s.acc c0 := by simp only [State.acc, State.modMl_accs]
@[simp] theorem State.modMl_pd (k : Nat) (f : MlSt → MlSt) (d0 : Nat) : (s.modMl k f).pd d0 = s.pd d0 := by simp only [State.pd, State.modMl_domains]
@[simp] theorem State.modMl_word (k : Nat) (f : MlSt → MlSt) (a0 u0 w0 : Nat) : (s.modMl k f).word a0 u0 w0 = s.word a0 u0 w0 := by simp only [State.word, State.modMl_arrays]
@[simp] theorem State.modMl_memberOf (k : Nat) (f : MlSt → MlSt) (n0 : Nat) : (s.modMl k f).memberOf n0 = s.memberOf n0 := by simp only [State.memberOf, State.modMl_inForce]
@[simp] theorem State.modMl_dead (k : Nat) (f : MlSt → MlSt) : (s.modMl k f).dead = s.dead := by simp only [State.dead, State.modMl_mode, State.modMl_trans]

/-! modChan changes `chans` alone. -/

@[simp] theorem State.modChan_pending (c : Nat) (f : ChanSt → ChanSt) : (s.modChan c f).pending = s.pending := by cases s; rfl
@[simp] theorem State.modChan_sent (c : Nat) (f : ChanSt → ChanSt) : (s.modChan c f).sent = s.sent := by cases s; rfl
@[simp] theorem State.modChan_freeCtr (c : Nat) (f : ChanSt → ChanSt) : (s.modChan c f).freeCtr = s.freeCtr := by cases s; rfl
@[simp] theorem State.modChan_mode (c : Nat) (f : ChanSt → ChanSt) : (s.modChan c f).mode = s.mode := by cases s; rfl
@[simp] theorem State.modChan_trans (c : Nat) (f : ChanSt → ChanSt) : (s.modChan c f).trans = s.trans := by cases s; rfl
@[simp] theorem State.modChan_transStart (c : Nat) (f : ChanSt → ChanSt) : (s.modChan c f).transStart = s.transStart := by cases s; rfl
@[simp] theorem State.modChan_domains (c : Nat) (f : ChanSt → ChanSt) : (s.modChan c f).domains = s.domains := by cases s; rfl
@[simp] theorem State.modChan_deviceTime (c : Nat) (f : ChanSt → ChanSt) : (s.modChan c f).deviceTime = s.deviceTime := by cases s; rfl
@[simp] theorem State.modChan_nstby (c : Nat) (f : ChanSt → ChanSt) : (s.modChan c f).nstby = s.nstby := by cases s; rfl
@[simp] theorem State.modChan_presA (c : Nat) (f : ChanSt → ChanSt) : (s.modChan c f).presA = s.presA := by cases s; rfl
@[simp] theorem State.modChan_presB (c : Nat) (f : ChanSt → ChanSt) : (s.modChan c f).presB = s.presB := by cases s; rfl
@[simp] theorem State.modChan_presLatched (c : Nat) (f : ChanSt → ChanSt) : (s.modChan c f).presLatched = s.presLatched := by cases s; rfl
@[simp] theorem State.modChan_presFault (c : Nat) (f : ChanSt → ChanSt) : (s.modChan c f).presFault = s.presFault := by cases s; rfl
@[simp] theorem State.modChan_irqPins (c : Nat) (f : ChanSt → ChanSt) : (s.modChan c f).irqPins = s.irqPins := by cases s; rfl
@[simp] theorem State.modChan_parkRdy (c : Nat) (f : ChanSt → ChanSt) : (s.modChan c f).parkRdy = s.parkRdy := by cases s; rfl
@[simp] theorem State.modChan_nfaultLow (c : Nat) (f : ChanSt → ChanSt) : (s.modChan c f).nfaultLow = s.nfaultLow := by cases s; rfl
@[simp] theorem State.modChan_viom (c : Nat) (f : ChanSt → ChanSt) : (s.modChan c f).viom = s.viom := by cases s; rfl
@[simp] theorem State.modChan_vnvm (c : Nat) (f : ChanSt → ChanSt) : (s.modChan c f).vnvm = s.vnvm := by cases s; rfl
@[simp] theorem State.modChan_drained (c : Nat) (f : ChanSt → ChanSt) : (s.modChan c f).drained = s.drained := by cases s; rfl
@[simp] theorem State.modChan_fatalKept (c : Nat) (f : ChanSt → ChanSt) : (s.modChan c f).fatalKept = s.fatalKept := by cases s; rfl
@[simp] theorem State.modChan_linkWaited (c : Nat) (f : ChanSt → ChanSt) : (s.modChan c f).linkWaited = s.linkWaited := by cases s; rfl
@[simp] theorem State.modChan_tbState (c : Nat) (f : ChanSt → ChanSt) : (s.modChan c f).tbState = s.tbState := by cases s; rfl
@[simp] theorem State.modChan_clkTrimmed (c : Nat) (f : ChanSt → ChanSt) : (s.modChan c f).clkTrimmed = s.clkTrimmed := by cases s; rfl
@[simp] theorem State.modChan_missAll (c : Nat) (f : ChanSt → ChanSt) : (s.modChan c f).missAll = s.missAll := by cases s; rfl
@[simp] theorem State.modChan_hot (c : Nat) (f : ChanSt → ChanSt) : (s.modChan c f).hot = s.hot := by cases s; rfl
@[simp] theorem State.modChan_warned (c : Nat) (f : ChanSt → ChanSt) : (s.modChan c f).warned = s.warned := by cases s; rfl
@[simp] theorem State.modChan_nodeId (c : Nat) (f : ChanSt → ChanSt) : (s.modChan c f).nodeId = s.nodeId := by cases s; rfl
@[simp] theorem State.modChan_plcaOk (c : Nat) (f : ChanSt → ChanSt) : (s.modChan c f).plcaOk = s.plcaOk := by cases s; rfl
@[simp] theorem State.modChan_plcaOn (c : Nat) (f : ChanSt → ChanSt) : (s.modChan c f).plcaOn = s.plcaOn := by cases s; rfl
@[simp] theorem State.modChan_plcaNodes (c : Nat) (f : ChanSt → ChanSt) : (s.modChan c f).plcaNodes = s.plcaNodes := by cases s; rfl
@[simp] theorem State.modChan_plcaTimer (c : Nat) (f : ChanSt → ChanSt) : (s.modChan c f).plcaTimer = s.plcaTimer := by cases s; rfl
@[simp] theorem State.modChan_objs (c : Nat) (f : ChanSt → ChanSt) : (s.modChan c f).objs = s.objs := by cases s; rfl
@[simp] theorem State.modChan_staged (c : Nat) (f : ChanSt → ChanSt) : (s.modChan c f).staged = s.staged := by cases s; rfl
@[simp] theorem State.modChan_oldBound (c : Nat) (f : ChanSt → ChanSt) : (s.modChan c f).oldBound = s.oldBound := by cases s; rfl
@[simp] theorem State.modChan_inForce (c : Nat) (f : ChanSt → ChanSt) : (s.modChan c f).inForce = s.inForce := by cases s; rfl
@[simp] theorem State.modChan_epoch (c : Nat) (f : ChanSt → ChanSt) : (s.modChan c f).epoch = s.epoch := by cases s; rfl
@[simp] theorem State.modChan_commitState (c : Nat) (f : ChanSt → ChanSt) : (s.modChan c f).commitState = s.commitState := by cases s; rfl
@[simp] theorem State.modChan_commitPending (c : Nat) (f : ChanSt → ChanSt) : (s.modChan c f).commitPending = s.commitPending := by cases s; rfl
@[simp] theorem State.modChan_arrays (c : Nat) (f : ChanSt → ChanSt) : (s.modChan c f).arrays = s.arrays := by cases s; rfl
@[simp] theorem State.modChan_doomed (c : Nat) (f : ChanSt → ChanSt) : (s.modChan c f).doomed = s.doomed := by cases s; rfl
@[simp] theorem State.modChan_lostEntries (c : Nat) (f : ChanSt → ChanSt) : (s.modChan c f).lostEntries = s.lostEntries := by cases s; rfl
@[simp] theorem State.modChan_links (c : Nat) (f : ChanSt → ChanSt) : (s.modChan c f).links = s.links := by cases s; rfl
@[simp] theorem State.modChan_ports (c : Nat) (f : ChanSt → ChanSt) : (s.modChan c f).ports = s.ports := by cases s; rfl
@[simp] theorem State.modChan_consoles (c : Nat) (f : ChanSt → ChanSt) : (s.modChan c f).consoles = s.consoles := by cases s; rfl
@[simp] theorem State.modChan_bucketMap (c : Nat) (f : ChanSt → ChanSt) : (s.modChan c f).bucketMap = s.bucketMap := by cases s; rfl
@[simp] theorem State.modChan_moving (c : Nat) (f : ChanSt → ChanSt) : (s.modChan c f).moving = s.moving := by cases s; rfl
@[simp] theorem State.modChan_txns (c : Nat) (f : ChanSt → ChanSt) : (s.modChan c f).txns = s.txns := by cases s; rfl
@[simp] theorem State.modChan_nextTxn (c : Nat) (f : ChanSt → ChanSt) : (s.modChan c f).nextTxn = s.nextTxn := by cases s; rfl
@[simp] theorem State.modChan_credits (c : Nat) (f : ChanSt → ChanSt) : (s.modChan c f).credits = s.credits := by cases s; rfl
@[simp] theorem State.modChan_mls (c : Nat) (f : ChanSt → ChanSt) : (s.modChan c f).mls = s.mls := by cases s; rfl
@[simp] theorem State.modChan_chansUsed (c : Nat) (f : ChanSt → ChanSt) : (s.modChan c f).chansUsed = s.chansUsed := by cases s; rfl
@[simp] theorem State.modChan_chipErrs (c : Nat) (f : ChanSt → ChanSt) : (s.modChan c f).chipErrs = s.chipErrs := by cases s; rfl
@[simp] theorem State.modChan_wayErrs (c : Nat) (f : ChanSt → ChanSt) : (s.modChan c f).wayErrs = s.wayErrs := by cases s; rfl
@[simp] theorem State.modChan_ctls (c : Nat) (f : ChanSt → ChanSt) : (s.modChan c f).ctls = s.ctls := by cases s; rfl
@[simp] theorem State.modChan_ledgers (c : Nat) (f : ChanSt → ChanSt) : (s.modChan c f).ledgers = s.ledgers := by cases s; rfl
@[simp] theorem State.modChan_evinLevel (c : Nat) (f : ChanSt → ChanSt) : (s.modChan c f).evinLevel = s.evinLevel := by cases s; rfl
@[simp] theorem State.modChan_evinAsserted (c : Nat) (f : ChanSt → ChanSt) : (s.modChan c f).evinAsserted = s.evinAsserted := by cases s; rfl
@[simp] theorem State.modChan_accs (c : Nat) (f : ChanSt → ChanSt) : (s.modChan c f).accs = s.accs := by cases s; rfl
@[simp] theorem State.modChan_job (c : Nat) (f : ChanSt → ChanSt) : (s.modChan c f).job = s.job := by cases s; rfl
@[simp] theorem State.modChan_scrub (c : Nat) (f : ChanSt → ChanSt) : (s.modChan c f).scrub = s.scrub := by cases s; rfl
@[simp] theorem State.modChan_ceArm (c : Nat) (f : ChanSt → ChanSt) : (s.modChan c f).ceArm = s.ceArm := by cases s; rfl
@[simp] theorem State.modChan_ceUnlogArm (c : Nat) (f : ChanSt → ChanSt) : (s.modChan c f).ceUnlogArm = s.ceUnlogArm := by cases s; rfl
@[simp] theorem State.modChan_patrolDc (c : Nat) (f : ChanSt → ChanSt) : (s.modChan c f).patrolDc = s.patrolDc := by cases s; rfl
@[simp] theorem State.modChan_patrolTag (c : Nat) (f : ChanSt → ChanSt) : (s.modChan c f).patrolTag = s.patrolTag := by cases s; rfl
@[simp] theorem State.modChan_patrolCat (c : Nat) (f : ChanSt → ChanSt) : (s.modChan c f).patrolCat = s.patrolCat := by cases s; rfl
@[simp] theorem State.modChan_resets (c : Nat) (f : ChanSt → ChanSt) : (s.modChan c f).resets = s.resets := by cases s; rfl
@[simp] theorem State.modChan_tcInval (c : Nat) (f : ChanSt → ChanSt) : (s.modChan c f).tcInval = s.tcInval := by cases s; rfl
@[simp] theorem State.modChan_due (c : Nat) (f : ChanSt → ChanSt) : (s.modChan c f).due = s.due := by cases s; rfl
@[simp] theorem State.modChan_pair (c : Nat) (f : ChanSt → ChanSt) : (s.modChan c f).pair = s.pair := by cases s; rfl
@[simp] theorem State.modChan_homeNow (c : Nat) (f : ChanSt → ChanSt) : (s.modChan c f).homeNow = s.homeNow := by cases s; rfl
@[simp] theorem State.modChan_jop (c : Nat) (f : ChanSt → ChanSt) : (s.modChan c f).jop = s.jop := by cases s; rfl
@[simp] theorem State.modChan_nvm (c : Nat) (f : ChanSt → ChanSt) : (s.modChan c f).nvm = s.nvm := by cases s; rfl
@[simp] theorem State.modChan_obj (c : Nat) (f : ChanSt → ChanSt) (k0 : Nat) : (s.modChan c f).obj k0 = s.obj k0 := by simp only [State.obj, State.modChan_objs]
@[simp] theorem State.modChan_port (c : Nat) (f : ChanSt → ChanSt) (n0 : Nat) : (s.modChan c f).port n0 = s.port n0 := by simp only [State.port, State.modChan_ports]
@[simp] theorem State.modChan_link (c : Nat) (f : ChanSt → ChanSt) (l0 : LinkId) : (s.modChan c f).link l0 = s.link l0 := by simp only [State.link, State.modChan_links]
@[simp] theorem State.modChan_ml (c : Nat) (f : ChanSt → ChanSt) (k0 : Nat) : (s.modChan c f).ml k0 = s.ml k0 := by simp only [State.ml, State.modChan_mls]
@[simp] theorem State.modChan_ctl (c : Nat) (f : ChanSt → ChanSt) (p0 : Nat) : (s.modChan c f).ctl p0 = s.ctl p0 := by simp only [State.ctl, State.modChan_ctls]
@[simp] theorem State.modChan_ledger (c : Nat) (f : ChanSt → ChanSt) (p0 i0 : Nat) : (s.modChan c f).ledger p0 i0 = s.ledger p0 i0 := by simp only [State.ledger, State.modChan_ledgers]
@[simp] theorem State.modChan_acc (c : Nat) (f : ChanSt → ChanSt) (c0 : Nat) : (s.modChan c f).acc c0 = s.acc c0 := by simp only [State.acc, State.modChan_accs]
@[simp] theorem State.modChan_pd (c : Nat) (f : ChanSt → ChanSt) (d0 : Nat) : (s.modChan c f).pd d0 = s.pd d0 := by simp only [State.pd, State.modChan_domains]
@[simp] theorem State.modChan_word (c : Nat) (f : ChanSt → ChanSt) (a0 u0 w0 : Nat) : (s.modChan c f).word a0 u0 w0 = s.word a0 u0 w0 := by simp only [State.word, State.modChan_arrays]
@[simp] theorem State.modChan_memberOf (c : Nat) (f : ChanSt → ChanSt) (n0 : Nat) : (s.modChan c f).memberOf n0 = s.memberOf n0 := by simp only [State.memberOf, State.modChan_inForce]
@[simp] theorem State.modChan_dead (c : Nat) (f : ChanSt → ChanSt) : (s.modChan c f).dead = s.dead := by simp only [State.dead, State.modChan_mode, State.modChan_trans]

/-! modCtl changes `ctls` alone. -/

@[simp] theorem State.modCtl_pending (p : Nat) (f : CtlSt → CtlSt) : (s.modCtl p f).pending = s.pending := by cases s; rfl
@[simp] theorem State.modCtl_sent (p : Nat) (f : CtlSt → CtlSt) : (s.modCtl p f).sent = s.sent := by cases s; rfl
@[simp] theorem State.modCtl_freeCtr (p : Nat) (f : CtlSt → CtlSt) : (s.modCtl p f).freeCtr = s.freeCtr := by cases s; rfl
@[simp] theorem State.modCtl_mode (p : Nat) (f : CtlSt → CtlSt) : (s.modCtl p f).mode = s.mode := by cases s; rfl
@[simp] theorem State.modCtl_trans (p : Nat) (f : CtlSt → CtlSt) : (s.modCtl p f).trans = s.trans := by cases s; rfl
@[simp] theorem State.modCtl_transStart (p : Nat) (f : CtlSt → CtlSt) : (s.modCtl p f).transStart = s.transStart := by cases s; rfl
@[simp] theorem State.modCtl_domains (p : Nat) (f : CtlSt → CtlSt) : (s.modCtl p f).domains = s.domains := by cases s; rfl
@[simp] theorem State.modCtl_deviceTime (p : Nat) (f : CtlSt → CtlSt) : (s.modCtl p f).deviceTime = s.deviceTime := by cases s; rfl
@[simp] theorem State.modCtl_nstby (p : Nat) (f : CtlSt → CtlSt) : (s.modCtl p f).nstby = s.nstby := by cases s; rfl
@[simp] theorem State.modCtl_presA (p : Nat) (f : CtlSt → CtlSt) : (s.modCtl p f).presA = s.presA := by cases s; rfl
@[simp] theorem State.modCtl_presB (p : Nat) (f : CtlSt → CtlSt) : (s.modCtl p f).presB = s.presB := by cases s; rfl
@[simp] theorem State.modCtl_presLatched (p : Nat) (f : CtlSt → CtlSt) : (s.modCtl p f).presLatched = s.presLatched := by cases s; rfl
@[simp] theorem State.modCtl_presFault (p : Nat) (f : CtlSt → CtlSt) : (s.modCtl p f).presFault = s.presFault := by cases s; rfl
@[simp] theorem State.modCtl_irqPins (p : Nat) (f : CtlSt → CtlSt) : (s.modCtl p f).irqPins = s.irqPins := by cases s; rfl
@[simp] theorem State.modCtl_parkRdy (p : Nat) (f : CtlSt → CtlSt) : (s.modCtl p f).parkRdy = s.parkRdy := by cases s; rfl
@[simp] theorem State.modCtl_nfaultLow (p : Nat) (f : CtlSt → CtlSt) : (s.modCtl p f).nfaultLow = s.nfaultLow := by cases s; rfl
@[simp] theorem State.modCtl_viom (p : Nat) (f : CtlSt → CtlSt) : (s.modCtl p f).viom = s.viom := by cases s; rfl
@[simp] theorem State.modCtl_vnvm (p : Nat) (f : CtlSt → CtlSt) : (s.modCtl p f).vnvm = s.vnvm := by cases s; rfl
@[simp] theorem State.modCtl_drained (p : Nat) (f : CtlSt → CtlSt) : (s.modCtl p f).drained = s.drained := by cases s; rfl
@[simp] theorem State.modCtl_fatalKept (p : Nat) (f : CtlSt → CtlSt) : (s.modCtl p f).fatalKept = s.fatalKept := by cases s; rfl
@[simp] theorem State.modCtl_linkWaited (p : Nat) (f : CtlSt → CtlSt) : (s.modCtl p f).linkWaited = s.linkWaited := by cases s; rfl
@[simp] theorem State.modCtl_tbState (p : Nat) (f : CtlSt → CtlSt) : (s.modCtl p f).tbState = s.tbState := by cases s; rfl
@[simp] theorem State.modCtl_clkTrimmed (p : Nat) (f : CtlSt → CtlSt) : (s.modCtl p f).clkTrimmed = s.clkTrimmed := by cases s; rfl
@[simp] theorem State.modCtl_missAll (p : Nat) (f : CtlSt → CtlSt) : (s.modCtl p f).missAll = s.missAll := by cases s; rfl
@[simp] theorem State.modCtl_hot (p : Nat) (f : CtlSt → CtlSt) : (s.modCtl p f).hot = s.hot := by cases s; rfl
@[simp] theorem State.modCtl_warned (p : Nat) (f : CtlSt → CtlSt) : (s.modCtl p f).warned = s.warned := by cases s; rfl
@[simp] theorem State.modCtl_nodeId (p : Nat) (f : CtlSt → CtlSt) : (s.modCtl p f).nodeId = s.nodeId := by cases s; rfl
@[simp] theorem State.modCtl_plcaOk (p : Nat) (f : CtlSt → CtlSt) : (s.modCtl p f).plcaOk = s.plcaOk := by cases s; rfl
@[simp] theorem State.modCtl_plcaOn (p : Nat) (f : CtlSt → CtlSt) : (s.modCtl p f).plcaOn = s.plcaOn := by cases s; rfl
@[simp] theorem State.modCtl_plcaNodes (p : Nat) (f : CtlSt → CtlSt) : (s.modCtl p f).plcaNodes = s.plcaNodes := by cases s; rfl
@[simp] theorem State.modCtl_plcaTimer (p : Nat) (f : CtlSt → CtlSt) : (s.modCtl p f).plcaTimer = s.plcaTimer := by cases s; rfl
@[simp] theorem State.modCtl_objs (p : Nat) (f : CtlSt → CtlSt) : (s.modCtl p f).objs = s.objs := by cases s; rfl
@[simp] theorem State.modCtl_staged (p : Nat) (f : CtlSt → CtlSt) : (s.modCtl p f).staged = s.staged := by cases s; rfl
@[simp] theorem State.modCtl_oldBound (p : Nat) (f : CtlSt → CtlSt) : (s.modCtl p f).oldBound = s.oldBound := by cases s; rfl
@[simp] theorem State.modCtl_inForce (p : Nat) (f : CtlSt → CtlSt) : (s.modCtl p f).inForce = s.inForce := by cases s; rfl
@[simp] theorem State.modCtl_epoch (p : Nat) (f : CtlSt → CtlSt) : (s.modCtl p f).epoch = s.epoch := by cases s; rfl
@[simp] theorem State.modCtl_commitState (p : Nat) (f : CtlSt → CtlSt) : (s.modCtl p f).commitState = s.commitState := by cases s; rfl
@[simp] theorem State.modCtl_commitPending (p : Nat) (f : CtlSt → CtlSt) : (s.modCtl p f).commitPending = s.commitPending := by cases s; rfl
@[simp] theorem State.modCtl_arrays (p : Nat) (f : CtlSt → CtlSt) : (s.modCtl p f).arrays = s.arrays := by cases s; rfl
@[simp] theorem State.modCtl_doomed (p : Nat) (f : CtlSt → CtlSt) : (s.modCtl p f).doomed = s.doomed := by cases s; rfl
@[simp] theorem State.modCtl_lostEntries (p : Nat) (f : CtlSt → CtlSt) : (s.modCtl p f).lostEntries = s.lostEntries := by cases s; rfl
@[simp] theorem State.modCtl_links (p : Nat) (f : CtlSt → CtlSt) : (s.modCtl p f).links = s.links := by cases s; rfl
@[simp] theorem State.modCtl_ports (p : Nat) (f : CtlSt → CtlSt) : (s.modCtl p f).ports = s.ports := by cases s; rfl
@[simp] theorem State.modCtl_consoles (p : Nat) (f : CtlSt → CtlSt) : (s.modCtl p f).consoles = s.consoles := by cases s; rfl
@[simp] theorem State.modCtl_bucketMap (p : Nat) (f : CtlSt → CtlSt) : (s.modCtl p f).bucketMap = s.bucketMap := by cases s; rfl
@[simp] theorem State.modCtl_moving (p : Nat) (f : CtlSt → CtlSt) : (s.modCtl p f).moving = s.moving := by cases s; rfl
@[simp] theorem State.modCtl_txns (p : Nat) (f : CtlSt → CtlSt) : (s.modCtl p f).txns = s.txns := by cases s; rfl
@[simp] theorem State.modCtl_nextTxn (p : Nat) (f : CtlSt → CtlSt) : (s.modCtl p f).nextTxn = s.nextTxn := by cases s; rfl
@[simp] theorem State.modCtl_credits (p : Nat) (f : CtlSt → CtlSt) : (s.modCtl p f).credits = s.credits := by cases s; rfl
@[simp] theorem State.modCtl_mls (p : Nat) (f : CtlSt → CtlSt) : (s.modCtl p f).mls = s.mls := by cases s; rfl
@[simp] theorem State.modCtl_chans (p : Nat) (f : CtlSt → CtlSt) : (s.modCtl p f).chans = s.chans := by cases s; rfl
@[simp] theorem State.modCtl_chansUsed (p : Nat) (f : CtlSt → CtlSt) : (s.modCtl p f).chansUsed = s.chansUsed := by cases s; rfl
@[simp] theorem State.modCtl_chipErrs (p : Nat) (f : CtlSt → CtlSt) : (s.modCtl p f).chipErrs = s.chipErrs := by cases s; rfl
@[simp] theorem State.modCtl_wayErrs (p : Nat) (f : CtlSt → CtlSt) : (s.modCtl p f).wayErrs = s.wayErrs := by cases s; rfl
@[simp] theorem State.modCtl_ledgers (p : Nat) (f : CtlSt → CtlSt) : (s.modCtl p f).ledgers = s.ledgers := by cases s; rfl
@[simp] theorem State.modCtl_evinLevel (p : Nat) (f : CtlSt → CtlSt) : (s.modCtl p f).evinLevel = s.evinLevel := by cases s; rfl
@[simp] theorem State.modCtl_evinAsserted (p : Nat) (f : CtlSt → CtlSt) : (s.modCtl p f).evinAsserted = s.evinAsserted := by cases s; rfl
@[simp] theorem State.modCtl_accs (p : Nat) (f : CtlSt → CtlSt) : (s.modCtl p f).accs = s.accs := by cases s; rfl
@[simp] theorem State.modCtl_job (p : Nat) (f : CtlSt → CtlSt) : (s.modCtl p f).job = s.job := by cases s; rfl
@[simp] theorem State.modCtl_scrub (p : Nat) (f : CtlSt → CtlSt) : (s.modCtl p f).scrub = s.scrub := by cases s; rfl
@[simp] theorem State.modCtl_ceArm (p : Nat) (f : CtlSt → CtlSt) : (s.modCtl p f).ceArm = s.ceArm := by cases s; rfl
@[simp] theorem State.modCtl_ceUnlogArm (p : Nat) (f : CtlSt → CtlSt) : (s.modCtl p f).ceUnlogArm = s.ceUnlogArm := by cases s; rfl
@[simp] theorem State.modCtl_patrolDc (p : Nat) (f : CtlSt → CtlSt) : (s.modCtl p f).patrolDc = s.patrolDc := by cases s; rfl
@[simp] theorem State.modCtl_patrolTag (p : Nat) (f : CtlSt → CtlSt) : (s.modCtl p f).patrolTag = s.patrolTag := by cases s; rfl
@[simp] theorem State.modCtl_patrolCat (p : Nat) (f : CtlSt → CtlSt) : (s.modCtl p f).patrolCat = s.patrolCat := by cases s; rfl
@[simp] theorem State.modCtl_resets (p : Nat) (f : CtlSt → CtlSt) : (s.modCtl p f).resets = s.resets := by cases s; rfl
@[simp] theorem State.modCtl_tcInval (p : Nat) (f : CtlSt → CtlSt) : (s.modCtl p f).tcInval = s.tcInval := by cases s; rfl
@[simp] theorem State.modCtl_due (p : Nat) (f : CtlSt → CtlSt) : (s.modCtl p f).due = s.due := by cases s; rfl
@[simp] theorem State.modCtl_pair (p : Nat) (f : CtlSt → CtlSt) : (s.modCtl p f).pair = s.pair := by cases s; rfl
@[simp] theorem State.modCtl_homeNow (p : Nat) (f : CtlSt → CtlSt) : (s.modCtl p f).homeNow = s.homeNow := by cases s; rfl
@[simp] theorem State.modCtl_jop (p : Nat) (f : CtlSt → CtlSt) : (s.modCtl p f).jop = s.jop := by cases s; rfl
@[simp] theorem State.modCtl_nvm (p : Nat) (f : CtlSt → CtlSt) : (s.modCtl p f).nvm = s.nvm := by cases s; rfl
@[simp] theorem State.modCtl_obj (p : Nat) (f : CtlSt → CtlSt) (k0 : Nat) : (s.modCtl p f).obj k0 = s.obj k0 := by simp only [State.obj, State.modCtl_objs]
@[simp] theorem State.modCtl_port (p : Nat) (f : CtlSt → CtlSt) (n0 : Nat) : (s.modCtl p f).port n0 = s.port n0 := by simp only [State.port, State.modCtl_ports]
@[simp] theorem State.modCtl_link (p : Nat) (f : CtlSt → CtlSt) (l0 : LinkId) : (s.modCtl p f).link l0 = s.link l0 := by simp only [State.link, State.modCtl_links]
@[simp] theorem State.modCtl_ml (p : Nat) (f : CtlSt → CtlSt) (k0 : Nat) : (s.modCtl p f).ml k0 = s.ml k0 := by simp only [State.ml, State.modCtl_mls]
@[simp] theorem State.modCtl_chan (p : Nat) (f : CtlSt → CtlSt) (c0 : Nat) : (s.modCtl p f).chan c0 = s.chan c0 := by simp only [State.chan, State.modCtl_chans]
@[simp] theorem State.modCtl_ledger (p : Nat) (f : CtlSt → CtlSt) (p0 i0 : Nat) : (s.modCtl p f).ledger p0 i0 = s.ledger p0 i0 := by simp only [State.ledger, State.modCtl_ledgers]
@[simp] theorem State.modCtl_acc (p : Nat) (f : CtlSt → CtlSt) (c0 : Nat) : (s.modCtl p f).acc c0 = s.acc c0 := by simp only [State.acc, State.modCtl_accs]
@[simp] theorem State.modCtl_pd (p : Nat) (f : CtlSt → CtlSt) (d0 : Nat) : (s.modCtl p f).pd d0 = s.pd d0 := by simp only [State.pd, State.modCtl_domains]
@[simp] theorem State.modCtl_word (p : Nat) (f : CtlSt → CtlSt) (a0 u0 w0 : Nat) : (s.modCtl p f).word a0 u0 w0 = s.word a0 u0 w0 := by simp only [State.word, State.modCtl_arrays]
@[simp] theorem State.modCtl_memberOf (p : Nat) (f : CtlSt → CtlSt) (n0 : Nat) : (s.modCtl p f).memberOf n0 = s.memberOf n0 := by simp only [State.memberOf, State.modCtl_inForce]
@[simp] theorem State.modCtl_dead (p : Nat) (f : CtlSt → CtlSt) : (s.modCtl p f).dead = s.dead := by simp only [State.dead, State.modCtl_mode, State.modCtl_trans]

/-! modLedger changes `ledgers` alone. -/

@[simp] theorem State.modLedger_pending (p l : Nat) (f : LedgerSt → LedgerSt) : (s.modLedger p l f).pending = s.pending := by cases s; rfl
@[simp] theorem State.modLedger_sent (p l : Nat) (f : LedgerSt → LedgerSt) : (s.modLedger p l f).sent = s.sent := by cases s; rfl
@[simp] theorem State.modLedger_freeCtr (p l : Nat) (f : LedgerSt → LedgerSt) : (s.modLedger p l f).freeCtr = s.freeCtr := by cases s; rfl
@[simp] theorem State.modLedger_mode (p l : Nat) (f : LedgerSt → LedgerSt) : (s.modLedger p l f).mode = s.mode := by cases s; rfl
@[simp] theorem State.modLedger_trans (p l : Nat) (f : LedgerSt → LedgerSt) : (s.modLedger p l f).trans = s.trans := by cases s; rfl
@[simp] theorem State.modLedger_transStart (p l : Nat) (f : LedgerSt → LedgerSt) : (s.modLedger p l f).transStart = s.transStart := by cases s; rfl
@[simp] theorem State.modLedger_domains (p l : Nat) (f : LedgerSt → LedgerSt) : (s.modLedger p l f).domains = s.domains := by cases s; rfl
@[simp] theorem State.modLedger_deviceTime (p l : Nat) (f : LedgerSt → LedgerSt) : (s.modLedger p l f).deviceTime = s.deviceTime := by cases s; rfl
@[simp] theorem State.modLedger_nstby (p l : Nat) (f : LedgerSt → LedgerSt) : (s.modLedger p l f).nstby = s.nstby := by cases s; rfl
@[simp] theorem State.modLedger_presA (p l : Nat) (f : LedgerSt → LedgerSt) : (s.modLedger p l f).presA = s.presA := by cases s; rfl
@[simp] theorem State.modLedger_presB (p l : Nat) (f : LedgerSt → LedgerSt) : (s.modLedger p l f).presB = s.presB := by cases s; rfl
@[simp] theorem State.modLedger_presLatched (p l : Nat) (f : LedgerSt → LedgerSt) : (s.modLedger p l f).presLatched = s.presLatched := by cases s; rfl
@[simp] theorem State.modLedger_presFault (p l : Nat) (f : LedgerSt → LedgerSt) : (s.modLedger p l f).presFault = s.presFault := by cases s; rfl
@[simp] theorem State.modLedger_irqPins (p l : Nat) (f : LedgerSt → LedgerSt) : (s.modLedger p l f).irqPins = s.irqPins := by cases s; rfl
@[simp] theorem State.modLedger_parkRdy (p l : Nat) (f : LedgerSt → LedgerSt) : (s.modLedger p l f).parkRdy = s.parkRdy := by cases s; rfl
@[simp] theorem State.modLedger_nfaultLow (p l : Nat) (f : LedgerSt → LedgerSt) : (s.modLedger p l f).nfaultLow = s.nfaultLow := by cases s; rfl
@[simp] theorem State.modLedger_viom (p l : Nat) (f : LedgerSt → LedgerSt) : (s.modLedger p l f).viom = s.viom := by cases s; rfl
@[simp] theorem State.modLedger_vnvm (p l : Nat) (f : LedgerSt → LedgerSt) : (s.modLedger p l f).vnvm = s.vnvm := by cases s; rfl
@[simp] theorem State.modLedger_drained (p l : Nat) (f : LedgerSt → LedgerSt) : (s.modLedger p l f).drained = s.drained := by cases s; rfl
@[simp] theorem State.modLedger_fatalKept (p l : Nat) (f : LedgerSt → LedgerSt) : (s.modLedger p l f).fatalKept = s.fatalKept := by cases s; rfl
@[simp] theorem State.modLedger_linkWaited (p l : Nat) (f : LedgerSt → LedgerSt) : (s.modLedger p l f).linkWaited = s.linkWaited := by cases s; rfl
@[simp] theorem State.modLedger_tbState (p l : Nat) (f : LedgerSt → LedgerSt) : (s.modLedger p l f).tbState = s.tbState := by cases s; rfl
@[simp] theorem State.modLedger_clkTrimmed (p l : Nat) (f : LedgerSt → LedgerSt) : (s.modLedger p l f).clkTrimmed = s.clkTrimmed := by cases s; rfl
@[simp] theorem State.modLedger_missAll (p l : Nat) (f : LedgerSt → LedgerSt) : (s.modLedger p l f).missAll = s.missAll := by cases s; rfl
@[simp] theorem State.modLedger_hot (p l : Nat) (f : LedgerSt → LedgerSt) : (s.modLedger p l f).hot = s.hot := by cases s; rfl
@[simp] theorem State.modLedger_warned (p l : Nat) (f : LedgerSt → LedgerSt) : (s.modLedger p l f).warned = s.warned := by cases s; rfl
@[simp] theorem State.modLedger_nodeId (p l : Nat) (f : LedgerSt → LedgerSt) : (s.modLedger p l f).nodeId = s.nodeId := by cases s; rfl
@[simp] theorem State.modLedger_plcaOk (p l : Nat) (f : LedgerSt → LedgerSt) : (s.modLedger p l f).plcaOk = s.plcaOk := by cases s; rfl
@[simp] theorem State.modLedger_plcaOn (p l : Nat) (f : LedgerSt → LedgerSt) : (s.modLedger p l f).plcaOn = s.plcaOn := by cases s; rfl
@[simp] theorem State.modLedger_plcaNodes (p l : Nat) (f : LedgerSt → LedgerSt) : (s.modLedger p l f).plcaNodes = s.plcaNodes := by cases s; rfl
@[simp] theorem State.modLedger_plcaTimer (p l : Nat) (f : LedgerSt → LedgerSt) : (s.modLedger p l f).plcaTimer = s.plcaTimer := by cases s; rfl
@[simp] theorem State.modLedger_objs (p l : Nat) (f : LedgerSt → LedgerSt) : (s.modLedger p l f).objs = s.objs := by cases s; rfl
@[simp] theorem State.modLedger_staged (p l : Nat) (f : LedgerSt → LedgerSt) : (s.modLedger p l f).staged = s.staged := by cases s; rfl
@[simp] theorem State.modLedger_oldBound (p l : Nat) (f : LedgerSt → LedgerSt) : (s.modLedger p l f).oldBound = s.oldBound := by cases s; rfl
@[simp] theorem State.modLedger_inForce (p l : Nat) (f : LedgerSt → LedgerSt) : (s.modLedger p l f).inForce = s.inForce := by cases s; rfl
@[simp] theorem State.modLedger_epoch (p l : Nat) (f : LedgerSt → LedgerSt) : (s.modLedger p l f).epoch = s.epoch := by cases s; rfl
@[simp] theorem State.modLedger_commitState (p l : Nat) (f : LedgerSt → LedgerSt) : (s.modLedger p l f).commitState = s.commitState := by cases s; rfl
@[simp] theorem State.modLedger_commitPending (p l : Nat) (f : LedgerSt → LedgerSt) : (s.modLedger p l f).commitPending = s.commitPending := by cases s; rfl
@[simp] theorem State.modLedger_arrays (p l : Nat) (f : LedgerSt → LedgerSt) : (s.modLedger p l f).arrays = s.arrays := by cases s; rfl
@[simp] theorem State.modLedger_doomed (p l : Nat) (f : LedgerSt → LedgerSt) : (s.modLedger p l f).doomed = s.doomed := by cases s; rfl
@[simp] theorem State.modLedger_lostEntries (p l : Nat) (f : LedgerSt → LedgerSt) : (s.modLedger p l f).lostEntries = s.lostEntries := by cases s; rfl
@[simp] theorem State.modLedger_links (p l : Nat) (f : LedgerSt → LedgerSt) : (s.modLedger p l f).links = s.links := by cases s; rfl
@[simp] theorem State.modLedger_ports (p l : Nat) (f : LedgerSt → LedgerSt) : (s.modLedger p l f).ports = s.ports := by cases s; rfl
@[simp] theorem State.modLedger_consoles (p l : Nat) (f : LedgerSt → LedgerSt) : (s.modLedger p l f).consoles = s.consoles := by cases s; rfl
@[simp] theorem State.modLedger_bucketMap (p l : Nat) (f : LedgerSt → LedgerSt) : (s.modLedger p l f).bucketMap = s.bucketMap := by cases s; rfl
@[simp] theorem State.modLedger_moving (p l : Nat) (f : LedgerSt → LedgerSt) : (s.modLedger p l f).moving = s.moving := by cases s; rfl
@[simp] theorem State.modLedger_txns (p l : Nat) (f : LedgerSt → LedgerSt) : (s.modLedger p l f).txns = s.txns := by cases s; rfl
@[simp] theorem State.modLedger_nextTxn (p l : Nat) (f : LedgerSt → LedgerSt) : (s.modLedger p l f).nextTxn = s.nextTxn := by cases s; rfl
@[simp] theorem State.modLedger_credits (p l : Nat) (f : LedgerSt → LedgerSt) : (s.modLedger p l f).credits = s.credits := by cases s; rfl
@[simp] theorem State.modLedger_mls (p l : Nat) (f : LedgerSt → LedgerSt) : (s.modLedger p l f).mls = s.mls := by cases s; rfl
@[simp] theorem State.modLedger_chans (p l : Nat) (f : LedgerSt → LedgerSt) : (s.modLedger p l f).chans = s.chans := by cases s; rfl
@[simp] theorem State.modLedger_chansUsed (p l : Nat) (f : LedgerSt → LedgerSt) : (s.modLedger p l f).chansUsed = s.chansUsed := by cases s; rfl
@[simp] theorem State.modLedger_chipErrs (p l : Nat) (f : LedgerSt → LedgerSt) : (s.modLedger p l f).chipErrs = s.chipErrs := by cases s; rfl
@[simp] theorem State.modLedger_wayErrs (p l : Nat) (f : LedgerSt → LedgerSt) : (s.modLedger p l f).wayErrs = s.wayErrs := by cases s; rfl
@[simp] theorem State.modLedger_ctls (p l : Nat) (f : LedgerSt → LedgerSt) : (s.modLedger p l f).ctls = s.ctls := by cases s; rfl
@[simp] theorem State.modLedger_evinLevel (p l : Nat) (f : LedgerSt → LedgerSt) : (s.modLedger p l f).evinLevel = s.evinLevel := by cases s; rfl
@[simp] theorem State.modLedger_evinAsserted (p l : Nat) (f : LedgerSt → LedgerSt) : (s.modLedger p l f).evinAsserted = s.evinAsserted := by cases s; rfl
@[simp] theorem State.modLedger_accs (p l : Nat) (f : LedgerSt → LedgerSt) : (s.modLedger p l f).accs = s.accs := by cases s; rfl
@[simp] theorem State.modLedger_job (p l : Nat) (f : LedgerSt → LedgerSt) : (s.modLedger p l f).job = s.job := by cases s; rfl
@[simp] theorem State.modLedger_scrub (p l : Nat) (f : LedgerSt → LedgerSt) : (s.modLedger p l f).scrub = s.scrub := by cases s; rfl
@[simp] theorem State.modLedger_ceArm (p l : Nat) (f : LedgerSt → LedgerSt) : (s.modLedger p l f).ceArm = s.ceArm := by cases s; rfl
@[simp] theorem State.modLedger_ceUnlogArm (p l : Nat) (f : LedgerSt → LedgerSt) : (s.modLedger p l f).ceUnlogArm = s.ceUnlogArm := by cases s; rfl
@[simp] theorem State.modLedger_patrolDc (p l : Nat) (f : LedgerSt → LedgerSt) : (s.modLedger p l f).patrolDc = s.patrolDc := by cases s; rfl
@[simp] theorem State.modLedger_patrolTag (p l : Nat) (f : LedgerSt → LedgerSt) : (s.modLedger p l f).patrolTag = s.patrolTag := by cases s; rfl
@[simp] theorem State.modLedger_patrolCat (p l : Nat) (f : LedgerSt → LedgerSt) : (s.modLedger p l f).patrolCat = s.patrolCat := by cases s; rfl
@[simp] theorem State.modLedger_resets (p l : Nat) (f : LedgerSt → LedgerSt) : (s.modLedger p l f).resets = s.resets := by cases s; rfl
@[simp] theorem State.modLedger_tcInval (p l : Nat) (f : LedgerSt → LedgerSt) : (s.modLedger p l f).tcInval = s.tcInval := by cases s; rfl
@[simp] theorem State.modLedger_due (p l : Nat) (f : LedgerSt → LedgerSt) : (s.modLedger p l f).due = s.due := by cases s; rfl
@[simp] theorem State.modLedger_pair (p l : Nat) (f : LedgerSt → LedgerSt) : (s.modLedger p l f).pair = s.pair := by cases s; rfl
@[simp] theorem State.modLedger_homeNow (p l : Nat) (f : LedgerSt → LedgerSt) : (s.modLedger p l f).homeNow = s.homeNow := by cases s; rfl
@[simp] theorem State.modLedger_jop (p l : Nat) (f : LedgerSt → LedgerSt) : (s.modLedger p l f).jop = s.jop := by cases s; rfl
@[simp] theorem State.modLedger_nvm (p l : Nat) (f : LedgerSt → LedgerSt) : (s.modLedger p l f).nvm = s.nvm := by cases s; rfl
@[simp] theorem State.modLedger_obj (p l : Nat) (f : LedgerSt → LedgerSt) (k0 : Nat) : (s.modLedger p l f).obj k0 = s.obj k0 := by simp only [State.obj, State.modLedger_objs]
@[simp] theorem State.modLedger_port (p l : Nat) (f : LedgerSt → LedgerSt) (n0 : Nat) : (s.modLedger p l f).port n0 = s.port n0 := by simp only [State.port, State.modLedger_ports]
@[simp] theorem State.modLedger_link (p l : Nat) (f : LedgerSt → LedgerSt) (l0 : LinkId) : (s.modLedger p l f).link l0 = s.link l0 := by simp only [State.link, State.modLedger_links]
@[simp] theorem State.modLedger_ml (p l : Nat) (f : LedgerSt → LedgerSt) (k0 : Nat) : (s.modLedger p l f).ml k0 = s.ml k0 := by simp only [State.ml, State.modLedger_mls]
@[simp] theorem State.modLedger_chan (p l : Nat) (f : LedgerSt → LedgerSt) (c0 : Nat) : (s.modLedger p l f).chan c0 = s.chan c0 := by simp only [State.chan, State.modLedger_chans]
@[simp] theorem State.modLedger_ctl (p l : Nat) (f : LedgerSt → LedgerSt) (p0 : Nat) : (s.modLedger p l f).ctl p0 = s.ctl p0 := by simp only [State.ctl, State.modLedger_ctls]
@[simp] theorem State.modLedger_acc (p l : Nat) (f : LedgerSt → LedgerSt) (c0 : Nat) : (s.modLedger p l f).acc c0 = s.acc c0 := by simp only [State.acc, State.modLedger_accs]
@[simp] theorem State.modLedger_pd (p l : Nat) (f : LedgerSt → LedgerSt) (d0 : Nat) : (s.modLedger p l f).pd d0 = s.pd d0 := by simp only [State.pd, State.modLedger_domains]
@[simp] theorem State.modLedger_word (p l : Nat) (f : LedgerSt → LedgerSt) (a0 u0 w0 : Nat) : (s.modLedger p l f).word a0 u0 w0 = s.word a0 u0 w0 := by simp only [State.word, State.modLedger_arrays]
@[simp] theorem State.modLedger_memberOf (p l : Nat) (f : LedgerSt → LedgerSt) (n0 : Nat) : (s.modLedger p l f).memberOf n0 = s.memberOf n0 := by simp only [State.memberOf, State.modLedger_inForce]
@[simp] theorem State.modLedger_dead (p l : Nat) (f : LedgerSt → LedgerSt) : (s.modLedger p l f).dead = s.dead := by simp only [State.dead, State.modLedger_mode, State.modLedger_trans]

/-! modAcc changes `accs` alone. -/

@[simp] theorem State.modAcc_pending (c : Nat) (f : AccSt → AccSt) : (s.modAcc c f).pending = s.pending := by cases s; rfl
@[simp] theorem State.modAcc_sent (c : Nat) (f : AccSt → AccSt) : (s.modAcc c f).sent = s.sent := by cases s; rfl
@[simp] theorem State.modAcc_freeCtr (c : Nat) (f : AccSt → AccSt) : (s.modAcc c f).freeCtr = s.freeCtr := by cases s; rfl
@[simp] theorem State.modAcc_mode (c : Nat) (f : AccSt → AccSt) : (s.modAcc c f).mode = s.mode := by cases s; rfl
@[simp] theorem State.modAcc_trans (c : Nat) (f : AccSt → AccSt) : (s.modAcc c f).trans = s.trans := by cases s; rfl
@[simp] theorem State.modAcc_transStart (c : Nat) (f : AccSt → AccSt) : (s.modAcc c f).transStart = s.transStart := by cases s; rfl
@[simp] theorem State.modAcc_domains (c : Nat) (f : AccSt → AccSt) : (s.modAcc c f).domains = s.domains := by cases s; rfl
@[simp] theorem State.modAcc_deviceTime (c : Nat) (f : AccSt → AccSt) : (s.modAcc c f).deviceTime = s.deviceTime := by cases s; rfl
@[simp] theorem State.modAcc_nstby (c : Nat) (f : AccSt → AccSt) : (s.modAcc c f).nstby = s.nstby := by cases s; rfl
@[simp] theorem State.modAcc_presA (c : Nat) (f : AccSt → AccSt) : (s.modAcc c f).presA = s.presA := by cases s; rfl
@[simp] theorem State.modAcc_presB (c : Nat) (f : AccSt → AccSt) : (s.modAcc c f).presB = s.presB := by cases s; rfl
@[simp] theorem State.modAcc_presLatched (c : Nat) (f : AccSt → AccSt) : (s.modAcc c f).presLatched = s.presLatched := by cases s; rfl
@[simp] theorem State.modAcc_presFault (c : Nat) (f : AccSt → AccSt) : (s.modAcc c f).presFault = s.presFault := by cases s; rfl
@[simp] theorem State.modAcc_irqPins (c : Nat) (f : AccSt → AccSt) : (s.modAcc c f).irqPins = s.irqPins := by cases s; rfl
@[simp] theorem State.modAcc_parkRdy (c : Nat) (f : AccSt → AccSt) : (s.modAcc c f).parkRdy = s.parkRdy := by cases s; rfl
@[simp] theorem State.modAcc_nfaultLow (c : Nat) (f : AccSt → AccSt) : (s.modAcc c f).nfaultLow = s.nfaultLow := by cases s; rfl
@[simp] theorem State.modAcc_viom (c : Nat) (f : AccSt → AccSt) : (s.modAcc c f).viom = s.viom := by cases s; rfl
@[simp] theorem State.modAcc_vnvm (c : Nat) (f : AccSt → AccSt) : (s.modAcc c f).vnvm = s.vnvm := by cases s; rfl
@[simp] theorem State.modAcc_drained (c : Nat) (f : AccSt → AccSt) : (s.modAcc c f).drained = s.drained := by cases s; rfl
@[simp] theorem State.modAcc_fatalKept (c : Nat) (f : AccSt → AccSt) : (s.modAcc c f).fatalKept = s.fatalKept := by cases s; rfl
@[simp] theorem State.modAcc_linkWaited (c : Nat) (f : AccSt → AccSt) : (s.modAcc c f).linkWaited = s.linkWaited := by cases s; rfl
@[simp] theorem State.modAcc_tbState (c : Nat) (f : AccSt → AccSt) : (s.modAcc c f).tbState = s.tbState := by cases s; rfl
@[simp] theorem State.modAcc_clkTrimmed (c : Nat) (f : AccSt → AccSt) : (s.modAcc c f).clkTrimmed = s.clkTrimmed := by cases s; rfl
@[simp] theorem State.modAcc_missAll (c : Nat) (f : AccSt → AccSt) : (s.modAcc c f).missAll = s.missAll := by cases s; rfl
@[simp] theorem State.modAcc_hot (c : Nat) (f : AccSt → AccSt) : (s.modAcc c f).hot = s.hot := by cases s; rfl
@[simp] theorem State.modAcc_warned (c : Nat) (f : AccSt → AccSt) : (s.modAcc c f).warned = s.warned := by cases s; rfl
@[simp] theorem State.modAcc_nodeId (c : Nat) (f : AccSt → AccSt) : (s.modAcc c f).nodeId = s.nodeId := by cases s; rfl
@[simp] theorem State.modAcc_plcaOk (c : Nat) (f : AccSt → AccSt) : (s.modAcc c f).plcaOk = s.plcaOk := by cases s; rfl
@[simp] theorem State.modAcc_plcaOn (c : Nat) (f : AccSt → AccSt) : (s.modAcc c f).plcaOn = s.plcaOn := by cases s; rfl
@[simp] theorem State.modAcc_plcaNodes (c : Nat) (f : AccSt → AccSt) : (s.modAcc c f).plcaNodes = s.plcaNodes := by cases s; rfl
@[simp] theorem State.modAcc_plcaTimer (c : Nat) (f : AccSt → AccSt) : (s.modAcc c f).plcaTimer = s.plcaTimer := by cases s; rfl
@[simp] theorem State.modAcc_objs (c : Nat) (f : AccSt → AccSt) : (s.modAcc c f).objs = s.objs := by cases s; rfl
@[simp] theorem State.modAcc_staged (c : Nat) (f : AccSt → AccSt) : (s.modAcc c f).staged = s.staged := by cases s; rfl
@[simp] theorem State.modAcc_oldBound (c : Nat) (f : AccSt → AccSt) : (s.modAcc c f).oldBound = s.oldBound := by cases s; rfl
@[simp] theorem State.modAcc_inForce (c : Nat) (f : AccSt → AccSt) : (s.modAcc c f).inForce = s.inForce := by cases s; rfl
@[simp] theorem State.modAcc_epoch (c : Nat) (f : AccSt → AccSt) : (s.modAcc c f).epoch = s.epoch := by cases s; rfl
@[simp] theorem State.modAcc_commitState (c : Nat) (f : AccSt → AccSt) : (s.modAcc c f).commitState = s.commitState := by cases s; rfl
@[simp] theorem State.modAcc_commitPending (c : Nat) (f : AccSt → AccSt) : (s.modAcc c f).commitPending = s.commitPending := by cases s; rfl
@[simp] theorem State.modAcc_arrays (c : Nat) (f : AccSt → AccSt) : (s.modAcc c f).arrays = s.arrays := by cases s; rfl
@[simp] theorem State.modAcc_doomed (c : Nat) (f : AccSt → AccSt) : (s.modAcc c f).doomed = s.doomed := by cases s; rfl
@[simp] theorem State.modAcc_lostEntries (c : Nat) (f : AccSt → AccSt) : (s.modAcc c f).lostEntries = s.lostEntries := by cases s; rfl
@[simp] theorem State.modAcc_links (c : Nat) (f : AccSt → AccSt) : (s.modAcc c f).links = s.links := by cases s; rfl
@[simp] theorem State.modAcc_ports (c : Nat) (f : AccSt → AccSt) : (s.modAcc c f).ports = s.ports := by cases s; rfl
@[simp] theorem State.modAcc_consoles (c : Nat) (f : AccSt → AccSt) : (s.modAcc c f).consoles = s.consoles := by cases s; rfl
@[simp] theorem State.modAcc_bucketMap (c : Nat) (f : AccSt → AccSt) : (s.modAcc c f).bucketMap = s.bucketMap := by cases s; rfl
@[simp] theorem State.modAcc_moving (c : Nat) (f : AccSt → AccSt) : (s.modAcc c f).moving = s.moving := by cases s; rfl
@[simp] theorem State.modAcc_txns (c : Nat) (f : AccSt → AccSt) : (s.modAcc c f).txns = s.txns := by cases s; rfl
@[simp] theorem State.modAcc_nextTxn (c : Nat) (f : AccSt → AccSt) : (s.modAcc c f).nextTxn = s.nextTxn := by cases s; rfl
@[simp] theorem State.modAcc_credits (c : Nat) (f : AccSt → AccSt) : (s.modAcc c f).credits = s.credits := by cases s; rfl
@[simp] theorem State.modAcc_mls (c : Nat) (f : AccSt → AccSt) : (s.modAcc c f).mls = s.mls := by cases s; rfl
@[simp] theorem State.modAcc_chans (c : Nat) (f : AccSt → AccSt) : (s.modAcc c f).chans = s.chans := by cases s; rfl
@[simp] theorem State.modAcc_chansUsed (c : Nat) (f : AccSt → AccSt) : (s.modAcc c f).chansUsed = s.chansUsed := by cases s; rfl
@[simp] theorem State.modAcc_chipErrs (c : Nat) (f : AccSt → AccSt) : (s.modAcc c f).chipErrs = s.chipErrs := by cases s; rfl
@[simp] theorem State.modAcc_wayErrs (c : Nat) (f : AccSt → AccSt) : (s.modAcc c f).wayErrs = s.wayErrs := by cases s; rfl
@[simp] theorem State.modAcc_ctls (c : Nat) (f : AccSt → AccSt) : (s.modAcc c f).ctls = s.ctls := by cases s; rfl
@[simp] theorem State.modAcc_ledgers (c : Nat) (f : AccSt → AccSt) : (s.modAcc c f).ledgers = s.ledgers := by cases s; rfl
@[simp] theorem State.modAcc_evinLevel (c : Nat) (f : AccSt → AccSt) : (s.modAcc c f).evinLevel = s.evinLevel := by cases s; rfl
@[simp] theorem State.modAcc_evinAsserted (c : Nat) (f : AccSt → AccSt) : (s.modAcc c f).evinAsserted = s.evinAsserted := by cases s; rfl
@[simp] theorem State.modAcc_job (c : Nat) (f : AccSt → AccSt) : (s.modAcc c f).job = s.job := by cases s; rfl
@[simp] theorem State.modAcc_scrub (c : Nat) (f : AccSt → AccSt) : (s.modAcc c f).scrub = s.scrub := by cases s; rfl
@[simp] theorem State.modAcc_ceArm (c : Nat) (f : AccSt → AccSt) : (s.modAcc c f).ceArm = s.ceArm := by cases s; rfl
@[simp] theorem State.modAcc_ceUnlogArm (c : Nat) (f : AccSt → AccSt) : (s.modAcc c f).ceUnlogArm = s.ceUnlogArm := by cases s; rfl
@[simp] theorem State.modAcc_patrolDc (c : Nat) (f : AccSt → AccSt) : (s.modAcc c f).patrolDc = s.patrolDc := by cases s; rfl
@[simp] theorem State.modAcc_patrolTag (c : Nat) (f : AccSt → AccSt) : (s.modAcc c f).patrolTag = s.patrolTag := by cases s; rfl
@[simp] theorem State.modAcc_patrolCat (c : Nat) (f : AccSt → AccSt) : (s.modAcc c f).patrolCat = s.patrolCat := by cases s; rfl
@[simp] theorem State.modAcc_resets (c : Nat) (f : AccSt → AccSt) : (s.modAcc c f).resets = s.resets := by cases s; rfl
@[simp] theorem State.modAcc_tcInval (c : Nat) (f : AccSt → AccSt) : (s.modAcc c f).tcInval = s.tcInval := by cases s; rfl
@[simp] theorem State.modAcc_due (c : Nat) (f : AccSt → AccSt) : (s.modAcc c f).due = s.due := by cases s; rfl
@[simp] theorem State.modAcc_pair (c : Nat) (f : AccSt → AccSt) : (s.modAcc c f).pair = s.pair := by cases s; rfl
@[simp] theorem State.modAcc_homeNow (c : Nat) (f : AccSt → AccSt) : (s.modAcc c f).homeNow = s.homeNow := by cases s; rfl
@[simp] theorem State.modAcc_jop (c : Nat) (f : AccSt → AccSt) : (s.modAcc c f).jop = s.jop := by cases s; rfl
@[simp] theorem State.modAcc_nvm (c : Nat) (f : AccSt → AccSt) : (s.modAcc c f).nvm = s.nvm := by cases s; rfl
@[simp] theorem State.modAcc_obj (c : Nat) (f : AccSt → AccSt) (k0 : Nat) : (s.modAcc c f).obj k0 = s.obj k0 := by simp only [State.obj, State.modAcc_objs]
@[simp] theorem State.modAcc_port (c : Nat) (f : AccSt → AccSt) (n0 : Nat) : (s.modAcc c f).port n0 = s.port n0 := by simp only [State.port, State.modAcc_ports]
@[simp] theorem State.modAcc_link (c : Nat) (f : AccSt → AccSt) (l0 : LinkId) : (s.modAcc c f).link l0 = s.link l0 := by simp only [State.link, State.modAcc_links]
@[simp] theorem State.modAcc_ml (c : Nat) (f : AccSt → AccSt) (k0 : Nat) : (s.modAcc c f).ml k0 = s.ml k0 := by simp only [State.ml, State.modAcc_mls]
@[simp] theorem State.modAcc_chan (c : Nat) (f : AccSt → AccSt) (c0 : Nat) : (s.modAcc c f).chan c0 = s.chan c0 := by simp only [State.chan, State.modAcc_chans]
@[simp] theorem State.modAcc_ctl (c : Nat) (f : AccSt → AccSt) (p0 : Nat) : (s.modAcc c f).ctl p0 = s.ctl p0 := by simp only [State.ctl, State.modAcc_ctls]
@[simp] theorem State.modAcc_ledger (c : Nat) (f : AccSt → AccSt) (p0 i0 : Nat) : (s.modAcc c f).ledger p0 i0 = s.ledger p0 i0 := by simp only [State.ledger, State.modAcc_ledgers]
@[simp] theorem State.modAcc_pd (c : Nat) (f : AccSt → AccSt) (d0 : Nat) : (s.modAcc c f).pd d0 = s.pd d0 := by simp only [State.pd, State.modAcc_domains]
@[simp] theorem State.modAcc_word (c : Nat) (f : AccSt → AccSt) (a0 u0 w0 : Nat) : (s.modAcc c f).word a0 u0 w0 = s.word a0 u0 w0 := by simp only [State.word, State.modAcc_arrays]
@[simp] theorem State.modAcc_memberOf (c : Nat) (f : AccSt → AccSt) (n0 : Nat) : (s.modAcc c f).memberOf n0 = s.memberOf n0 := by simp only [State.memberOf, State.modAcc_inForce]
@[simp] theorem State.modAcc_dead (c : Nat) (f : AccSt → AccSt) : (s.modAcc c f).dead = s.dead := by simp only [State.dead, State.modAcc_mode, State.modAcc_trans]

/-! setRaw changes `arrays` alone. -/

@[simp] theorem State.setRaw_pending (a u w : Nat) (v : Stored) : (s.setRaw a u w v).pending = s.pending := by cases s; rfl
@[simp] theorem State.setRaw_sent (a u w : Nat) (v : Stored) : (s.setRaw a u w v).sent = s.sent := by cases s; rfl
@[simp] theorem State.setRaw_freeCtr (a u w : Nat) (v : Stored) : (s.setRaw a u w v).freeCtr = s.freeCtr := by cases s; rfl
@[simp] theorem State.setRaw_mode (a u w : Nat) (v : Stored) : (s.setRaw a u w v).mode = s.mode := by cases s; rfl
@[simp] theorem State.setRaw_trans (a u w : Nat) (v : Stored) : (s.setRaw a u w v).trans = s.trans := by cases s; rfl
@[simp] theorem State.setRaw_transStart (a u w : Nat) (v : Stored) : (s.setRaw a u w v).transStart = s.transStart := by cases s; rfl
@[simp] theorem State.setRaw_domains (a u w : Nat) (v : Stored) : (s.setRaw a u w v).domains = s.domains := by cases s; rfl
@[simp] theorem State.setRaw_deviceTime (a u w : Nat) (v : Stored) : (s.setRaw a u w v).deviceTime = s.deviceTime := by cases s; rfl
@[simp] theorem State.setRaw_nstby (a u w : Nat) (v : Stored) : (s.setRaw a u w v).nstby = s.nstby := by cases s; rfl
@[simp] theorem State.setRaw_presA (a u w : Nat) (v : Stored) : (s.setRaw a u w v).presA = s.presA := by cases s; rfl
@[simp] theorem State.setRaw_presB (a u w : Nat) (v : Stored) : (s.setRaw a u w v).presB = s.presB := by cases s; rfl
@[simp] theorem State.setRaw_presLatched (a u w : Nat) (v : Stored) : (s.setRaw a u w v).presLatched = s.presLatched := by cases s; rfl
@[simp] theorem State.setRaw_presFault (a u w : Nat) (v : Stored) : (s.setRaw a u w v).presFault = s.presFault := by cases s; rfl
@[simp] theorem State.setRaw_irqPins (a u w : Nat) (v : Stored) : (s.setRaw a u w v).irqPins = s.irqPins := by cases s; rfl
@[simp] theorem State.setRaw_parkRdy (a u w : Nat) (v : Stored) : (s.setRaw a u w v).parkRdy = s.parkRdy := by cases s; rfl
@[simp] theorem State.setRaw_nfaultLow (a u w : Nat) (v : Stored) : (s.setRaw a u w v).nfaultLow = s.nfaultLow := by cases s; rfl
@[simp] theorem State.setRaw_viom (a u w : Nat) (v : Stored) : (s.setRaw a u w v).viom = s.viom := by cases s; rfl
@[simp] theorem State.setRaw_vnvm (a u w : Nat) (v : Stored) : (s.setRaw a u w v).vnvm = s.vnvm := by cases s; rfl
@[simp] theorem State.setRaw_drained (a u w : Nat) (v : Stored) : (s.setRaw a u w v).drained = s.drained := by cases s; rfl
@[simp] theorem State.setRaw_fatalKept (a u w : Nat) (v : Stored) : (s.setRaw a u w v).fatalKept = s.fatalKept := by cases s; rfl
@[simp] theorem State.setRaw_linkWaited (a u w : Nat) (v : Stored) : (s.setRaw a u w v).linkWaited = s.linkWaited := by cases s; rfl
@[simp] theorem State.setRaw_tbState (a u w : Nat) (v : Stored) : (s.setRaw a u w v).tbState = s.tbState := by cases s; rfl
@[simp] theorem State.setRaw_clkTrimmed (a u w : Nat) (v : Stored) : (s.setRaw a u w v).clkTrimmed = s.clkTrimmed := by cases s; rfl
@[simp] theorem State.setRaw_missAll (a u w : Nat) (v : Stored) : (s.setRaw a u w v).missAll = s.missAll := by cases s; rfl
@[simp] theorem State.setRaw_hot (a u w : Nat) (v : Stored) : (s.setRaw a u w v).hot = s.hot := by cases s; rfl
@[simp] theorem State.setRaw_warned (a u w : Nat) (v : Stored) : (s.setRaw a u w v).warned = s.warned := by cases s; rfl
@[simp] theorem State.setRaw_nodeId (a u w : Nat) (v : Stored) : (s.setRaw a u w v).nodeId = s.nodeId := by cases s; rfl
@[simp] theorem State.setRaw_plcaOk (a u w : Nat) (v : Stored) : (s.setRaw a u w v).plcaOk = s.plcaOk := by cases s; rfl
@[simp] theorem State.setRaw_plcaOn (a u w : Nat) (v : Stored) : (s.setRaw a u w v).plcaOn = s.plcaOn := by cases s; rfl
@[simp] theorem State.setRaw_plcaNodes (a u w : Nat) (v : Stored) : (s.setRaw a u w v).plcaNodes = s.plcaNodes := by cases s; rfl
@[simp] theorem State.setRaw_plcaTimer (a u w : Nat) (v : Stored) : (s.setRaw a u w v).plcaTimer = s.plcaTimer := by cases s; rfl
@[simp] theorem State.setRaw_objs (a u w : Nat) (v : Stored) : (s.setRaw a u w v).objs = s.objs := by cases s; rfl
@[simp] theorem State.setRaw_staged (a u w : Nat) (v : Stored) : (s.setRaw a u w v).staged = s.staged := by cases s; rfl
@[simp] theorem State.setRaw_oldBound (a u w : Nat) (v : Stored) : (s.setRaw a u w v).oldBound = s.oldBound := by cases s; rfl
@[simp] theorem State.setRaw_inForce (a u w : Nat) (v : Stored) : (s.setRaw a u w v).inForce = s.inForce := by cases s; rfl
@[simp] theorem State.setRaw_epoch (a u w : Nat) (v : Stored) : (s.setRaw a u w v).epoch = s.epoch := by cases s; rfl
@[simp] theorem State.setRaw_commitState (a u w : Nat) (v : Stored) : (s.setRaw a u w v).commitState = s.commitState := by cases s; rfl
@[simp] theorem State.setRaw_commitPending (a u w : Nat) (v : Stored) : (s.setRaw a u w v).commitPending = s.commitPending := by cases s; rfl
@[simp] theorem State.setRaw_doomed (a u w : Nat) (v : Stored) : (s.setRaw a u w v).doomed = s.doomed := by cases s; rfl
@[simp] theorem State.setRaw_lostEntries (a u w : Nat) (v : Stored) : (s.setRaw a u w v).lostEntries = s.lostEntries := by cases s; rfl
@[simp] theorem State.setRaw_links (a u w : Nat) (v : Stored) : (s.setRaw a u w v).links = s.links := by cases s; rfl
@[simp] theorem State.setRaw_ports (a u w : Nat) (v : Stored) : (s.setRaw a u w v).ports = s.ports := by cases s; rfl
@[simp] theorem State.setRaw_consoles (a u w : Nat) (v : Stored) : (s.setRaw a u w v).consoles = s.consoles := by cases s; rfl
@[simp] theorem State.setRaw_bucketMap (a u w : Nat) (v : Stored) : (s.setRaw a u w v).bucketMap = s.bucketMap := by cases s; rfl
@[simp] theorem State.setRaw_moving (a u w : Nat) (v : Stored) : (s.setRaw a u w v).moving = s.moving := by cases s; rfl
@[simp] theorem State.setRaw_txns (a u w : Nat) (v : Stored) : (s.setRaw a u w v).txns = s.txns := by cases s; rfl
@[simp] theorem State.setRaw_nextTxn (a u w : Nat) (v : Stored) : (s.setRaw a u w v).nextTxn = s.nextTxn := by cases s; rfl
@[simp] theorem State.setRaw_credits (a u w : Nat) (v : Stored) : (s.setRaw a u w v).credits = s.credits := by cases s; rfl
@[simp] theorem State.setRaw_mls (a u w : Nat) (v : Stored) : (s.setRaw a u w v).mls = s.mls := by cases s; rfl
@[simp] theorem State.setRaw_chans (a u w : Nat) (v : Stored) : (s.setRaw a u w v).chans = s.chans := by cases s; rfl
@[simp] theorem State.setRaw_chansUsed (a u w : Nat) (v : Stored) : (s.setRaw a u w v).chansUsed = s.chansUsed := by cases s; rfl
@[simp] theorem State.setRaw_chipErrs (a u w : Nat) (v : Stored) : (s.setRaw a u w v).chipErrs = s.chipErrs := by cases s; rfl
@[simp] theorem State.setRaw_wayErrs (a u w : Nat) (v : Stored) : (s.setRaw a u w v).wayErrs = s.wayErrs := by cases s; rfl
@[simp] theorem State.setRaw_ctls (a u w : Nat) (v : Stored) : (s.setRaw a u w v).ctls = s.ctls := by cases s; rfl
@[simp] theorem State.setRaw_ledgers (a u w : Nat) (v : Stored) : (s.setRaw a u w v).ledgers = s.ledgers := by cases s; rfl
@[simp] theorem State.setRaw_evinLevel (a u w : Nat) (v : Stored) : (s.setRaw a u w v).evinLevel = s.evinLevel := by cases s; rfl
@[simp] theorem State.setRaw_evinAsserted (a u w : Nat) (v : Stored) : (s.setRaw a u w v).evinAsserted = s.evinAsserted := by cases s; rfl
@[simp] theorem State.setRaw_accs (a u w : Nat) (v : Stored) : (s.setRaw a u w v).accs = s.accs := by cases s; rfl
@[simp] theorem State.setRaw_job (a u w : Nat) (v : Stored) : (s.setRaw a u w v).job = s.job := by cases s; rfl
@[simp] theorem State.setRaw_scrub (a u w : Nat) (v : Stored) : (s.setRaw a u w v).scrub = s.scrub := by cases s; rfl
@[simp] theorem State.setRaw_ceArm (a u w : Nat) (v : Stored) : (s.setRaw a u w v).ceArm = s.ceArm := by cases s; rfl
@[simp] theorem State.setRaw_ceUnlogArm (a u w : Nat) (v : Stored) : (s.setRaw a u w v).ceUnlogArm = s.ceUnlogArm := by cases s; rfl
@[simp] theorem State.setRaw_patrolDc (a u w : Nat) (v : Stored) : (s.setRaw a u w v).patrolDc = s.patrolDc := by cases s; rfl
@[simp] theorem State.setRaw_patrolTag (a u w : Nat) (v : Stored) : (s.setRaw a u w v).patrolTag = s.patrolTag := by cases s; rfl
@[simp] theorem State.setRaw_patrolCat (a u w : Nat) (v : Stored) : (s.setRaw a u w v).patrolCat = s.patrolCat := by cases s; rfl
@[simp] theorem State.setRaw_resets (a u w : Nat) (v : Stored) : (s.setRaw a u w v).resets = s.resets := by cases s; rfl
@[simp] theorem State.setRaw_tcInval (a u w : Nat) (v : Stored) : (s.setRaw a u w v).tcInval = s.tcInval := by cases s; rfl
@[simp] theorem State.setRaw_due (a u w : Nat) (v : Stored) : (s.setRaw a u w v).due = s.due := by cases s; rfl
@[simp] theorem State.setRaw_pair (a u w : Nat) (v : Stored) : (s.setRaw a u w v).pair = s.pair := by cases s; rfl
@[simp] theorem State.setRaw_homeNow (a u w : Nat) (v : Stored) : (s.setRaw a u w v).homeNow = s.homeNow := by cases s; rfl
@[simp] theorem State.setRaw_jop (a u w : Nat) (v : Stored) : (s.setRaw a u w v).jop = s.jop := by cases s; rfl
@[simp] theorem State.setRaw_nvm (a u w : Nat) (v : Stored) : (s.setRaw a u w v).nvm = s.nvm := by cases s; rfl
@[simp] theorem State.setRaw_obj (a u w : Nat) (v : Stored) (k0 : Nat) : (s.setRaw a u w v).obj k0 = s.obj k0 := by simp only [State.obj, State.setRaw_objs]
@[simp] theorem State.setRaw_port (a u w : Nat) (v : Stored) (n0 : Nat) : (s.setRaw a u w v).port n0 = s.port n0 := by simp only [State.port, State.setRaw_ports]
@[simp] theorem State.setRaw_link (a u w : Nat) (v : Stored) (l0 : LinkId) : (s.setRaw a u w v).link l0 = s.link l0 := by simp only [State.link, State.setRaw_links]
@[simp] theorem State.setRaw_ml (a u w : Nat) (v : Stored) (k0 : Nat) : (s.setRaw a u w v).ml k0 = s.ml k0 := by simp only [State.ml, State.setRaw_mls]
@[simp] theorem State.setRaw_chan (a u w : Nat) (v : Stored) (c0 : Nat) : (s.setRaw a u w v).chan c0 = s.chan c0 := by simp only [State.chan, State.setRaw_chans]
@[simp] theorem State.setRaw_ctl (a u w : Nat) (v : Stored) (p0 : Nat) : (s.setRaw a u w v).ctl p0 = s.ctl p0 := by simp only [State.ctl, State.setRaw_ctls]
@[simp] theorem State.setRaw_ledger (a u w : Nat) (v : Stored) (p0 i0 : Nat) : (s.setRaw a u w v).ledger p0 i0 = s.ledger p0 i0 := by simp only [State.ledger, State.setRaw_ledgers]
@[simp] theorem State.setRaw_acc (a u w : Nat) (v : Stored) (c0 : Nat) : (s.setRaw a u w v).acc c0 = s.acc c0 := by simp only [State.acc, State.setRaw_accs]
@[simp] theorem State.setRaw_pd (a u w : Nat) (v : Stored) (d0 : Nat) : (s.setRaw a u w v).pd d0 = s.pd d0 := by simp only [State.pd, State.setRaw_domains]
@[simp] theorem State.setRaw_memberOf (a u w : Nat) (v : Stored) (n0 : Nat) : (s.setRaw a u w v).memberOf n0 = s.memberOf n0 := by simp only [State.memberOf, State.setRaw_inForce]
@[simp] theorem State.setRaw_dead (a u w : Nat) (v : Stored) : (s.setRaw a u w v).dead = s.dead := by simp only [State.dead, State.setRaw_mode, State.setRaw_trans]

/-! emit changes `sent` alone. -/

@[simp] theorem State.emit_pending (o : Out) : (s.emit o).pending = s.pending := by cases s; rfl
@[simp] theorem State.emit_freeCtr (o : Out) : (s.emit o).freeCtr = s.freeCtr := by cases s; rfl
@[simp] theorem State.emit_mode (o : Out) : (s.emit o).mode = s.mode := by cases s; rfl
@[simp] theorem State.emit_trans (o : Out) : (s.emit o).trans = s.trans := by cases s; rfl
@[simp] theorem State.emit_transStart (o : Out) : (s.emit o).transStart = s.transStart := by cases s; rfl
@[simp] theorem State.emit_domains (o : Out) : (s.emit o).domains = s.domains := by cases s; rfl
@[simp] theorem State.emit_deviceTime (o : Out) : (s.emit o).deviceTime = s.deviceTime := by cases s; rfl
@[simp] theorem State.emit_nstby (o : Out) : (s.emit o).nstby = s.nstby := by cases s; rfl
@[simp] theorem State.emit_presA (o : Out) : (s.emit o).presA = s.presA := by cases s; rfl
@[simp] theorem State.emit_presB (o : Out) : (s.emit o).presB = s.presB := by cases s; rfl
@[simp] theorem State.emit_presLatched (o : Out) : (s.emit o).presLatched = s.presLatched := by cases s; rfl
@[simp] theorem State.emit_presFault (o : Out) : (s.emit o).presFault = s.presFault := by cases s; rfl
@[simp] theorem State.emit_irqPins (o : Out) : (s.emit o).irqPins = s.irqPins := by cases s; rfl
@[simp] theorem State.emit_parkRdy (o : Out) : (s.emit o).parkRdy = s.parkRdy := by cases s; rfl
@[simp] theorem State.emit_nfaultLow (o : Out) : (s.emit o).nfaultLow = s.nfaultLow := by cases s; rfl
@[simp] theorem State.emit_viom (o : Out) : (s.emit o).viom = s.viom := by cases s; rfl
@[simp] theorem State.emit_vnvm (o : Out) : (s.emit o).vnvm = s.vnvm := by cases s; rfl
@[simp] theorem State.emit_drained (o : Out) : (s.emit o).drained = s.drained := by cases s; rfl
@[simp] theorem State.emit_fatalKept (o : Out) : (s.emit o).fatalKept = s.fatalKept := by cases s; rfl
@[simp] theorem State.emit_linkWaited (o : Out) : (s.emit o).linkWaited = s.linkWaited := by cases s; rfl
@[simp] theorem State.emit_tbState (o : Out) : (s.emit o).tbState = s.tbState := by cases s; rfl
@[simp] theorem State.emit_clkTrimmed (o : Out) : (s.emit o).clkTrimmed = s.clkTrimmed := by cases s; rfl
@[simp] theorem State.emit_missAll (o : Out) : (s.emit o).missAll = s.missAll := by cases s; rfl
@[simp] theorem State.emit_hot (o : Out) : (s.emit o).hot = s.hot := by cases s; rfl
@[simp] theorem State.emit_warned (o : Out) : (s.emit o).warned = s.warned := by cases s; rfl
@[simp] theorem State.emit_nodeId (o : Out) : (s.emit o).nodeId = s.nodeId := by cases s; rfl
@[simp] theorem State.emit_plcaOk (o : Out) : (s.emit o).plcaOk = s.plcaOk := by cases s; rfl
@[simp] theorem State.emit_plcaOn (o : Out) : (s.emit o).plcaOn = s.plcaOn := by cases s; rfl
@[simp] theorem State.emit_plcaNodes (o : Out) : (s.emit o).plcaNodes = s.plcaNodes := by cases s; rfl
@[simp] theorem State.emit_plcaTimer (o : Out) : (s.emit o).plcaTimer = s.plcaTimer := by cases s; rfl
@[simp] theorem State.emit_objs (o : Out) : (s.emit o).objs = s.objs := by cases s; rfl
@[simp] theorem State.emit_staged (o : Out) : (s.emit o).staged = s.staged := by cases s; rfl
@[simp] theorem State.emit_oldBound (o : Out) : (s.emit o).oldBound = s.oldBound := by cases s; rfl
@[simp] theorem State.emit_inForce (o : Out) : (s.emit o).inForce = s.inForce := by cases s; rfl
@[simp] theorem State.emit_epoch (o : Out) : (s.emit o).epoch = s.epoch := by cases s; rfl
@[simp] theorem State.emit_commitState (o : Out) : (s.emit o).commitState = s.commitState := by cases s; rfl
@[simp] theorem State.emit_commitPending (o : Out) : (s.emit o).commitPending = s.commitPending := by cases s; rfl
@[simp] theorem State.emit_arrays (o : Out) : (s.emit o).arrays = s.arrays := by cases s; rfl
@[simp] theorem State.emit_doomed (o : Out) : (s.emit o).doomed = s.doomed := by cases s; rfl
@[simp] theorem State.emit_lostEntries (o : Out) : (s.emit o).lostEntries = s.lostEntries := by cases s; rfl
@[simp] theorem State.emit_links (o : Out) : (s.emit o).links = s.links := by cases s; rfl
@[simp] theorem State.emit_ports (o : Out) : (s.emit o).ports = s.ports := by cases s; rfl
@[simp] theorem State.emit_consoles (o : Out) : (s.emit o).consoles = s.consoles := by cases s; rfl
@[simp] theorem State.emit_bucketMap (o : Out) : (s.emit o).bucketMap = s.bucketMap := by cases s; rfl
@[simp] theorem State.emit_moving (o : Out) : (s.emit o).moving = s.moving := by cases s; rfl
@[simp] theorem State.emit_txns (o : Out) : (s.emit o).txns = s.txns := by cases s; rfl
@[simp] theorem State.emit_nextTxn (o : Out) : (s.emit o).nextTxn = s.nextTxn := by cases s; rfl
@[simp] theorem State.emit_credits (o : Out) : (s.emit o).credits = s.credits := by cases s; rfl
@[simp] theorem State.emit_mls (o : Out) : (s.emit o).mls = s.mls := by cases s; rfl
@[simp] theorem State.emit_chans (o : Out) : (s.emit o).chans = s.chans := by cases s; rfl
@[simp] theorem State.emit_chansUsed (o : Out) : (s.emit o).chansUsed = s.chansUsed := by cases s; rfl
@[simp] theorem State.emit_chipErrs (o : Out) : (s.emit o).chipErrs = s.chipErrs := by cases s; rfl
@[simp] theorem State.emit_wayErrs (o : Out) : (s.emit o).wayErrs = s.wayErrs := by cases s; rfl
@[simp] theorem State.emit_ctls (o : Out) : (s.emit o).ctls = s.ctls := by cases s; rfl
@[simp] theorem State.emit_ledgers (o : Out) : (s.emit o).ledgers = s.ledgers := by cases s; rfl
@[simp] theorem State.emit_evinLevel (o : Out) : (s.emit o).evinLevel = s.evinLevel := by cases s; rfl
@[simp] theorem State.emit_evinAsserted (o : Out) : (s.emit o).evinAsserted = s.evinAsserted := by cases s; rfl
@[simp] theorem State.emit_accs (o : Out) : (s.emit o).accs = s.accs := by cases s; rfl
@[simp] theorem State.emit_job (o : Out) : (s.emit o).job = s.job := by cases s; rfl
@[simp] theorem State.emit_scrub (o : Out) : (s.emit o).scrub = s.scrub := by cases s; rfl
@[simp] theorem State.emit_ceArm (o : Out) : (s.emit o).ceArm = s.ceArm := by cases s; rfl
@[simp] theorem State.emit_ceUnlogArm (o : Out) : (s.emit o).ceUnlogArm = s.ceUnlogArm := by cases s; rfl
@[simp] theorem State.emit_patrolDc (o : Out) : (s.emit o).patrolDc = s.patrolDc := by cases s; rfl
@[simp] theorem State.emit_patrolTag (o : Out) : (s.emit o).patrolTag = s.patrolTag := by cases s; rfl
@[simp] theorem State.emit_patrolCat (o : Out) : (s.emit o).patrolCat = s.patrolCat := by cases s; rfl
@[simp] theorem State.emit_resets (o : Out) : (s.emit o).resets = s.resets := by cases s; rfl
@[simp] theorem State.emit_tcInval (o : Out) : (s.emit o).tcInval = s.tcInval := by cases s; rfl
@[simp] theorem State.emit_due (o : Out) : (s.emit o).due = s.due := by cases s; rfl
@[simp] theorem State.emit_pair (o : Out) : (s.emit o).pair = s.pair := by cases s; rfl
@[simp] theorem State.emit_homeNow (o : Out) : (s.emit o).homeNow = s.homeNow := by cases s; rfl
@[simp] theorem State.emit_jop (o : Out) : (s.emit o).jop = s.jop := by cases s; rfl
@[simp] theorem State.emit_nvm (o : Out) : (s.emit o).nvm = s.nvm := by cases s; rfl
@[simp] theorem State.emit_obj (o : Out) (k0 : Nat) : (s.emit o).obj k0 = s.obj k0 := by simp only [State.obj, State.emit_objs]
@[simp] theorem State.emit_port (o : Out) (n0 : Nat) : (s.emit o).port n0 = s.port n0 := by simp only [State.port, State.emit_ports]
@[simp] theorem State.emit_link (o : Out) (l0 : LinkId) : (s.emit o).link l0 = s.link l0 := by simp only [State.link, State.emit_links]
@[simp] theorem State.emit_ml (o : Out) (k0 : Nat) : (s.emit o).ml k0 = s.ml k0 := by simp only [State.ml, State.emit_mls]
@[simp] theorem State.emit_chan (o : Out) (c0 : Nat) : (s.emit o).chan c0 = s.chan c0 := by simp only [State.chan, State.emit_chans]
@[simp] theorem State.emit_ctl (o : Out) (p0 : Nat) : (s.emit o).ctl p0 = s.ctl p0 := by simp only [State.ctl, State.emit_ctls]
@[simp] theorem State.emit_ledger (o : Out) (p0 i0 : Nat) : (s.emit o).ledger p0 i0 = s.ledger p0 i0 := by simp only [State.ledger, State.emit_ledgers]
@[simp] theorem State.emit_acc (o : Out) (c0 : Nat) : (s.emit o).acc c0 = s.acc c0 := by simp only [State.acc, State.emit_accs]
@[simp] theorem State.emit_pd (o : Out) (d0 : Nat) : (s.emit o).pd d0 = s.pd d0 := by simp only [State.pd, State.emit_domains]
@[simp] theorem State.emit_word (o : Out) (a0 u0 w0 : Nat) : (s.emit o).word a0 u0 w0 = s.word a0 u0 w0 := by simp only [State.word, State.emit_arrays]
@[simp] theorem State.emit_memberOf (o : Out) (n0 : Nat) : (s.emit o).memberOf n0 = s.memberOf n0 := by simp only [State.memberOf, State.emit_inForce]
@[simp] theorem State.emit_dead (o : Out) : (s.emit o).dead = s.dead := by simp only [State.dead, State.emit_mode, State.emit_trans]

/-! begin changes `sent` alone. -/

@[simp] theorem State.begin_pending : (s.begin).pending = s.pending := by cases s; rfl
@[simp] theorem State.begin_freeCtr : (s.begin).freeCtr = s.freeCtr := by cases s; rfl
@[simp] theorem State.begin_mode : (s.begin).mode = s.mode := by cases s; rfl
@[simp] theorem State.begin_trans : (s.begin).trans = s.trans := by cases s; rfl
@[simp] theorem State.begin_transStart : (s.begin).transStart = s.transStart := by cases s; rfl
@[simp] theorem State.begin_domains : (s.begin).domains = s.domains := by cases s; rfl
@[simp] theorem State.begin_deviceTime : (s.begin).deviceTime = s.deviceTime := by cases s; rfl
@[simp] theorem State.begin_nstby : (s.begin).nstby = s.nstby := by cases s; rfl
@[simp] theorem State.begin_presA : (s.begin).presA = s.presA := by cases s; rfl
@[simp] theorem State.begin_presB : (s.begin).presB = s.presB := by cases s; rfl
@[simp] theorem State.begin_presLatched : (s.begin).presLatched = s.presLatched := by cases s; rfl
@[simp] theorem State.begin_presFault : (s.begin).presFault = s.presFault := by cases s; rfl
@[simp] theorem State.begin_irqPins : (s.begin).irqPins = s.irqPins := by cases s; rfl
@[simp] theorem State.begin_parkRdy : (s.begin).parkRdy = s.parkRdy := by cases s; rfl
@[simp] theorem State.begin_nfaultLow : (s.begin).nfaultLow = s.nfaultLow := by cases s; rfl
@[simp] theorem State.begin_viom : (s.begin).viom = s.viom := by cases s; rfl
@[simp] theorem State.begin_vnvm : (s.begin).vnvm = s.vnvm := by cases s; rfl
@[simp] theorem State.begin_drained : (s.begin).drained = s.drained := by cases s; rfl
@[simp] theorem State.begin_fatalKept : (s.begin).fatalKept = s.fatalKept := by cases s; rfl
@[simp] theorem State.begin_linkWaited : (s.begin).linkWaited = s.linkWaited := by cases s; rfl
@[simp] theorem State.begin_tbState : (s.begin).tbState = s.tbState := by cases s; rfl
@[simp] theorem State.begin_clkTrimmed : (s.begin).clkTrimmed = s.clkTrimmed := by cases s; rfl
@[simp] theorem State.begin_missAll : (s.begin).missAll = s.missAll := by cases s; rfl
@[simp] theorem State.begin_hot : (s.begin).hot = s.hot := by cases s; rfl
@[simp] theorem State.begin_warned : (s.begin).warned = s.warned := by cases s; rfl
@[simp] theorem State.begin_nodeId : (s.begin).nodeId = s.nodeId := by cases s; rfl
@[simp] theorem State.begin_plcaOk : (s.begin).plcaOk = s.plcaOk := by cases s; rfl
@[simp] theorem State.begin_plcaOn : (s.begin).plcaOn = s.plcaOn := by cases s; rfl
@[simp] theorem State.begin_plcaNodes : (s.begin).plcaNodes = s.plcaNodes := by cases s; rfl
@[simp] theorem State.begin_plcaTimer : (s.begin).plcaTimer = s.plcaTimer := by cases s; rfl
@[simp] theorem State.begin_objs : (s.begin).objs = s.objs := by cases s; rfl
@[simp] theorem State.begin_staged : (s.begin).staged = s.staged := by cases s; rfl
@[simp] theorem State.begin_oldBound : (s.begin).oldBound = s.oldBound := by cases s; rfl
@[simp] theorem State.begin_inForce : (s.begin).inForce = s.inForce := by cases s; rfl
@[simp] theorem State.begin_epoch : (s.begin).epoch = s.epoch := by cases s; rfl
@[simp] theorem State.begin_commitState : (s.begin).commitState = s.commitState := by cases s; rfl
@[simp] theorem State.begin_commitPending : (s.begin).commitPending = s.commitPending := by cases s; rfl
@[simp] theorem State.begin_arrays : (s.begin).arrays = s.arrays := by cases s; rfl
@[simp] theorem State.begin_doomed : (s.begin).doomed = s.doomed := by cases s; rfl
@[simp] theorem State.begin_lostEntries : (s.begin).lostEntries = s.lostEntries := by cases s; rfl
@[simp] theorem State.begin_links : (s.begin).links = s.links := by cases s; rfl
@[simp] theorem State.begin_ports : (s.begin).ports = s.ports := by cases s; rfl
@[simp] theorem State.begin_consoles : (s.begin).consoles = s.consoles := by cases s; rfl
@[simp] theorem State.begin_bucketMap : (s.begin).bucketMap = s.bucketMap := by cases s; rfl
@[simp] theorem State.begin_moving : (s.begin).moving = s.moving := by cases s; rfl
@[simp] theorem State.begin_txns : (s.begin).txns = s.txns := by cases s; rfl
@[simp] theorem State.begin_nextTxn : (s.begin).nextTxn = s.nextTxn := by cases s; rfl
@[simp] theorem State.begin_credits : (s.begin).credits = s.credits := by cases s; rfl
@[simp] theorem State.begin_mls : (s.begin).mls = s.mls := by cases s; rfl
@[simp] theorem State.begin_chans : (s.begin).chans = s.chans := by cases s; rfl
@[simp] theorem State.begin_chansUsed : (s.begin).chansUsed = s.chansUsed := by cases s; rfl
@[simp] theorem State.begin_chipErrs : (s.begin).chipErrs = s.chipErrs := by cases s; rfl
@[simp] theorem State.begin_wayErrs : (s.begin).wayErrs = s.wayErrs := by cases s; rfl
@[simp] theorem State.begin_ctls : (s.begin).ctls = s.ctls := by cases s; rfl
@[simp] theorem State.begin_ledgers : (s.begin).ledgers = s.ledgers := by cases s; rfl
@[simp] theorem State.begin_evinLevel : (s.begin).evinLevel = s.evinLevel := by cases s; rfl
@[simp] theorem State.begin_evinAsserted : (s.begin).evinAsserted = s.evinAsserted := by cases s; rfl
@[simp] theorem State.begin_accs : (s.begin).accs = s.accs := by cases s; rfl
@[simp] theorem State.begin_job : (s.begin).job = s.job := by cases s; rfl
@[simp] theorem State.begin_scrub : (s.begin).scrub = s.scrub := by cases s; rfl
@[simp] theorem State.begin_ceArm : (s.begin).ceArm = s.ceArm := by cases s; rfl
@[simp] theorem State.begin_ceUnlogArm : (s.begin).ceUnlogArm = s.ceUnlogArm := by cases s; rfl
@[simp] theorem State.begin_patrolDc : (s.begin).patrolDc = s.patrolDc := by cases s; rfl
@[simp] theorem State.begin_patrolTag : (s.begin).patrolTag = s.patrolTag := by cases s; rfl
@[simp] theorem State.begin_patrolCat : (s.begin).patrolCat = s.patrolCat := by cases s; rfl
@[simp] theorem State.begin_resets : (s.begin).resets = s.resets := by cases s; rfl
@[simp] theorem State.begin_tcInval : (s.begin).tcInval = s.tcInval := by cases s; rfl
@[simp] theorem State.begin_due : (s.begin).due = s.due := by cases s; rfl
@[simp] theorem State.begin_pair : (s.begin).pair = s.pair := by cases s; rfl
@[simp] theorem State.begin_homeNow : (s.begin).homeNow = s.homeNow := by cases s; rfl
@[simp] theorem State.begin_jop : (s.begin).jop = s.jop := by cases s; rfl
@[simp] theorem State.begin_nvm : (s.begin).nvm = s.nvm := by cases s; rfl
@[simp] theorem State.begin_obj (k0 : Nat) : (s.begin).obj k0 = s.obj k0 := by simp only [State.obj, State.begin_objs]
@[simp] theorem State.begin_port (n0 : Nat) : (s.begin).port n0 = s.port n0 := by simp only [State.port, State.begin_ports]
@[simp] theorem State.begin_link (l0 : LinkId) : (s.begin).link l0 = s.link l0 := by simp only [State.link, State.begin_links]
@[simp] theorem State.begin_ml (k0 : Nat) : (s.begin).ml k0 = s.ml k0 := by simp only [State.ml, State.begin_mls]
@[simp] theorem State.begin_chan (c0 : Nat) : (s.begin).chan c0 = s.chan c0 := by simp only [State.chan, State.begin_chans]
@[simp] theorem State.begin_ctl (p0 : Nat) : (s.begin).ctl p0 = s.ctl p0 := by simp only [State.ctl, State.begin_ctls]
@[simp] theorem State.begin_ledger (p0 i0 : Nat) : (s.begin).ledger p0 i0 = s.ledger p0 i0 := by simp only [State.ledger, State.begin_ledgers]
@[simp] theorem State.begin_acc (c0 : Nat) : (s.begin).acc c0 = s.acc c0 := by simp only [State.acc, State.begin_accs]
@[simp] theorem State.begin_pd (d0 : Nat) : (s.begin).pd d0 = s.pd d0 := by simp only [State.pd, State.begin_domains]
@[simp] theorem State.begin_word (a0 u0 w0 : Nat) : (s.begin).word a0 u0 w0 = s.word a0 u0 w0 := by simp only [State.word, State.begin_arrays]
@[simp] theorem State.begin_memberOf (n0 : Nat) : (s.begin).memberOf n0 = s.memberOf n0 := by simp only [State.memberOf, State.begin_inForce]
@[simp] theorem State.begin_dead : (s.begin).dead = s.dead := by simp only [State.dead, State.begin_mode, State.begin_trans]

/-! journal changes `nvm` alone. -/

@[simp] theorem State.journal_pending (key kind : Nat) (src : Src) (hub : Bool) (len old new : Nat) : (s.journal key kind src hub len old new).pending = s.pending := by cases s; rfl
@[simp] theorem State.journal_sent (key kind : Nat) (src : Src) (hub : Bool) (len old new : Nat) : (s.journal key kind src hub len old new).sent = s.sent := by cases s; rfl
@[simp] theorem State.journal_freeCtr (key kind : Nat) (src : Src) (hub : Bool) (len old new : Nat) : (s.journal key kind src hub len old new).freeCtr = s.freeCtr := by cases s; rfl
@[simp] theorem State.journal_mode (key kind : Nat) (src : Src) (hub : Bool) (len old new : Nat) : (s.journal key kind src hub len old new).mode = s.mode := by cases s; rfl
@[simp] theorem State.journal_trans (key kind : Nat) (src : Src) (hub : Bool) (len old new : Nat) : (s.journal key kind src hub len old new).trans = s.trans := by cases s; rfl
@[simp] theorem State.journal_transStart (key kind : Nat) (src : Src) (hub : Bool) (len old new : Nat) : (s.journal key kind src hub len old new).transStart = s.transStart := by cases s; rfl
@[simp] theorem State.journal_domains (key kind : Nat) (src : Src) (hub : Bool) (len old new : Nat) : (s.journal key kind src hub len old new).domains = s.domains := by cases s; rfl
@[simp] theorem State.journal_deviceTime (key kind : Nat) (src : Src) (hub : Bool) (len old new : Nat) : (s.journal key kind src hub len old new).deviceTime = s.deviceTime := by cases s; rfl
@[simp] theorem State.journal_nstby (key kind : Nat) (src : Src) (hub : Bool) (len old new : Nat) : (s.journal key kind src hub len old new).nstby = s.nstby := by cases s; rfl
@[simp] theorem State.journal_presA (key kind : Nat) (src : Src) (hub : Bool) (len old new : Nat) : (s.journal key kind src hub len old new).presA = s.presA := by cases s; rfl
@[simp] theorem State.journal_presB (key kind : Nat) (src : Src) (hub : Bool) (len old new : Nat) : (s.journal key kind src hub len old new).presB = s.presB := by cases s; rfl
@[simp] theorem State.journal_presLatched (key kind : Nat) (src : Src) (hub : Bool) (len old new : Nat) : (s.journal key kind src hub len old new).presLatched = s.presLatched := by cases s; rfl
@[simp] theorem State.journal_presFault (key kind : Nat) (src : Src) (hub : Bool) (len old new : Nat) : (s.journal key kind src hub len old new).presFault = s.presFault := by cases s; rfl
@[simp] theorem State.journal_irqPins (key kind : Nat) (src : Src) (hub : Bool) (len old new : Nat) : (s.journal key kind src hub len old new).irqPins = s.irqPins := by cases s; rfl
@[simp] theorem State.journal_parkRdy (key kind : Nat) (src : Src) (hub : Bool) (len old new : Nat) : (s.journal key kind src hub len old new).parkRdy = s.parkRdy := by cases s; rfl
@[simp] theorem State.journal_nfaultLow (key kind : Nat) (src : Src) (hub : Bool) (len old new : Nat) : (s.journal key kind src hub len old new).nfaultLow = s.nfaultLow := by cases s; rfl
@[simp] theorem State.journal_viom (key kind : Nat) (src : Src) (hub : Bool) (len old new : Nat) : (s.journal key kind src hub len old new).viom = s.viom := by cases s; rfl
@[simp] theorem State.journal_vnvm (key kind : Nat) (src : Src) (hub : Bool) (len old new : Nat) : (s.journal key kind src hub len old new).vnvm = s.vnvm := by cases s; rfl
@[simp] theorem State.journal_drained (key kind : Nat) (src : Src) (hub : Bool) (len old new : Nat) : (s.journal key kind src hub len old new).drained = s.drained := by cases s; rfl
@[simp] theorem State.journal_fatalKept (key kind : Nat) (src : Src) (hub : Bool) (len old new : Nat) : (s.journal key kind src hub len old new).fatalKept = s.fatalKept := by cases s; rfl
@[simp] theorem State.journal_linkWaited (key kind : Nat) (src : Src) (hub : Bool) (len old new : Nat) : (s.journal key kind src hub len old new).linkWaited = s.linkWaited := by cases s; rfl
@[simp] theorem State.journal_tbState (key kind : Nat) (src : Src) (hub : Bool) (len old new : Nat) : (s.journal key kind src hub len old new).tbState = s.tbState := by cases s; rfl
@[simp] theorem State.journal_clkTrimmed (key kind : Nat) (src : Src) (hub : Bool) (len old new : Nat) : (s.journal key kind src hub len old new).clkTrimmed = s.clkTrimmed := by cases s; rfl
@[simp] theorem State.journal_missAll (key kind : Nat) (src : Src) (hub : Bool) (len old new : Nat) : (s.journal key kind src hub len old new).missAll = s.missAll := by cases s; rfl
@[simp] theorem State.journal_hot (key kind : Nat) (src : Src) (hub : Bool) (len old new : Nat) : (s.journal key kind src hub len old new).hot = s.hot := by cases s; rfl
@[simp] theorem State.journal_warned (key kind : Nat) (src : Src) (hub : Bool) (len old new : Nat) : (s.journal key kind src hub len old new).warned = s.warned := by cases s; rfl
@[simp] theorem State.journal_nodeId (key kind : Nat) (src : Src) (hub : Bool) (len old new : Nat) : (s.journal key kind src hub len old new).nodeId = s.nodeId := by cases s; rfl
@[simp] theorem State.journal_plcaOk (key kind : Nat) (src : Src) (hub : Bool) (len old new : Nat) : (s.journal key kind src hub len old new).plcaOk = s.plcaOk := by cases s; rfl
@[simp] theorem State.journal_plcaOn (key kind : Nat) (src : Src) (hub : Bool) (len old new : Nat) : (s.journal key kind src hub len old new).plcaOn = s.plcaOn := by cases s; rfl
@[simp] theorem State.journal_plcaNodes (key kind : Nat) (src : Src) (hub : Bool) (len old new : Nat) : (s.journal key kind src hub len old new).plcaNodes = s.plcaNodes := by cases s; rfl
@[simp] theorem State.journal_plcaTimer (key kind : Nat) (src : Src) (hub : Bool) (len old new : Nat) : (s.journal key kind src hub len old new).plcaTimer = s.plcaTimer := by cases s; rfl
@[simp] theorem State.journal_objs (key kind : Nat) (src : Src) (hub : Bool) (len old new : Nat) : (s.journal key kind src hub len old new).objs = s.objs := by cases s; rfl
@[simp] theorem State.journal_staged (key kind : Nat) (src : Src) (hub : Bool) (len old new : Nat) : (s.journal key kind src hub len old new).staged = s.staged := by cases s; rfl
@[simp] theorem State.journal_oldBound (key kind : Nat) (src : Src) (hub : Bool) (len old new : Nat) : (s.journal key kind src hub len old new).oldBound = s.oldBound := by cases s; rfl
@[simp] theorem State.journal_inForce (key kind : Nat) (src : Src) (hub : Bool) (len old new : Nat) : (s.journal key kind src hub len old new).inForce = s.inForce := by cases s; rfl
@[simp] theorem State.journal_epoch (key kind : Nat) (src : Src) (hub : Bool) (len old new : Nat) : (s.journal key kind src hub len old new).epoch = s.epoch := by cases s; rfl
@[simp] theorem State.journal_commitState (key kind : Nat) (src : Src) (hub : Bool) (len old new : Nat) : (s.journal key kind src hub len old new).commitState = s.commitState := by cases s; rfl
@[simp] theorem State.journal_commitPending (key kind : Nat) (src : Src) (hub : Bool) (len old new : Nat) : (s.journal key kind src hub len old new).commitPending = s.commitPending := by cases s; rfl
@[simp] theorem State.journal_arrays (key kind : Nat) (src : Src) (hub : Bool) (len old new : Nat) : (s.journal key kind src hub len old new).arrays = s.arrays := by cases s; rfl
@[simp] theorem State.journal_doomed (key kind : Nat) (src : Src) (hub : Bool) (len old new : Nat) : (s.journal key kind src hub len old new).doomed = s.doomed := by cases s; rfl
@[simp] theorem State.journal_lostEntries (key kind : Nat) (src : Src) (hub : Bool) (len old new : Nat) : (s.journal key kind src hub len old new).lostEntries = s.lostEntries := by cases s; rfl
@[simp] theorem State.journal_links (key kind : Nat) (src : Src) (hub : Bool) (len old new : Nat) : (s.journal key kind src hub len old new).links = s.links := by cases s; rfl
@[simp] theorem State.journal_ports (key kind : Nat) (src : Src) (hub : Bool) (len old new : Nat) : (s.journal key kind src hub len old new).ports = s.ports := by cases s; rfl
@[simp] theorem State.journal_consoles (key kind : Nat) (src : Src) (hub : Bool) (len old new : Nat) : (s.journal key kind src hub len old new).consoles = s.consoles := by cases s; rfl
@[simp] theorem State.journal_bucketMap (key kind : Nat) (src : Src) (hub : Bool) (len old new : Nat) : (s.journal key kind src hub len old new).bucketMap = s.bucketMap := by cases s; rfl
@[simp] theorem State.journal_moving (key kind : Nat) (src : Src) (hub : Bool) (len old new : Nat) : (s.journal key kind src hub len old new).moving = s.moving := by cases s; rfl
@[simp] theorem State.journal_txns (key kind : Nat) (src : Src) (hub : Bool) (len old new : Nat) : (s.journal key kind src hub len old new).txns = s.txns := by cases s; rfl
@[simp] theorem State.journal_nextTxn (key kind : Nat) (src : Src) (hub : Bool) (len old new : Nat) : (s.journal key kind src hub len old new).nextTxn = s.nextTxn := by cases s; rfl
@[simp] theorem State.journal_credits (key kind : Nat) (src : Src) (hub : Bool) (len old new : Nat) : (s.journal key kind src hub len old new).credits = s.credits := by cases s; rfl
@[simp] theorem State.journal_mls (key kind : Nat) (src : Src) (hub : Bool) (len old new : Nat) : (s.journal key kind src hub len old new).mls = s.mls := by cases s; rfl
@[simp] theorem State.journal_chans (key kind : Nat) (src : Src) (hub : Bool) (len old new : Nat) : (s.journal key kind src hub len old new).chans = s.chans := by cases s; rfl
@[simp] theorem State.journal_chansUsed (key kind : Nat) (src : Src) (hub : Bool) (len old new : Nat) : (s.journal key kind src hub len old new).chansUsed = s.chansUsed := by cases s; rfl
@[simp] theorem State.journal_chipErrs (key kind : Nat) (src : Src) (hub : Bool) (len old new : Nat) : (s.journal key kind src hub len old new).chipErrs = s.chipErrs := by cases s; rfl
@[simp] theorem State.journal_wayErrs (key kind : Nat) (src : Src) (hub : Bool) (len old new : Nat) : (s.journal key kind src hub len old new).wayErrs = s.wayErrs := by cases s; rfl
@[simp] theorem State.journal_ctls (key kind : Nat) (src : Src) (hub : Bool) (len old new : Nat) : (s.journal key kind src hub len old new).ctls = s.ctls := by cases s; rfl
@[simp] theorem State.journal_ledgers (key kind : Nat) (src : Src) (hub : Bool) (len old new : Nat) : (s.journal key kind src hub len old new).ledgers = s.ledgers := by cases s; rfl
@[simp] theorem State.journal_evinLevel (key kind : Nat) (src : Src) (hub : Bool) (len old new : Nat) : (s.journal key kind src hub len old new).evinLevel = s.evinLevel := by cases s; rfl
@[simp] theorem State.journal_evinAsserted (key kind : Nat) (src : Src) (hub : Bool) (len old new : Nat) : (s.journal key kind src hub len old new).evinAsserted = s.evinAsserted := by cases s; rfl
@[simp] theorem State.journal_accs (key kind : Nat) (src : Src) (hub : Bool) (len old new : Nat) : (s.journal key kind src hub len old new).accs = s.accs := by cases s; rfl
@[simp] theorem State.journal_job (key kind : Nat) (src : Src) (hub : Bool) (len old new : Nat) : (s.journal key kind src hub len old new).job = s.job := by cases s; rfl
@[simp] theorem State.journal_scrub (key kind : Nat) (src : Src) (hub : Bool) (len old new : Nat) : (s.journal key kind src hub len old new).scrub = s.scrub := by cases s; rfl
@[simp] theorem State.journal_ceArm (key kind : Nat) (src : Src) (hub : Bool) (len old new : Nat) : (s.journal key kind src hub len old new).ceArm = s.ceArm := by cases s; rfl
@[simp] theorem State.journal_ceUnlogArm (key kind : Nat) (src : Src) (hub : Bool) (len old new : Nat) : (s.journal key kind src hub len old new).ceUnlogArm = s.ceUnlogArm := by cases s; rfl
@[simp] theorem State.journal_patrolDc (key kind : Nat) (src : Src) (hub : Bool) (len old new : Nat) : (s.journal key kind src hub len old new).patrolDc = s.patrolDc := by cases s; rfl
@[simp] theorem State.journal_patrolTag (key kind : Nat) (src : Src) (hub : Bool) (len old new : Nat) : (s.journal key kind src hub len old new).patrolTag = s.patrolTag := by cases s; rfl
@[simp] theorem State.journal_patrolCat (key kind : Nat) (src : Src) (hub : Bool) (len old new : Nat) : (s.journal key kind src hub len old new).patrolCat = s.patrolCat := by cases s; rfl
@[simp] theorem State.journal_resets (key kind : Nat) (src : Src) (hub : Bool) (len old new : Nat) : (s.journal key kind src hub len old new).resets = s.resets := by cases s; rfl
@[simp] theorem State.journal_tcInval (key kind : Nat) (src : Src) (hub : Bool) (len old new : Nat) : (s.journal key kind src hub len old new).tcInval = s.tcInval := by cases s; rfl
@[simp] theorem State.journal_due (key kind : Nat) (src : Src) (hub : Bool) (len old new : Nat) : (s.journal key kind src hub len old new).due = s.due := by cases s; rfl
@[simp] theorem State.journal_pair (key kind : Nat) (src : Src) (hub : Bool) (len old new : Nat) : (s.journal key kind src hub len old new).pair = s.pair := by cases s; rfl
@[simp] theorem State.journal_homeNow (key kind : Nat) (src : Src) (hub : Bool) (len old new : Nat) : (s.journal key kind src hub len old new).homeNow = s.homeNow := by cases s; rfl
@[simp] theorem State.journal_jop (key kind : Nat) (src : Src) (hub : Bool) (len old new : Nat) : (s.journal key kind src hub len old new).jop = s.jop := by cases s; rfl
@[simp] theorem State.journal_obj (key kind : Nat) (src : Src) (hub : Bool) (len old new : Nat) (k0 : Nat) : (s.journal key kind src hub len old new).obj k0 = s.obj k0 := by simp only [State.obj, State.journal_objs]
@[simp] theorem State.journal_port (key kind : Nat) (src : Src) (hub : Bool) (len old new : Nat) (n0 : Nat) : (s.journal key kind src hub len old new).port n0 = s.port n0 := by simp only [State.port, State.journal_ports]
@[simp] theorem State.journal_link (key kind : Nat) (src : Src) (hub : Bool) (len old new : Nat) (l0 : LinkId) : (s.journal key kind src hub len old new).link l0 = s.link l0 := by simp only [State.link, State.journal_links]
@[simp] theorem State.journal_ml (key kind : Nat) (src : Src) (hub : Bool) (len old new : Nat) (k0 : Nat) : (s.journal key kind src hub len old new).ml k0 = s.ml k0 := by simp only [State.ml, State.journal_mls]
@[simp] theorem State.journal_chan (key kind : Nat) (src : Src) (hub : Bool) (len old new : Nat) (c0 : Nat) : (s.journal key kind src hub len old new).chan c0 = s.chan c0 := by simp only [State.chan, State.journal_chans]
@[simp] theorem State.journal_ctl (key kind : Nat) (src : Src) (hub : Bool) (len old new : Nat) (p0 : Nat) : (s.journal key kind src hub len old new).ctl p0 = s.ctl p0 := by simp only [State.ctl, State.journal_ctls]
@[simp] theorem State.journal_ledger (key kind : Nat) (src : Src) (hub : Bool) (len old new : Nat) (p0 i0 : Nat) : (s.journal key kind src hub len old new).ledger p0 i0 = s.ledger p0 i0 := by simp only [State.ledger, State.journal_ledgers]
@[simp] theorem State.journal_acc (key kind : Nat) (src : Src) (hub : Bool) (len old new : Nat) (c0 : Nat) : (s.journal key kind src hub len old new).acc c0 = s.acc c0 := by simp only [State.acc, State.journal_accs]
@[simp] theorem State.journal_pd (key kind : Nat) (src : Src) (hub : Bool) (len old new : Nat) (d0 : Nat) : (s.journal key kind src hub len old new).pd d0 = s.pd d0 := by simp only [State.pd, State.journal_domains]
@[simp] theorem State.journal_word (key kind : Nat) (src : Src) (hub : Bool) (len old new : Nat) (a0 u0 w0 : Nat) : (s.journal key kind src hub len old new).word a0 u0 w0 = s.word a0 u0 w0 := by simp only [State.word, State.journal_arrays]
@[simp] theorem State.journal_memberOf (key kind : Nat) (src : Src) (hub : Bool) (len old new : Nat) (n0 : Nat) : (s.journal key kind src hub len old new).memberOf n0 = s.memberOf n0 := by simp only [State.memberOf, State.journal_inForce]
@[simp] theorem State.journal_dead (key kind : Nat) (src : Src) (hub : Bool) (len old new : Nat) : (s.journal key kind src hub len old new).dead = s.dead := by simp only [State.dead, State.journal_mode, State.journal_trans]

/-! The updates made of others. -/

@[simp] theorem State.modPort_eq (n : Nat) (f : PortSt → PortSt) : s.modPort n f = s.setPort n (f (s.port n)) := rfl
@[simp] theorem State.modLink_eq (l : LinkId) (f : LinkEnd → LinkEnd) : s.modLink l f = s.setLink l (f (s.link l)) := rfl
@[simp] theorem State.addObj_eq (k n : Nat) : s.addObj k n = s.setObj k ((s.obj k + n) % 0x100000000) := rfl
@[simp] theorem State.bump_eq (k : Nat) : s.bump k = s.addObj k 1 := rfl

end Sys2Proof.Machine
end

