-- ==== Sys2Proof/Laws/Tables.lean ====
section
/-! SUPPORT. The laws of the sparse tables: a read after a write, other keys unchanged, and the canonical form that every write keeps. -/

namespace Sys2Proof.Machine

variable {α : Type}

/-- A read of the key that a `tput` wrote, and of any other. -/
theorem tget_tput (d v : α) (k : Nat) (t : Tab α) (j : Nat) : tget d (tput v k t) j = if j = k then v else tget d t j := by
  induction t with
  | nil => simp [tput, tget]
  | cons x t ih =>
    obtain ⟨a, b⟩ := x
    simp only [tput]
    split_ifs with h1 h2 h3 h4 <;> simp_all [tget]

/-- A read after `tdel`. -/
theorem tget_tdel (d : α) (k : Nat) (t : Tab α) (j : Nat) : tget d (tdel k t) j = if j = k then d else tget d t j := by
  induction t with
  | nil => simp [tdel, tget]
  | cons x t ih =>
    obtain ⟨a, b⟩ := x
    simp only [tdel]
    split_ifs with h1 h2 h3 <;> simp_all [tget]

/-- A read, with any default, after a write: at the key written, and at every other. -/
theorem tget_tset_any [DecidableEq α] (e d : α) (t : Tab α) (k : Nat) (v : α) (j : Nat) :
    tget e (tset d t k v) j = if j = k then (if v = d then e else v) else tget e t j := by
  unfold tset
  split_ifs with h1 h2 <;> simp_all [tget_tput, tget_tdel]

/-- A read after a write: the value written at its key, the old value at every other. -/
theorem tget_tset [DecidableEq α] (d : α) (t : Tab α) (k : Nat) (v : α) (j : Nat) :
    tget d (tset d t k v) j = if j = k then v else tget d t j := by
  rw [tget_tset_any]; split_ifs with h1 h2 <;> simp_all

/-- Every key of a rising table is above its first. -/
theorem rising_tail {x : Nat × α} {t : Tab α} (h : Tab.rising (x :: t) = true) :
    Tab.rising t = true ∧ ∀ y ∈ t, x.1 < y.1 := by
  induction t generalizing x with
  | nil => simp [Tab.rising]
  | cons y t ih =>
    simp only [Tab.rising, Bool.and_eq_true, decide_eq_true_eq] at h
    refine ⟨h.2, ?_⟩
    intro z hz
    rcases List.mem_cons.1 hz with rfl | hz
    · exact h.1
    · exact Nat.lt_trans h.1 ((ih h.2).2 z hz)

/-- A table rises when its tail does and its first key is below the others. -/
theorem rising_cons {x : Nat × α} {t : Tab α} (h : Tab.rising t = true) (hx : ∀ y ∈ t, x.1 < y.1) : Tab.rising (x :: t) = true := by
  cases t with
  | nil => simp [Tab.rising]
  | cons y t => simp [Tab.rising, h, hx y (by simp)]

/-- What a `tput` may hold. -/
theorem mem_tput {v : α} {k : Nat} {t : Tab α} {y : Nat × α} (h : y ∈ tput v k t) : y = (k, v) ∨ (y ∈ t) := by
  induction t with
  | nil => simpa [tput] using h
  | cons x t ih =>
    obtain ⟨a, b⟩ := x
    simp only [tput] at h
    split_ifs at h <;> simp only [List.mem_cons] at h ⊢ <;> grind

/-- A `tput` keeps the keys rising. -/
theorem rising_tput (v : α) (k : Nat) {t : Tab α} (h : Tab.rising t = true) : Tab.rising (tput v k t) = true := by
  induction t with
  | nil => simp [tput, Tab.rising]
  | cons x t ih =>
    obtain ⟨a, b⟩ := x
    have h' := rising_tail h
    simp only [tput]
    split_ifs with h1 h2
    · exact rising_cons h (by intro y hy; rcases List.mem_cons.1 hy with rfl | hy <;> grind)
    · subst h2; exact rising_cons h'.1 (by simpa using h'.2)
    · refine rising_cons (ih h'.1) ?_
      intro y hy
      rcases mem_tput hy with rfl | hy
      · show a < k; omega
      · exact h'.2 y hy

/-- A part of a rising table rises. -/
theorem rising_filter (p : Nat × α → Bool) {t : Tab α} (h : Tab.rising t = true) : Tab.rising (t.filter p) = true := by
  induction t with
  | nil => simpa using h
  | cons x t ih =>
    have h' := rising_tail h
    by_cases hp : p x = true
    · rw [List.filter_cons_of_pos hp]
      exact rising_cons (ih h'.1) (fun y hy => h'.2 y (List.mem_of_mem_filter hy))
    · rw [List.filter_cons_of_neg hp]; exact ih h'.1

/-- `tdel` is a filter. -/
theorem tdel_eq (k : Nat) (t : Tab α) : tdel k t = t.filter (fun x => x.1 ≠ k) := by
  induction t with
  | nil => rfl
  | cons x t ih => obtain ⟨a, b⟩ := x; simp only [tdel]; split_ifs with h <;> simp_all; grind

/-- A write keeps the canonical form. -/
theorem canonical_tset [DecidableEq α] (d : Nat → α) (k : Nat) (v : α) {t : Tab α} (h : Tab.canonical d t = true) :
    Tab.canonical d (tset (d k) t k v) = true := by
  simp only [Tab.canonical, Bool.and_eq_true, List.all_eq_true, decide_eq_true_eq] at h ⊢
  unfold tset
  split_ifs with hv
  · rw [tdel_eq]
    exact ⟨rising_filter _ h.1, fun x hx => h.2 x (List.mem_of_mem_filter hx)⟩
  · refine ⟨rising_tput v k h.1, fun x hx => ?_⟩
    rcases mem_tput hx with rfl | hx
    · exact hv
    · exact h.2 x hx

/-- A part of a canonical table is canonical. -/
theorem canonical_filter [DecidableEq α] (d : Nat → α) (p : Nat × α → Bool) {t : Tab α} (h : Tab.canonical d t = true) :
    Tab.canonical d (t.filter p) = true := by
  simp only [Tab.canonical, Bool.and_eq_true, List.all_eq_true] at h ⊢
  exact ⟨rising_filter p h.1, fun x hx => h.2 x (List.mem_of_mem_filter hx)⟩

/-- Every operation on the internal arrays is a write of one word or drops words (08 R213, R227): both keep the canonical form. -/
theorem arraysWf_setRaw (s : State) (a u w : Nat) (v : Stored) (h : s.arraysWf = true) : (s.setRaw a u w v).arraysWf = true :=
  canonical_tset arrayDefault (akey a u w) v h

end Sys2Proof.Machine
end

