-- ==== Sys2Proof/Laws/Access.lean ====
section
/-! SUPPORT. Reading a unit's state after changing one: the changed one reads as changed, every other one as before. -/

namespace Sys2Proof.Machine

variable (s : State)

theorem State.ctl_modCtl (p : Nat) (f : CtlSt → CtlSt) (q : Nat) : (s.modCtl p f).ctl q = if q = p then f (s.ctl p) else s.ctl q :=
  tget_tset _ _ _ _ _
theorem State.acc_modAcc (c : Nat) (f : AccSt → AccSt) (q : Nat) : (s.modAcc c f).acc q = if q = c then f (s.acc c) else s.acc q :=
  tget_tset _ _ _ _ _
theorem State.ml_modMl (k : Nat) (f : MlSt → MlSt) (q : Nat) : (s.modMl k f).ml q = if q = k then f (s.ml k) else s.ml q :=
  tget_tset _ _ _ _ _
theorem State.chan_modChan (c : Nat) (f : ChanSt → ChanSt) (q : Nat) : (s.modChan c f).chan q = if q = c then f (s.chan c) else s.chan q :=
  tget_tset _ _ _ _ _
theorem State.port_setPort (n : Nat) (v : PortSt) (q : Nat) : (s.setPort n v).port q = if q = n then v else s.port q :=
  tget_tset _ _ _ _ _
theorem State.link_setLink (l : LinkId) (v : LinkEnd) (q : LinkId) : (s.setLink l v).link q = if linkNum q = linkNum l then v else s.link q :=
  tget_tset _ _ _ _ _
theorem State.ledger_modLedger (p l : Nat) (f : LedgerSt → LedgerSt) (q m : Nat) :
    (s.modLedger p l f).ledger q m = if 4 * q + m = 4 * p + l then f (s.ledger p l) else s.ledger q m := by
  unfold State.ledger State.modLedger; exact tget_tset _ _ _ _ _

@[simp] theorem State.ctl_modCtl_same (p : Nat) (f : CtlSt → CtlSt) : (s.modCtl p f).ctl p = f (s.ctl p) := by simp [State.ctl_modCtl]
@[simp] theorem State.acc_modAcc_same (c : Nat) (f : AccSt → AccSt) : (s.modAcc c f).acc c = f (s.acc c) := by simp [State.acc_modAcc]
@[simp] theorem State.ml_modMl_same (k : Nat) (f : MlSt → MlSt) : (s.modMl k f).ml k = f (s.ml k) := by simp [State.ml_modMl]
@[simp] theorem State.chan_modChan_same (c : Nat) (f : ChanSt → ChanSt) : (s.modChan c f).chan c = f (s.chan c) := by simp [State.chan_modChan]
@[simp] theorem State.port_setPort_same (n : Nat) (v : PortSt) : (s.setPort n v).port n = v := by simp [State.port_setPort]
@[simp] theorem State.link_setLink_same (l : LinkId) (v : LinkEnd) : (s.setLink l v).link l = v := by simp [State.link_setLink]
@[simp] theorem State.ledger_modLedger_same (p l : Nat) (f : LedgerSt → LedgerSt) : (s.modLedger p l f).ledger p l = f (s.ledger p l) := by
  simp [State.ledger_modLedger]

end Sys2Proof.Machine
end

