-- ==== Sys2Proof/Laws/Rows.lean ====
section
/-! SUPPORT. The dictionary row of every register that a command of its own accesses. -/

namespace Sys2Proof.Machine

theorem row_modeReq : lookupRow (K.modeReq / 256) (K.modeReq % 256) = some ⟨0x1100, 0x1100, 1, 1, .u8, .rw, 3, .any, allOnes64⟩ := by decide

theorem row_stageDiscard : lookupRow (K.stageDiscard / 256) (K.stageDiscard % 256) = some ⟨0x1300, 0x1300, 0x15, 0x15, .bool, .wo, 0, .any, allOnes64⟩ := by decide

theorem row_fenceSlice : lookupRow (K.fenceSlice / 256) (K.fenceSlice % 256) = some ⟨0x1402, 0x1402, 1, 1, .bits32, .rw, 0, .any, allOnes64⟩ := by decide

theorem row_fenceDc : lookupRow (K.fenceDc / 256) (K.fenceDc % 256) = some ⟨0x1402, 0x1402, 2, 2, .bits32, .rw, 0, .any, 0xFF⟩ := by decide

theorem row_fenceMl : lookupRow (K.fenceMl / 256) (K.fenceMl % 256) = some ⟨0x1402, 0x1402, 3, 3, .bits32, .rw, 0, .any, 0xFF⟩ := by decide

theorem row_fencePort : lookupRow (K.fencePort / 256) (K.fencePort % 256) = some ⟨0x1402, 0x1402, 4, 4, .u64, .rw, 0, .any, 0xFFFFFFFFFFFF⟩ := by decide

theorem row_fenceAcc : lookupRow (K.fenceAcc / 256) (K.fenceAcc % 256) = some ⟨0x1402, 0x1402, 5, 5, .bits32, .rw, 0, .any, 0xFFF⟩ := by decide

theorem row_portEnable (n : Port) : lookupRow (K.portEnable n / 256) (K.portEnable n % 256) = some ⟨0x2000, 0x202F, 1, 1, .bool, .rw, 1, .any, allOnes64⟩ := by
  revert n; decide

theorem row_wakeReq (n : Port) : lookupRow (K.wakeReq n / 256) (K.wakeReq n % 256) = some ⟨0x2000, 0x202F, 7, 7, .bool, .wo, 0, .any, allOnes64⟩ := by
  revert n; decide

theorem row_tcInval (p : Part) : lookupRow (K.tcInval p / 256) (K.tcInval p % 256) = some ⟨0x2100, 0x210F, 6, 6, .bool, .wo, 0, .any, allOnes64⟩ := by
  revert p; decide

theorem row_partReset (p : Part) : lookupRow (K.partReset p / 256) (K.partReset p % 256) = some ⟨0x2100, 0x210F, 8, 8, .u8, .wo, 0, .range 1 2, allOnes64⟩ := by
  revert p; decide

theorem row_claim (p : Part) : lookupRow (K.claim p / 256) (K.claim p % 256) = some ⟨0x2110, 0x211F, 4, 4, .u32, .ro, 1023, .any, allOnes64⟩ := by
  revert p; decide

theorem row_eoi (p : Part) : lookupRow (K.eoi p / 256) (K.eoi p % 256) = some ⟨0x2110, 0x211F, 5, 5, .u32, .wo, 0, .any, 0x3FF⟩ := by
  revert p; decide

theorem row_doorbell (p : Part) : lookupRow (K.doorbell p / 256) (K.doorbell p % 256) = some ⟨0x2110, 0x211F, 6, 6, .u32, .wo, 0, .any, allOnes64⟩ := by
  revert p; decide

theorem row_pending (p : Part) (w : Fin 8) : lookupRow (K.pending p w / 256) (K.pending p w % 256) = some ⟨0x2110, 0x211F, 0x10, 0x17, .bits32, .w1c, 0, .any, allOnes64⟩ := by
  revert p w; decide

theorem row_ledgerTail (p : Part) (l : Fin 4) : lookupRow (K.ledgerTail p l / 256) (K.ledgerTail p l % 256) = some ⟨0x2120, 0x212F, 0x10 * l + 5, 0x10 * l + 5, .u32, .rw, 0, .any, allOnes64⟩ := by
  revert p l; decide

theorem row_wayDisabled (h : Slice) : lookupRow (K.wayDisabled h / 256) (K.wayDisabled h % 256) = some ⟨0x2304, 0x2304, 1, 0x20, .bits32, .w1c, 0, .any, 0xFFFF⟩ := by
  revert h; decide

theorem row_maintStart : lookupRow (K.maintStart / 256) (K.maintStart % 256) = some ⟨0x2310, 0x2310, 6, 6, .bool, .wo, 0, .any, allOnes64⟩ := by decide

theorem row_maintAbort : lookupRow (K.maintAbort / 256) (K.maintAbort % 256) = some ⟨0x2310, 0x2310, 8, 8, .bool, .wo, 0, .any, allOnes64⟩ := by decide

theorem row_dcMarkA (c : Chan) : lookupRow (K.dcMarkA c / 256) (K.dcMarkA c % 256) = some ⟨0x2403, 0x2403, 1, 8, .u8, .rw, 255, .rangeOr 0 19 255, allOnes64⟩ := by
  revert c; decide

theorem row_dcMarkB (c : Chan) : lookupRow (K.dcMarkB c / 256) (K.dcMarkB c % 256) = some ⟨0x2404, 0x2404, 1, 8, .u8, .rw, 255, .rangeOr 0 19 255, allOnes64⟩ := by
  revert c; decide

theorem row_scrubStart : lookupRow (K.scrubStart / 256) (K.scrubStart % 256) = some ⟨0x2480, 0x2480, 6, 6, .bool, .wo, 0, .any, allOnes64⟩ := by decide

theorem row_ceLogClear : lookupRow (K.ceLogClear / 256) (K.ceLogClear % 256) = some ⟨0x2486, 0x2486, 4, 4, .bool, .wo, 0, .any, allOnes64⟩ := by decide

theorem row_accEnable (c : Acc) : lookupRow (K.accEnable c / 256) (K.accEnable c % 256) = some ⟨0x2700, 0x270B, 1, 1, .bool, .rw, 0, .any, allOnes64⟩ := by
  revert c; decide

theorem row_accData (c : Acc) : lookupRow (K.accData c / 256) (K.accData c % 256) = some ⟨0x2700, 0x270B, 7, 7, .u32, .ro, 0, .any, allOnes64⟩ := by
  revert c; decide

theorem row_accCmd (c : Acc) : lookupRow (K.accCmd c / 256) (K.accCmd c % 256) = some ⟨0x2700, 0x270B, 0x0B, 0x0B, .u8, .wo, 0, .range 1 4, allOnes64⟩ := by
  revert c; decide

theorem row_accBlock (c : Acc) : lookupRow (K.accBlock c / 256) (K.accBlock c % 256) = some ⟨0x2700, 0x270B, 0x0C, 0x0C, .domain, .ro, 0, .any, allOnes64⟩ := by
  revert c; decide

theorem row_heldAck (n : Port) : lookupRow (K.heldAck n / 256) (K.heldAck n % 256) = some ⟨0x2801, 0x2801, 1, 0x30, .bool, .wo, 0, .any, allOnes64⟩ := by
  revert n; decide

theorem row_llClear : lookupRow (K.llClear / 256) (K.llClear % 256) = some ⟨0x2811, 0x2811, 3, 3, .bool, .wo, 0, .any, allOnes64⟩ := by decide

theorem row_diagGo : lookupRow (K.diagGo / 256) (K.diagGo % 256) = some ⟨0x2F00, 0x2F00, 7, 7, .bool, .wo, 0, .any, allOnes64⟩ := by decide

end Sys2Proof.Machine
end

