-- ==== Sys2Proof/Laws/Writes.lean ====
section
/-! SUPPORT. What a register access by a command does, once for all: absent, refused or accepted (16 R405, R406), and what an accepted
write of each command's register does beside the journal. -/

namespace Sys2Proof.Machine

variable (s : State) (src : Src)

theorem begin_srcPresent : s.begin.srcPresent src = s.srcPresent src := by cases s; rfl
theorem begin_writeStatus (k : Nat) (v : List Byte) (st : Bool) : s.begin.writeStatus src k v st = s.writeStatus src k v st := by
  cases s; rfl
theorem begin_journalSrc : s.begin.journalSrc src = s.journalSrc src := by cases s; rfl

/-- Bytes and back (00 R5). -/
theorem bytesNat_natBytes (n v : Nat) : bytesNat (natBytes n v) = v % 256 ^ n := by
  induction n generalizing v with
  | zero => simp [natBytes, bytesNat, Nat.mod_one]
  | succ n ih =>
    simp only [natBytes, bytesNat, ih, BitVec.toNat_ofNat]
    rw [show 256 ^ (n + 1) = 256 * 256 ^ n by ring, Nat.mod_mul]

/-- No reserved bits: a value of at most eight bytes is kept whole. -/
theorem and_allOnes64 (v : Nat) (h : v < 2 ^ 64) : v &&& allOnes64 = v := by
  have : allOnes64 = 2 ^ 64 - 1 := by decide
  rw [this, Nat.and_two_pow_sub_one_eq_mod, Nat.mod_eq_of_lt h]

/-- A source that may make no access now: nothing happens (16 R407, 10 R276). -/
theorem cmdWrite_absent (k v : Nat) (x : Extras) (h : s.srcPresent src = false) : s.begin.cmdWrite src k v x = s.begin := by
  simp [State.cmdWrite, State.regWrite, State.bytesWrite, begin_srcPresent, h]

theorem bytesWrite_refused (k : Nat) (v : List Byte) (x : Extras) (h : s.srcPresent src = true) (hs : s.writeStatus src k v false ≠ 0) :
    s.begin.bytesWrite src k v x = s.begin.emit (.objStatus src k (s.writeStatus src k v false) []) := by
  simp [State.bytesWrite, State.objWrite, State.answerWrite, State.writeWait, begin_srcPresent, begin_writeStatus, h, hs]

/-- The register is no TC_INVAL, whose OK waits for its walks (10 R271). -/
abbrev noTcInval (k : Nat) : Prop := ¬(0x2100 ≤ k / 256 ∧ k / 256 < 0x2110 ∧ k % 256 = 6)

/-- The answer of an accepted write, but of TC_INVAL: at once, or with its journal entry. -/
theorem saysOk_eq (t : State) (k v : Nat) (h : noTcInval k) :
    t.answerWrite s.begin src k 0 v = t.saysOk s src k := by
  have hj : s.begin.journalFull = s.journalFull := rfl
  have hn : s.begin.nvm = s.nvm := rfl
  have hb : ¬(0x2100 ≤ k / 256 ∧ k / 256 < 0x2110 ∧ k % 256 = 6 ∧ v = 1) := fun x => h ⟨x.1, x.2.1, x.2.2.1⟩
  simp only [State.answerWrite, State.writeWait, State.saysOk, hj, hn, hb, if_false]
  cases s.journalFull <;> simp

/-- A refused write changes nothing and is answered with its status. -/
theorem cmdWrite_refused (k v : Nat) (x : Extras) (h : s.srcPresent src = true)
    (hs : s.writeStatus src k (natBytes (objWidth k) v) false ≠ 0) :
    s.begin.cmdWrite src k v x =
      s.begin.emit (.objStatus src k (s.writeStatus src k (natBytes (objWidth k) v) false) []) := by
  simp [State.cmdWrite, State.regWrite, bytesWrite_refused, h, hs]

/-- OBJECT_WRITE with a source that may make no access, and refused. -/
theorem anyWrite_absent (k : Nat) (v : List Byte) (h : s.srcPresent src = false) : s.begin.anyWrite src k v = s.begin := by
  simp [State.anyWrite, State.bytesWrite, begin_srcPresent, h]

theorem anyWrite_refused (k : Nat) (v : List Byte) (h : s.srcPresent src = true) (hs : s.writeStatus src k v false ≠ 0) :
    s.begin.anyWrite src k v = s.begin.emit (.objStatus src k (s.writeStatus src k v false) []) := by
  simp [State.anyWrite, bytesWrite_refused, h, hs]

/-- OBJECT_WRITE accepted, of an object that is not COMMIT and not TC_INVAL. -/
theorem anyWrite_ok {k : Nat} {v : List Byte} {r : ORow} (h : s.srcPresent src = true) (hs : s.writeStatus src k v false = 0)
    (hr : lookupRow (k / 256) (k % 256) = some r) (hc : k ≠ K.commitObj) (ht : noTcInval k) :
    s.begin.anyWrite src k v =
      ((s.begin.journal k (if r.acc = .staged then 2 else 1) (s.journalSrc src) false r.ty.bytes (s.begin.oldValue k r.acc)
        (bytesNat v &&& r.keep)).writeEffect src k (bytesNat v &&& r.keep) r.acc {}).saysOk s src k := by
  rw [← saysOk_eq s src _ k (bytesNat v) ht]
  simp [State.anyWrite, State.bytesWrite, State.objWrite, begin_srcPresent, begin_writeStatus, h, hs, hr, State.accept, hc, begin_journalSrc]

/-- An accepted write is journalled, takes effect and is answered OK. -/
theorem cmdWrite_ok {k v w : Nat} {r : ORow} (x : Extras) (h : s.accepts src k v) (hr : lookupRow (k / 256) (k % 256) = some r)
    (hs : r.acc ≠ .staged) (hv : v < 256 ^ r.ty.bytes) (hw : v &&& r.keep = w) (hc : k ≠ K.commitObj) (ht : noTcInval k) :
    s.begin.cmdWrite src k v x = ((s.noted src k w).writeEffect src k w r.acc x).saysOk s src k := by
  obtain ⟨h1, h2⟩ := h
  have hb : objWidth k = r.ty.bytes := by simp [objWidth, hr]
  have hn : bytesNat (natBytes (objWidth k) v) = v := by rw [hb, bytesNat_natBytes, Nat.mod_eq_of_lt hv]
  rw [← saysOk_eq s src _ k (bytesNat (natBytes (objWidth k) v)) ht]
  simp [State.cmdWrite, State.regWrite, State.bytesWrite, State.objWrite, begin_srcPresent, begin_writeStatus, h1, h2, hr, hn, hw, State.accept,
    hs, hc, State.noted, begin_journalSrc]

/-- An index and a subindex back from an object's number. -/
theorem okey_index (i b : Nat) (h : b < 256) : okey i b / 256 = i := by unfold okey; omega
theorem okey_sub (i b : Nat) (h : b < 256) : okey i b % 256 = b := by unfold okey; omega

/-- A row that writes a register is that write. -/
theorem registerWrite_exec {s : State} {c : Instr} {src : Src} {k v : Nat} {x : Extras} (h : s.registerWrite c = some (src, k, v, x)) :
    exec c s = flow (fun s => s.cmdWrite src k v x) s := by
  have hb : ∀ k, s.begin.obj k = s.obj k := fun k => by simp
  unfold State.registerWrite at h
  split at h
  all_goals first
    | (cases h <;> rfl)
    | (split at h
       · rename_i hh
         cases h
         show flow _ s = _
         unfold flow
         simp only [hb, hh, if_true]
       · cases h)

/-- A register whose dictionary row is not that of COMMIT is not COMMIT. -/
theorem not_commit {k : Nat} {r : ORow} (hr : lookupRow (k / 256) (k % 256) = some r) (hc : r.i0 ≠ 0x1300 ∨ r.s0 ≠ K.commitObj % 256) :
    k ≠ K.commitObj := by
  rintro rfl
  have h : ∃ r, lookupRow (K.commitObj / 256) (K.commitObj % 256) = some r ∧ r.i0 = 0x1300 ∧ r.s0 = K.commitObj % 256 := by decide +revert
  obtain ⟨r', h1, h2, h3⟩ := h
  rw [hr] at h1; cases h1
  rcases hc with hc | hc
  · exact hc h2
  · exact hc h3

/-- Nor is one whose row is not that of TC_INVAL a TC_INVAL. -/
theorem not_tcInval {k : Nat} {r : ORow} (hr : lookupRow (k / 256) (k % 256) = some r) (hc : r.i0 ≠ 0x2100 ∨ r.s0 ≠ 6) : noTcInval k := by
  rintro ⟨h1, h2, h3⟩
  obtain ⟨p, hp⟩ : ∃ p : Fin 16, k / 256 = 0x2100 + p := ⟨⟨k / 256 - 0x2100, by omega⟩, by simp; omega⟩
  have h : ∀ p : Fin 16, ∃ r, lookupRow (0x2100 + p) 6 = some r ∧ r.i0 = 0x2100 ∧ r.s0 = 6 := by decide
  obtain ⟨r', h4, h5, h6⟩ := h p
  rw [hp, h3, h4] at hr; cases hr
  rcases hc with hc | hc
  · exact hc h5
  · exact hc h6

/-- An accepted write as a whole command. -/
theorem flow_cmdWrite_ok {s : State} {src : Src} {k v : Nat} (w : Nat) (r : ORow) (x : Extras) (h : s.accepts src k v)
    (hr : lookupRow (k / 256) (k % 256) = some r) (hs : r.acc ≠ .staged) (hv : v < 256 ^ r.ty.bytes) (hw : v &&& r.keep = w)
    (hc : r.i0 ≠ 0x1300 ∨ r.s0 ≠ K.commitObj % 256) (ht : r.i0 ≠ 0x2100 ∨ r.s0 ≠ 6) :
    flow (fun s => s.cmdWrite src k v x) s = .next (s.after (((s.noted src k w).writeEffect src k w r.acc x).saysOk s src k)) := by
  unfold flow
  rw [← cmdWrite_ok s src x h hr hs hv hw (not_commit hr hc) (not_tcInval hr ht)]

/-- The journal entry of a write changes the journal alone. -/
theorem noted_frame (k v : Nat) : ∃ n, s.noted src k v = { s with sent := [], nvm := n } := by
  unfold State.noted; split
  · exact ⟨s.nvm, rfl⟩
  · exact ⟨_, rfl⟩

end Sys2Proof.Machine
end

