-- ==== Sys2Proof/Laws/Effects.lean ====
section
/-! SUPPORT. What an accepted write of each command's register does beside the journal (17 R427): one shared operation each. -/

namespace Sys2Proof.Machine

variable (s : State) (src : Src)

theorem effect_modeReq (v : Nat) (x : Extras) : s.writeEffect src K.modeReq v .rw x = (s.setObj K.modeReq v).modeReqOp v (x.samples.getD s.presentSamples) := by
  have h : K.modeReq / 256 = 0x1100 ∧ K.modeReq % 256 = 0x1 ∧ K.modeReq ≠ K.pairEnable ∧ K.modeReq ≠ K.pairRole ∧ K.modeReq ≠ K.pairMask ∧ K.modeReq ≠ K.fenceSlice ∧ K.modeReq ≠ K.fenceDc ∧ K.modeReq ≠ K.fenceMl ∧ K.modeReq ≠ K.fencePort ∧ K.modeReq ≠ K.fenceAcc ∧ K.modeReq ≠ K.stageDiscard := by decide
  simp [State.writeEffect, State.effect1, h]

theorem effect_stageDiscard (x : Extras) : s.writeEffect src K.stageDiscard 1 .wo x = s.discardStaged := by
  have h : K.stageDiscard / 256 = 0x1300 ∧ K.stageDiscard % 256 = 0x15 ∧ K.stageDiscard ≠ K.modeReq ∧ K.stageDiscard ≠ K.pairEnable ∧ K.stageDiscard ≠ K.pairRole ∧ K.stageDiscard ≠ K.pairMask ∧ K.stageDiscard ≠ K.fenceSlice ∧ K.stageDiscard ≠ K.fenceDc ∧ K.stageDiscard ≠ K.fenceMl ∧ K.stageDiscard ≠ K.fencePort ∧ K.stageDiscard ≠ K.fenceAcc := by decide
  simp [State.writeEffect, State.effect1, h]

theorem effect_fenceSlice (v : Nat) (x : Extras) : s.writeEffect src K.fenceSlice v .rw x = s.fenceSlices v := by
  have h : K.fenceSlice / 256 = 0x1402 ∧ K.fenceSlice % 256 = 0x1 ∧ K.fenceSlice ≠ K.modeReq ∧ K.fenceSlice ≠ K.pairEnable ∧ K.fenceSlice ≠ K.pairRole ∧ K.fenceSlice ≠ K.pairMask ∧ K.fenceSlice ≠ K.fenceDc ∧ K.fenceSlice ≠ K.fenceMl ∧ K.fenceSlice ≠ K.fencePort ∧ K.fenceSlice ≠ K.fenceAcc ∧ K.fenceSlice ≠ K.stageDiscard := by decide
  simp [State.writeEffect, State.effect1, h]

theorem effect_fenceDc (v : Nat) (x : Extras) : s.writeEffect src K.fenceDc v .rw x = s.fenceChans v := by
  have h : K.fenceDc / 256 = 0x1402 ∧ K.fenceDc % 256 = 0x2 ∧ K.fenceDc ≠ K.modeReq ∧ K.fenceDc ≠ K.pairEnable ∧ K.fenceDc ≠ K.pairRole ∧ K.fenceDc ≠ K.pairMask ∧ K.fenceDc ≠ K.fenceSlice ∧ K.fenceDc ≠ K.fenceMl ∧ K.fenceDc ≠ K.fencePort ∧ K.fenceDc ≠ K.fenceAcc ∧ K.fenceDc ≠ K.stageDiscard := by decide
  simp [State.writeEffect, State.effect1, h]

theorem effect_fenceMl (v : Nat) (x : Extras) : s.writeEffect src K.fenceMl v .rw x = s.fenceLinks v := by
  have h : K.fenceMl / 256 = 0x1402 ∧ K.fenceMl % 256 = 0x3 ∧ K.fenceMl ≠ K.modeReq ∧ K.fenceMl ≠ K.pairEnable ∧ K.fenceMl ≠ K.pairRole ∧ K.fenceMl ≠ K.pairMask ∧ K.fenceMl ≠ K.fenceSlice ∧ K.fenceMl ≠ K.fenceDc ∧ K.fenceMl ≠ K.fencePort ∧ K.fenceMl ≠ K.fenceAcc ∧ K.fenceMl ≠ K.stageDiscard := by decide
  simp [State.writeEffect, State.effect1, h]

theorem effect_fencePort (v : Nat) (x : Extras) : s.writeEffect src K.fencePort v .rw x = s.fencePorts v := by
  have h : K.fencePort / 256 = 0x1402 ∧ K.fencePort % 256 = 0x4 ∧ K.fencePort ≠ K.modeReq ∧ K.fencePort ≠ K.pairEnable ∧ K.fencePort ≠ K.pairRole ∧ K.fencePort ≠ K.pairMask ∧ K.fencePort ≠ K.fenceSlice ∧ K.fencePort ≠ K.fenceDc ∧ K.fencePort ≠ K.fenceMl ∧ K.fencePort ≠ K.fenceAcc ∧ K.fencePort ≠ K.stageDiscard := by decide
  simp [State.writeEffect, State.effect1, h]

theorem effect_fenceAcc (v : Nat) (x : Extras) : s.writeEffect src K.fenceAcc v .rw x = s.fenceAccs v := by
  have h : K.fenceAcc / 256 = 0x1402 ∧ K.fenceAcc % 256 = 0x5 ∧ K.fenceAcc ≠ K.modeReq ∧ K.fenceAcc ≠ K.pairEnable ∧ K.fenceAcc ≠ K.pairRole ∧ K.fenceAcc ≠ K.pairMask ∧ K.fenceAcc ≠ K.fenceSlice ∧ K.fenceAcc ≠ K.fenceDc ∧ K.fenceAcc ≠ K.fenceMl ∧ K.fenceAcc ≠ K.fencePort ∧ K.fenceAcc ≠ K.stageDiscard := by decide
  simp [State.writeEffect, State.effect1, h]

theorem effect_portEnable (n : Port) (v : Nat) (x : Extras) : s.writeEffect src (K.portEnable n) v .rw x = s.portEnableWrite n v := by
  have h : ((K.portEnable n)) / 256 = (0x2000 + n) ∧ ((K.portEnable n)) % 256 = 0x1 ∧ (K.portEnable n) ≠ K.maintStart ∧ (K.portEnable n) ≠ K.scrubStart ∧ (K.portEnable n) ≠ K.maintAbort ∧ (K.portEnable n) ≠ K.diagGo ∧ (K.portEnable n) ≠ K.ceLogClear ∧ (K.portEnable n) ≠ K.llClear ∧ (K.portEnable n) ≠ K.fatalValid := by
    revert n; decide
  simp [State.writeEffect, State.effect2, h]
  split_ifs <;> first | rfl | omega

theorem effect_wakeReq (n : Port) (x : Extras) : s.writeEffect src (K.wakeReq n) 1 .wo x = s.wakePort n := by
  have h : ((K.wakeReq n)) / 256 = (0x2000 + n) ∧ ((K.wakeReq n)) % 256 = 0x7 ∧ (K.wakeReq n) ≠ K.maintStart ∧ (K.wakeReq n) ≠ K.scrubStart ∧ (K.wakeReq n) ≠ K.maintAbort ∧ (K.wakeReq n) ≠ K.diagGo ∧ (K.wakeReq n) ≠ K.ceLogClear ∧ (K.wakeReq n) ≠ K.llClear ∧ (K.wakeReq n) ≠ K.fatalValid := by
    revert n; decide
  simp [State.writeEffect, State.effect2, h]
  split_ifs <;> first | rfl | omega

theorem effect_tcInval (p : Part) (x : Extras) : s.writeEffect src (K.tcInval p) 1 .wo x = s.tcInvalOp p := by
  have h : ((K.tcInval p)) / 256 = (0x2100 + p) ∧ ((K.tcInval p)) % 256 = 0x6 := by
    revert p; decide
  simp [State.writeEffect, State.effectPart, h]
  split_ifs <;> first | rfl | omega

theorem effect_partReset (p : Part) (v : Nat) (x : Extras) : s.writeEffect src (K.partReset p) v .wo x = s.startReset p (v == 2) := by
  have h : ((K.partReset p)) / 256 = (0x2100 + p) ∧ ((K.partReset p)) % 256 = 0x8 := by
    revert p; decide
  simp [State.writeEffect, State.effectPart, h]
  split_ifs <;> first | rfl | omega

theorem effect_eoi (p : Part) (v : Nat) (x : Extras) : s.writeEffect src (K.eoi p) v .wo x = s.eoiOp p v (srcPort src) := by
  have h : ((K.eoi p)) / 256 = (0x2110 + p) ∧ ((K.eoi p)) % 256 = 0x5 := by
    revert p; decide
  simp [State.writeEffect, State.effectPart, h]
  split_ifs <;> first | rfl | omega

theorem effect_doorbell (p : Part) (v : Nat) (x : Extras) : s.writeEffect src (K.doorbell p) v .wo x = s.doorbellOp p v (srcPort src) := by
  have h : ((K.doorbell p)) / 256 = (0x2110 + p) ∧ ((K.doorbell p)) % 256 = 0x6 := by
    revert p; decide
  simp [State.writeEffect, State.effectPart, h]
  split_ifs <;> first | rfl | omega

theorem effect_pending (p : Part) (w : Fin 8) (v : Nat) (x : Extras) : s.writeEffect src (K.pending p w) v .w1c x = s.pendingClearOp p w v := by
  have h : ((K.pending p w)) / 256 = (0x2110 + p) ∧ ((K.pending p w)) % 256 = (0x10 + w) := by
    revert p w; decide
  simp [State.writeEffect, State.effectPart, h]
  split_ifs <;> first | rfl | omega

theorem effect_ledgerTail (p : Part) (l : Fin 4) (v : Nat) (x : Extras) : s.writeEffect src (K.ledgerTail p l) v .rw x = s.tailOp p l v := by
  have h : ((K.ledgerTail p l)) / 256 = (0x2120 + p) ∧ ((K.ledgerTail p l)) % 256 = (0x10 * l + 0x5) := by
    revert p l; decide
  simp [State.writeEffect, State.effectPart, h]
  split_ifs <;> first | rfl | omega | (congr 1; omega)

theorem effect_wayDisabled (h : Slice) (v : Nat) (x : Extras) : s.writeEffect src (K.wayDisabled h) v .w1c x = s.enableWays h v := by
  have h : ((K.wayDisabled h)) / 256 = 0x2304 ∧ ((K.wayDisabled h)) % 256 = (0x1 + h) ∧ (K.wayDisabled h) ≠ K.maintStart ∧ (K.wayDisabled h) ≠ K.scrubStart ∧ (K.wayDisabled h) ≠ K.maintAbort ∧ (K.wayDisabled h) ≠ K.diagGo ∧ (K.wayDisabled h) ≠ K.ceLogClear ∧ (K.wayDisabled h) ≠ K.llClear ∧ (K.wayDisabled h) ≠ K.fatalValid := by
    revert h; decide
  simp [State.writeEffect, State.effect2, h]

theorem effect_maintStart (x : Extras) : s.writeEffect src K.maintStart 1 .wo x = s.startJob := by
  have h : K.maintStart / 256 = 0x2310 ∧ K.maintStart % 256 = 0x6 ∧ K.maintStart ≠ K.scrubStart ∧ K.maintStart ≠ K.maintAbort ∧ K.maintStart ≠ K.diagGo ∧ K.maintStart ≠ K.ceLogClear ∧ K.maintStart ≠ K.llClear ∧ K.maintStart ≠ K.fatalValid := by decide
  simp [State.writeEffect, State.effect2, h]

theorem effect_maintAbort (x : Extras) : s.writeEffect src K.maintAbort 1 .wo x = s.abortJobs := by
  have h : K.maintAbort / 256 = 0x2310 ∧ K.maintAbort % 256 = 0x8 ∧ K.maintAbort ≠ K.maintStart ∧ K.maintAbort ≠ K.scrubStart ∧ K.maintAbort ≠ K.diagGo ∧ K.maintAbort ≠ K.ceLogClear ∧ K.maintAbort ≠ K.llClear ∧ K.maintAbort ≠ K.fatalValid := by decide
  simp [State.writeEffect, State.effect2, h]

theorem effect_scrubStart (x : Extras) : s.writeEffect src K.scrubStart 1 .wo x = s.startScrub := by
  have h : K.scrubStart / 256 = 0x2480 ∧ K.scrubStart % 256 = 0x6 ∧ K.scrubStart ≠ K.maintStart ∧ K.scrubStart ≠ K.maintAbort ∧ K.scrubStart ≠ K.diagGo ∧ K.scrubStart ≠ K.ceLogClear ∧ K.scrubStart ≠ K.llClear ∧ K.scrubStart ≠ K.fatalValid := by decide
  simp [State.writeEffect, State.effect2, h]

theorem effect_ceLogClear (x : Extras) : s.writeEffect src K.ceLogClear 1 .wo x = s.ceClear := by
  have h : K.ceLogClear / 256 = 0x2486 ∧ K.ceLogClear % 256 = 0x4 ∧ K.ceLogClear ≠ K.maintStart ∧ K.ceLogClear ≠ K.scrubStart ∧ K.ceLogClear ≠ K.maintAbort ∧ K.ceLogClear ≠ K.diagGo ∧ K.ceLogClear ≠ K.llClear ∧ K.ceLogClear ≠ K.fatalValid := by decide
  simp [State.writeEffect, State.effect2, h]

theorem effect_llClear (x : Extras) : s.writeEffect src K.llClear 1 .wo x = s.llClear := by
  have h : K.llClear / 256 = 0x2811 ∧ K.llClear % 256 = 0x3 ∧ K.llClear ≠ K.maintStart ∧ K.llClear ≠ K.scrubStart ∧ K.llClear ≠ K.maintAbort ∧ K.llClear ≠ K.diagGo ∧ K.llClear ≠ K.ceLogClear ∧ K.llClear ≠ K.fatalValid := by decide
  simp [State.writeEffect, State.effect2, h]

theorem effect_diagGo (x : Extras) : s.writeEffect src K.diagGo 1 .wo x = s.diagStart x := by
  have h : K.diagGo / 256 = 0x2f00 ∧ K.diagGo % 256 = 0x7 ∧ K.diagGo ≠ K.maintStart ∧ K.diagGo ≠ K.scrubStart ∧ K.diagGo ≠ K.maintAbort ∧ K.diagGo ≠ K.ceLogClear ∧ K.diagGo ≠ K.llClear ∧ K.diagGo ≠ K.fatalValid := by decide
  simp [State.writeEffect, State.effect2, h]

theorem effect_dcMarkA (c : Chan) (v : Nat) (x : Extras) : s.writeEffect src (K.dcMarkA c) v .rw x = s.markWrite (K.dcMarkA c) c v := by
  have h : ((K.dcMarkA c)) / 256 = 0x2403 ∧ ((K.dcMarkA c)) % 256 = (0x1 + c) ∧ (K.dcMarkA c) ≠ K.maintStart ∧ (K.dcMarkA c) ≠ K.scrubStart ∧ (K.dcMarkA c) ≠ K.maintAbort ∧ (K.dcMarkA c) ≠ K.diagGo ∧ (K.dcMarkA c) ≠ K.ceLogClear ∧ (K.dcMarkA c) ≠ K.llClear ∧ (K.dcMarkA c) ≠ K.fatalValid := by
    revert c; decide
  simp [State.writeEffect, State.effect2, h]

theorem effect_dcMarkB (c : Chan) (v : Nat) (x : Extras) : s.writeEffect src (K.dcMarkB c) v .rw x = s.markWrite (K.dcMarkB c) c v := by
  have h : ((K.dcMarkB c)) / 256 = 0x2404 ∧ ((K.dcMarkB c)) % 256 = (0x1 + c) ∧ (K.dcMarkB c) ≠ K.maintStart ∧ (K.dcMarkB c) ≠ K.scrubStart ∧ (K.dcMarkB c) ≠ K.maintAbort ∧ (K.dcMarkB c) ≠ K.diagGo ∧ (K.dcMarkB c) ≠ K.ceLogClear ∧ (K.dcMarkB c) ≠ K.llClear ∧ (K.dcMarkB c) ≠ K.fatalValid := by
    revert c; decide
  simp [State.writeEffect, State.effect2, h]

theorem effect_accEnable (c : Acc) (v : Nat) (x : Extras) : s.writeEffect src (K.accEnable c) v .rw x = s.accEnableWrite c v := by
  have h : ((K.accEnable c)) / 256 = (0x2700 + c) ∧ ((K.accEnable c)) % 256 = 0x1 ∧ (K.accEnable c) ≠ K.maintStart ∧ (K.accEnable c) ≠ K.scrubStart ∧ (K.accEnable c) ≠ K.maintAbort ∧ (K.accEnable c) ≠ K.diagGo ∧ (K.accEnable c) ≠ K.ceLogClear ∧ (K.accEnable c) ≠ K.llClear ∧ (K.accEnable c) ≠ K.fatalValid := by
    revert c; decide
  simp [State.writeEffect, State.effect2, h]
  split_ifs <;> first | rfl | omega

theorem effect_accCmd (c : Acc) (v : Nat) (x : Extras) : s.writeEffect src (K.accCmd c) v .wo x = s.accCommand c v := by
  have h : ((K.accCmd c)) / 256 = (0x2700 + c) ∧ ((K.accCmd c)) % 256 = 0xb ∧ (K.accCmd c) ≠ K.maintStart ∧ (K.accCmd c) ≠ K.scrubStart ∧ (K.accCmd c) ≠ K.maintAbort ∧ (K.accCmd c) ≠ K.diagGo ∧ (K.accCmd c) ≠ K.ceLogClear ∧ (K.accCmd c) ≠ K.llClear ∧ (K.accCmd c) ≠ K.fatalValid := by
    revert c; decide
  simp [State.writeEffect, State.effect2, h]
  split_ifs <;> first | rfl | omega

theorem effect_heldAck (n : Port) (x : Extras) : s.writeEffect src (K.heldAck n) 1 .wo x = s.heldAck n := by
  have h : ((K.heldAck n)) / 256 = 0x2801 ∧ ((K.heldAck n)) % 256 = (0x1 + n) ∧ (K.heldAck n) ≠ K.maintStart ∧ (K.heldAck n) ≠ K.scrubStart ∧ (K.heldAck n) ≠ K.maintAbort ∧ (K.heldAck n) ≠ K.diagGo ∧ (K.heldAck n) ≠ K.ceLogClear ∧ (K.heldAck n) ≠ K.llClear ∧ (K.heldAck n) ≠ K.fatalValid := by
    revert n; decide
  simp [State.writeEffect, State.effect2, h]

end Sys2Proof.Machine
end

