-- ==== Sys2Proof/Laws/Events.lean ====
section
/-! SUPPORT. What raising an event may change, once for all: interrupt controllers, ledgers and LEDGER_DROPPED (11 R288 to R306). -/

namespace Sys2Proof.Machine

variable (s : State)

/-- An object read after a write (17 R424). -/
theorem State.obj_setObj (k v j : Nat) : (s.setObj k v).obj j = if j = k then v else s.obj j := by
  simp only [State.obj, State.setObj, tget_tset_any]
  by_cases h : j = k
  · subst h; simp; intro hv; exact hv.symm
  · simp [h]

@[simp] theorem State.obj_setObj_same (k v : Nat) : (s.setObj k v).obj k = v := by simp [State.obj_setObj]

theorem State.obj_setObj_other {k j : Nat} (v : Nat) (h : j ≠ k) : (s.setObj k v).obj j = s.obj j := by simp [State.obj_setObj, h]

theorem State.eventsOnly_refl : s.eventsOnly s := ⟨rfl, fun _ _ => rfl⟩

variable {s}

theorem State.eventsOnly_then {t u : State} (h : s.eventsOnly t) (h' : t.eventsOnly u) : s.eventsOnly u := by
  refine ⟨?_, fun k hk => (h'.2 k hk).trans (h.2 k hk)⟩
  have h1 := h'.1; rw [h.1] at h1; exact h1

theorem State.eventsOnly_modCtl (p : Nat) (f : CtlSt → CtlSt) : s.eventsOnly (s.modCtl p f) := ⟨rfl, fun _ _ => by simp⟩

theorem State.eventsOnly_modLedger (p l : Nat) (f : LedgerSt → LedgerSt) : s.eventsOnly (s.modLedger p l f) := ⟨rfl, fun _ _ => by simp⟩

theorem State.eventsOnly_dropped (p l v : Nat) : s.eventsOnly (s.setObj (K.ledgerDropped p l) v) :=
  ⟨rfl, fun _ hk => State.obj_setObj_other _ _ (hk p l)⟩

variable (s)

theorem State.formRecord_eventsOnly (p i pri detail port time : Nat) : s.eventsOnly (s.formRecord p i pri detail port time).1 := by
  unfold State.formRecord
  simp only
  split_ifs <;> try dsimp only
  · exact State.eventsOnly_then (State.eventsOnly_dropped _ _ _) (State.eventsOnly_modLedger _ _ _)
  · exact State.eventsOnly_modLedger _ _ _

theorem State.occurOnly_eventsOnly (p i pri detail port time : Nat) : s.eventsOnly (s.occurOnly p i pri detail port time).1 := by
  unfold State.occurOnly
  split_ifs <;> try dsimp only
  · exact State.eventsOnly_refl s
  · exact State.formRecord_eventsOnly s p i pri detail port time
  · exact State.eventsOnly_refl s
  · exact State.eventsOnly_modCtl _ _

/-- An occurrence changes only what events change. -/
theorem State.occurPri_eventsOnly (p i pri detail port time : Nat) : s.eventsOnly (s.occurPri p i pri detail port time) := by
  unfold State.occurPri
  split
  · rename_i h; have := State.occurOnly_eventsOnly s p i pri detail port time; rw [h] at this; exact this
  · rename_i h; have := State.occurOnly_eventsOnly s p i pri detail port time; rw [h] at this
    exact State.eventsOnly_then this (State.occurOnly_eventsOnly _ _ _ _ _ _ _)

/-- Raising an event in the supervisor changes only what events change. -/
theorem State.raiseS_eventsOnly (i detail port : Nat) : s.eventsOnly (s.raiseS i detail port) := State.occurPri_eventsOnly s _ _ _ _ _ _

/-- Raising an event in a partition and the supervisor changes only what events change. -/
theorem State.raisePS_eventsOnly (p i detail port : Nat) : s.eventsOnly (s.raisePS p i detail port) := by
  unfold State.raisePS
  simp only
  split_ifs
  · exact State.occurPri_eventsOnly s _ _ _ _ _ _
  · exact State.eventsOnly_then (State.occurPri_eventsOnly s _ _ _ _ _ _) (State.raiseS_eventsOnly _ _ _ _)

end Sys2Proof.Machine
end

