-- ==== Sys2Proof/Laws/EventFields.lean ====
section
/-! SUPPORT. Field by field: what raising an event and a change of mode leave as it was (11 R288; 14 R355, R357). -/

namespace Sys2Proof.Machine

variable (s : State)

theorem State.eventsOnly_pending {s t : State} (h : s.eventsOnly t) : t.pending = s.pending := by have := congrArg State.pending h.1; exact this
theorem State.eventsOnly_sent {s t : State} (h : s.eventsOnly t) : t.sent = s.sent := by have := congrArg State.sent h.1; exact this
theorem State.eventsOnly_freeCtr {s t : State} (h : s.eventsOnly t) : t.freeCtr = s.freeCtr := by have := congrArg State.freeCtr h.1; exact this
theorem State.eventsOnly_mode {s t : State} (h : s.eventsOnly t) : t.mode = s.mode := by have := congrArg State.mode h.1; exact this
theorem State.eventsOnly_trans {s t : State} (h : s.eventsOnly t) : t.trans = s.trans := by have := congrArg State.trans h.1; exact this
theorem State.eventsOnly_transStart {s t : State} (h : s.eventsOnly t) : t.transStart = s.transStart := by have := congrArg State.transStart h.1; exact this
theorem State.eventsOnly_domains {s t : State} (h : s.eventsOnly t) : t.domains = s.domains := by have := congrArg State.domains h.1; exact this
theorem State.eventsOnly_deviceTime {s t : State} (h : s.eventsOnly t) : t.deviceTime = s.deviceTime := by have := congrArg State.deviceTime h.1; exact this
theorem State.eventsOnly_nstby {s t : State} (h : s.eventsOnly t) : t.nstby = s.nstby := by have := congrArg State.nstby h.1; exact this
theorem State.eventsOnly_presA {s t : State} (h : s.eventsOnly t) : t.presA = s.presA := by have := congrArg State.presA h.1; exact this
theorem State.eventsOnly_presB {s t : State} (h : s.eventsOnly t) : t.presB = s.presB := by have := congrArg State.presB h.1; exact this
theorem State.eventsOnly_presLatched {s t : State} (h : s.eventsOnly t) : t.presLatched = s.presLatched := by have := congrArg State.presLatched h.1; exact this
theorem State.eventsOnly_presFault {s t : State} (h : s.eventsOnly t) : t.presFault = s.presFault := by have := congrArg State.presFault h.1; exact this
theorem State.eventsOnly_irqPins {s t : State} (h : s.eventsOnly t) : t.irqPins = s.irqPins := by have := congrArg State.irqPins h.1; exact this
theorem State.eventsOnly_parkRdy {s t : State} (h : s.eventsOnly t) : t.parkRdy = s.parkRdy := by have := congrArg State.parkRdy h.1; exact this
theorem State.eventsOnly_nfaultLow {s t : State} (h : s.eventsOnly t) : t.nfaultLow = s.nfaultLow := by have := congrArg State.nfaultLow h.1; exact this
theorem State.eventsOnly_viom {s t : State} (h : s.eventsOnly t) : t.viom = s.viom := by have := congrArg State.viom h.1; exact this
theorem State.eventsOnly_vnvm {s t : State} (h : s.eventsOnly t) : t.vnvm = s.vnvm := by have := congrArg State.vnvm h.1; exact this
theorem State.eventsOnly_drained {s t : State} (h : s.eventsOnly t) : t.drained = s.drained := by have := congrArg State.drained h.1; exact this
theorem State.eventsOnly_fatalKept {s t : State} (h : s.eventsOnly t) : t.fatalKept = s.fatalKept := by have := congrArg State.fatalKept h.1; exact this
theorem State.eventsOnly_linkWaited {s t : State} (h : s.eventsOnly t) : t.linkWaited = s.linkWaited := by have := congrArg State.linkWaited h.1; exact this
theorem State.eventsOnly_tbState {s t : State} (h : s.eventsOnly t) : t.tbState = s.tbState := by have := congrArg State.tbState h.1; exact this
theorem State.eventsOnly_clkTrimmed {s t : State} (h : s.eventsOnly t) : t.clkTrimmed = s.clkTrimmed := by have := congrArg State.clkTrimmed h.1; exact this
theorem State.eventsOnly_missAll {s t : State} (h : s.eventsOnly t) : t.missAll = s.missAll := by have := congrArg State.missAll h.1; exact this
theorem State.eventsOnly_hot {s t : State} (h : s.eventsOnly t) : t.hot = s.hot := by have := congrArg State.hot h.1; exact this
theorem State.eventsOnly_warned {s t : State} (h : s.eventsOnly t) : t.warned = s.warned := by have := congrArg State.warned h.1; exact this
theorem State.eventsOnly_nodeId {s t : State} (h : s.eventsOnly t) : t.nodeId = s.nodeId := by have := congrArg State.nodeId h.1; exact this
theorem State.eventsOnly_plcaOk {s t : State} (h : s.eventsOnly t) : t.plcaOk = s.plcaOk := by have := congrArg State.plcaOk h.1; exact this
theorem State.eventsOnly_plcaOn {s t : State} (h : s.eventsOnly t) : t.plcaOn = s.plcaOn := by have := congrArg State.plcaOn h.1; exact this
theorem State.eventsOnly_plcaNodes {s t : State} (h : s.eventsOnly t) : t.plcaNodes = s.plcaNodes := by have := congrArg State.plcaNodes h.1; exact this
theorem State.eventsOnly_plcaTimer {s t : State} (h : s.eventsOnly t) : t.plcaTimer = s.plcaTimer := by have := congrArg State.plcaTimer h.1; exact this
theorem State.eventsOnly_staged {s t : State} (h : s.eventsOnly t) : t.staged = s.staged := by have := congrArg State.staged h.1; exact this
theorem State.eventsOnly_oldBound {s t : State} (h : s.eventsOnly t) : t.oldBound = s.oldBound := by have := congrArg State.oldBound h.1; exact this
theorem State.eventsOnly_inForce {s t : State} (h : s.eventsOnly t) : t.inForce = s.inForce := by have := congrArg State.inForce h.1; exact this
theorem State.eventsOnly_epoch {s t : State} (h : s.eventsOnly t) : t.epoch = s.epoch := by have := congrArg State.epoch h.1; exact this
theorem State.eventsOnly_commitState {s t : State} (h : s.eventsOnly t) : t.commitState = s.commitState := by have := congrArg State.commitState h.1; exact this
theorem State.eventsOnly_commitPending {s t : State} (h : s.eventsOnly t) : t.commitPending = s.commitPending := by have := congrArg State.commitPending h.1; exact this
theorem State.eventsOnly_arrays {s t : State} (h : s.eventsOnly t) : t.arrays = s.arrays := by have := congrArg State.arrays h.1; exact this
theorem State.eventsOnly_doomed {s t : State} (h : s.eventsOnly t) : t.doomed = s.doomed := by have := congrArg State.doomed h.1; exact this
theorem State.eventsOnly_lostEntries {s t : State} (h : s.eventsOnly t) : t.lostEntries = s.lostEntries := by have := congrArg State.lostEntries h.1; exact this
theorem State.eventsOnly_links {s t : State} (h : s.eventsOnly t) : t.links = s.links := by have := congrArg State.links h.1; exact this
theorem State.eventsOnly_ports {s t : State} (h : s.eventsOnly t) : t.ports = s.ports := by have := congrArg State.ports h.1; exact this
theorem State.eventsOnly_consoles {s t : State} (h : s.eventsOnly t) : t.consoles = s.consoles := by have := congrArg State.consoles h.1; exact this
theorem State.eventsOnly_bucketMap {s t : State} (h : s.eventsOnly t) : t.bucketMap = s.bucketMap := by have := congrArg State.bucketMap h.1; exact this
theorem State.eventsOnly_moving {s t : State} (h : s.eventsOnly t) : t.moving = s.moving := by have := congrArg State.moving h.1; exact this
theorem State.eventsOnly_txns {s t : State} (h : s.eventsOnly t) : t.txns = s.txns := by have := congrArg State.txns h.1; exact this
theorem State.eventsOnly_nextTxn {s t : State} (h : s.eventsOnly t) : t.nextTxn = s.nextTxn := by have := congrArg State.nextTxn h.1; exact this
theorem State.eventsOnly_credits {s t : State} (h : s.eventsOnly t) : t.credits = s.credits := by have := congrArg State.credits h.1; exact this
theorem State.eventsOnly_mls {s t : State} (h : s.eventsOnly t) : t.mls = s.mls := by have := congrArg State.mls h.1; exact this
theorem State.eventsOnly_chans {s t : State} (h : s.eventsOnly t) : t.chans = s.chans := by have := congrArg State.chans h.1; exact this
theorem State.eventsOnly_chansUsed {s t : State} (h : s.eventsOnly t) : t.chansUsed = s.chansUsed := by have := congrArg State.chansUsed h.1; exact this
theorem State.eventsOnly_chipErrs {s t : State} (h : s.eventsOnly t) : t.chipErrs = s.chipErrs := by have := congrArg State.chipErrs h.1; exact this
theorem State.eventsOnly_wayErrs {s t : State} (h : s.eventsOnly t) : t.wayErrs = s.wayErrs := by have := congrArg State.wayErrs h.1; exact this
theorem State.eventsOnly_evinLevel {s t : State} (h : s.eventsOnly t) : t.evinLevel = s.evinLevel := by have := congrArg State.evinLevel h.1; exact this
theorem State.eventsOnly_evinAsserted {s t : State} (h : s.eventsOnly t) : t.evinAsserted = s.evinAsserted := by have := congrArg State.evinAsserted h.1; exact this
theorem State.eventsOnly_accs {s t : State} (h : s.eventsOnly t) : t.accs = s.accs := by have := congrArg State.accs h.1; exact this
theorem State.eventsOnly_job {s t : State} (h : s.eventsOnly t) : t.job = s.job := by have := congrArg State.job h.1; exact this
theorem State.eventsOnly_scrub {s t : State} (h : s.eventsOnly t) : t.scrub = s.scrub := by have := congrArg State.scrub h.1; exact this
theorem State.eventsOnly_ceArm {s t : State} (h : s.eventsOnly t) : t.ceArm = s.ceArm := by have := congrArg State.ceArm h.1; exact this
theorem State.eventsOnly_ceUnlogArm {s t : State} (h : s.eventsOnly t) : t.ceUnlogArm = s.ceUnlogArm := by have := congrArg State.ceUnlogArm h.1; exact this
theorem State.eventsOnly_patrolDc {s t : State} (h : s.eventsOnly t) : t.patrolDc = s.patrolDc := by have := congrArg State.patrolDc h.1; exact this
theorem State.eventsOnly_patrolTag {s t : State} (h : s.eventsOnly t) : t.patrolTag = s.patrolTag := by have := congrArg State.patrolTag h.1; exact this
theorem State.eventsOnly_patrolCat {s t : State} (h : s.eventsOnly t) : t.patrolCat = s.patrolCat := by have := congrArg State.patrolCat h.1; exact this
theorem State.eventsOnly_resets {s t : State} (h : s.eventsOnly t) : t.resets = s.resets := by have := congrArg State.resets h.1; exact this
theorem State.eventsOnly_tcInval {s t : State} (h : s.eventsOnly t) : t.tcInval = s.tcInval := by have := congrArg State.tcInval h.1; exact this
theorem State.eventsOnly_due {s t : State} (h : s.eventsOnly t) : t.due = s.due := by have := congrArg State.due h.1; exact this
theorem State.eventsOnly_pair {s t : State} (h : s.eventsOnly t) : t.pair = s.pair := by have := congrArg State.pair h.1; exact this
theorem State.eventsOnly_homeNow {s t : State} (h : s.eventsOnly t) : t.homeNow = s.homeNow := by have := congrArg State.homeNow h.1; exact this
theorem State.eventsOnly_jop {s t : State} (h : s.eventsOnly t) : t.jop = s.jop := by have := congrArg State.jop h.1; exact this
theorem State.eventsOnly_nvm {s t : State} (h : s.eventsOnly t) : t.nvm = s.nvm := by have := congrArg State.nvm h.1; exact this

/-! raiseS changes controllers, ledgers and LEDGER_DROPPED alone. -/

@[simp] theorem State.raiseS_pending (i d n : Nat) : (s.raiseS i d n).pending = s.pending := State.eventsOnly_pending (State.raiseS_eventsOnly s i d n)
@[simp] theorem State.raiseS_sent (i d n : Nat) : (s.raiseS i d n).sent = s.sent := State.eventsOnly_sent (State.raiseS_eventsOnly s i d n)
@[simp] theorem State.raiseS_freeCtr (i d n : Nat) : (s.raiseS i d n).freeCtr = s.freeCtr := State.eventsOnly_freeCtr (State.raiseS_eventsOnly s i d n)
@[simp] theorem State.raiseS_mode (i d n : Nat) : (s.raiseS i d n).mode = s.mode := State.eventsOnly_mode (State.raiseS_eventsOnly s i d n)
@[simp] theorem State.raiseS_trans (i d n : Nat) : (s.raiseS i d n).trans = s.trans := State.eventsOnly_trans (State.raiseS_eventsOnly s i d n)
@[simp] theorem State.raiseS_transStart (i d n : Nat) : (s.raiseS i d n).transStart = s.transStart := State.eventsOnly_transStart (State.raiseS_eventsOnly s i d n)
@[simp] theorem State.raiseS_domains (i d n : Nat) : (s.raiseS i d n).domains = s.domains := State.eventsOnly_domains (State.raiseS_eventsOnly s i d n)
@[simp] theorem State.raiseS_deviceTime (i d n : Nat) : (s.raiseS i d n).deviceTime = s.deviceTime := State.eventsOnly_deviceTime (State.raiseS_eventsOnly s i d n)
@[simp] theorem State.raiseS_nstby (i d n : Nat) : (s.raiseS i d n).nstby = s.nstby := State.eventsOnly_nstby (State.raiseS_eventsOnly s i d n)
@[simp] theorem State.raiseS_presA (i d n : Nat) : (s.raiseS i d n).presA = s.presA := State.eventsOnly_presA (State.raiseS_eventsOnly s i d n)
@[simp] theorem State.raiseS_presB (i d n : Nat) : (s.raiseS i d n).presB = s.presB := State.eventsOnly_presB (State.raiseS_eventsOnly s i d n)
@[simp] theorem State.raiseS_presLatched (i d n : Nat) : (s.raiseS i d n).presLatched = s.presLatched := State.eventsOnly_presLatched (State.raiseS_eventsOnly s i d n)
@[simp] theorem State.raiseS_presFault (i d n : Nat) : (s.raiseS i d n).presFault = s.presFault := State.eventsOnly_presFault (State.raiseS_eventsOnly s i d n)
@[simp] theorem State.raiseS_irqPins (i d n : Nat) : (s.raiseS i d n).irqPins = s.irqPins := State.eventsOnly_irqPins (State.raiseS_eventsOnly s i d n)
@[simp] theorem State.raiseS_parkRdy (i d n : Nat) : (s.raiseS i d n).parkRdy = s.parkRdy := State.eventsOnly_parkRdy (State.raiseS_eventsOnly s i d n)
@[simp] theorem State.raiseS_nfaultLow (i d n : Nat) : (s.raiseS i d n).nfaultLow = s.nfaultLow := State.eventsOnly_nfaultLow (State.raiseS_eventsOnly s i d n)
@[simp] theorem State.raiseS_viom (i d n : Nat) : (s.raiseS i d n).viom = s.viom := State.eventsOnly_viom (State.raiseS_eventsOnly s i d n)
@[simp] theorem State.raiseS_vnvm (i d n : Nat) : (s.raiseS i d n).vnvm = s.vnvm := State.eventsOnly_vnvm (State.raiseS_eventsOnly s i d n)
@[simp] theorem State.raiseS_drained (i d n : Nat) : (s.raiseS i d n).drained = s.drained := State.eventsOnly_drained (State.raiseS_eventsOnly s i d n)
@[simp] theorem State.raiseS_fatalKept (i d n : Nat) : (s.raiseS i d n).fatalKept = s.fatalKept := State.eventsOnly_fatalKept (State.raiseS_eventsOnly s i d n)
@[simp] theorem State.raiseS_linkWaited (i d n : Nat) : (s.raiseS i d n).linkWaited = s.linkWaited := State.eventsOnly_linkWaited (State.raiseS_eventsOnly s i d n)
@[simp] theorem State.raiseS_tbState (i d n : Nat) : (s.raiseS i d n).tbState = s.tbState := State.eventsOnly_tbState (State.raiseS_eventsOnly s i d n)
@[simp] theorem State.raiseS_clkTrimmed (i d n : Nat) : (s.raiseS i d n).clkTrimmed = s.clkTrimmed := State.eventsOnly_clkTrimmed (State.raiseS_eventsOnly s i d n)
@[simp] theorem State.raiseS_missAll (i d n : Nat) : (s.raiseS i d n).missAll = s.missAll := State.eventsOnly_missAll (State.raiseS_eventsOnly s i d n)
@[simp] theorem State.raiseS_hot (i d n : Nat) : (s.raiseS i d n).hot = s.hot := State.eventsOnly_hot (State.raiseS_eventsOnly s i d n)
@[simp] theorem State.raiseS_warned (i d n : Nat) : (s.raiseS i d n).warned = s.warned := State.eventsOnly_warned (State.raiseS_eventsOnly s i d n)
@[simp] theorem State.raiseS_nodeId (i d n : Nat) : (s.raiseS i d n).nodeId = s.nodeId := State.eventsOnly_nodeId (State.raiseS_eventsOnly s i d n)
@[simp] theorem State.raiseS_plcaOk (i d n : Nat) : (s.raiseS i d n).plcaOk = s.plcaOk := State.eventsOnly_plcaOk (State.raiseS_eventsOnly s i d n)
@[simp] theorem State.raiseS_plcaOn (i d n : Nat) : (s.raiseS i d n).plcaOn = s.plcaOn := State.eventsOnly_plcaOn (State.raiseS_eventsOnly s i d n)
@[simp] theorem State.raiseS_plcaNodes (i d n : Nat) : (s.raiseS i d n).plcaNodes = s.plcaNodes := State.eventsOnly_plcaNodes (State.raiseS_eventsOnly s i d n)
@[simp] theorem State.raiseS_plcaTimer (i d n : Nat) : (s.raiseS i d n).plcaTimer = s.plcaTimer := State.eventsOnly_plcaTimer (State.raiseS_eventsOnly s i d n)
@[simp] theorem State.raiseS_staged (i d n : Nat) : (s.raiseS i d n).staged = s.staged := State.eventsOnly_staged (State.raiseS_eventsOnly s i d n)
@[simp] theorem State.raiseS_oldBound (i d n : Nat) : (s.raiseS i d n).oldBound = s.oldBound := State.eventsOnly_oldBound (State.raiseS_eventsOnly s i d n)
@[simp] theorem State.raiseS_inForce (i d n : Nat) : (s.raiseS i d n).inForce = s.inForce := State.eventsOnly_inForce (State.raiseS_eventsOnly s i d n)
@[simp] theorem State.raiseS_epoch (i d n : Nat) : (s.raiseS i d n).epoch = s.epoch := State.eventsOnly_epoch (State.raiseS_eventsOnly s i d n)
@[simp] theorem State.raiseS_commitState (i d n : Nat) : (s.raiseS i d n).commitState = s.commitState := State.eventsOnly_commitState (State.raiseS_eventsOnly s i d n)
@[simp] theorem State.raiseS_commitPending (i d n : Nat) : (s.raiseS i d n).commitPending = s.commitPending := State.eventsOnly_commitPending (State.raiseS_eventsOnly s i d n)
@[simp] theorem State.raiseS_arrays (i d n : Nat) : (s.raiseS i d n).arrays = s.arrays := State.eventsOnly_arrays (State.raiseS_eventsOnly s i d n)
@[simp] theorem State.raiseS_doomed (i d n : Nat) : (s.raiseS i d n).doomed = s.doomed := State.eventsOnly_doomed (State.raiseS_eventsOnly s i d n)
@[simp] theorem State.raiseS_lostEntries (i d n : Nat) : (s.raiseS i d n).lostEntries = s.lostEntries := State.eventsOnly_lostEntries (State.raiseS_eventsOnly s i d n)
@[simp] theorem State.raiseS_links (i d n : Nat) : (s.raiseS i d n).links = s.links := State.eventsOnly_links (State.raiseS_eventsOnly s i d n)
@[simp] theorem State.raiseS_ports (i d n : Nat) : (s.raiseS i d n).ports = s.ports := State.eventsOnly_ports (State.raiseS_eventsOnly s i d n)
@[simp] theorem State.raiseS_consoles (i d n : Nat) : (s.raiseS i d n).consoles = s.consoles := State.eventsOnly_consoles (State.raiseS_eventsOnly s i d n)
@[simp] theorem State.raiseS_bucketMap (i d n : Nat) : (s.raiseS i d n).bucketMap = s.bucketMap := State.eventsOnly_bucketMap (State.raiseS_eventsOnly s i d n)
@[simp] theorem State.raiseS_moving (i d n : Nat) : (s.raiseS i d n).moving = s.moving := State.eventsOnly_moving (State.raiseS_eventsOnly s i d n)
@[simp] theorem State.raiseS_txns (i d n : Nat) : (s.raiseS i d n).txns = s.txns := State.eventsOnly_txns (State.raiseS_eventsOnly s i d n)
@[simp] theorem State.raiseS_nextTxn (i d n : Nat) : (s.raiseS i d n).nextTxn = s.nextTxn := State.eventsOnly_nextTxn (State.raiseS_eventsOnly s i d n)
@[simp] theorem State.raiseS_credits (i d n : Nat) : (s.raiseS i d n).credits = s.credits := State.eventsOnly_credits (State.raiseS_eventsOnly s i d n)
@[simp] theorem State.raiseS_mls (i d n : Nat) : (s.raiseS i d n).mls = s.mls := State.eventsOnly_mls (State.raiseS_eventsOnly s i d n)
@[simp] theorem State.raiseS_chans (i d n : Nat) : (s.raiseS i d n).chans = s.chans := State.eventsOnly_chans (State.raiseS_eventsOnly s i d n)
@[simp] theorem State.raiseS_chansUsed (i d n : Nat) : (s.raiseS i d n).chansUsed = s.chansUsed := State.eventsOnly_chansUsed (State.raiseS_eventsOnly s i d n)
@[simp] theorem State.raiseS_chipErrs (i d n : Nat) : (s.raiseS i d n).chipErrs = s.chipErrs := State.eventsOnly_chipErrs (State.raiseS_eventsOnly s i d n)
@[simp] theorem State.raiseS_wayErrs (i d n : Nat) : (s.raiseS i d n).wayErrs = s.wayErrs := State.eventsOnly_wayErrs (State.raiseS_eventsOnly s i d n)
@[simp] theorem State.raiseS_evinLevel (i d n : Nat) : (s.raiseS i d n).evinLevel = s.evinLevel := State.eventsOnly_evinLevel (State.raiseS_eventsOnly s i d n)
@[simp] theorem State.raiseS_evinAsserted (i d n : Nat) : (s.raiseS i d n).evinAsserted = s.evinAsserted := State.eventsOnly_evinAsserted (State.raiseS_eventsOnly s i d n)
@[simp] theorem State.raiseS_accs (i d n : Nat) : (s.raiseS i d n).accs = s.accs := State.eventsOnly_accs (State.raiseS_eventsOnly s i d n)
@[simp] theorem State.raiseS_job (i d n : Nat) : (s.raiseS i d n).job = s.job := State.eventsOnly_job (State.raiseS_eventsOnly s i d n)
@[simp] theorem State.raiseS_scrub (i d n : Nat) : (s.raiseS i d n).scrub = s.scrub := State.eventsOnly_scrub (State.raiseS_eventsOnly s i d n)
@[simp] theorem State.raiseS_ceArm (i d n : Nat) : (s.raiseS i d n).ceArm = s.ceArm := State.eventsOnly_ceArm (State.raiseS_eventsOnly s i d n)
@[simp] theorem State.raiseS_ceUnlogArm (i d n : Nat) : (s.raiseS i d n).ceUnlogArm = s.ceUnlogArm := State.eventsOnly_ceUnlogArm (State.raiseS_eventsOnly s i d n)
@[simp] theorem State.raiseS_patrolDc (i d n : Nat) : (s.raiseS i d n).patrolDc = s.patrolDc := State.eventsOnly_patrolDc (State.raiseS_eventsOnly s i d n)
@[simp] theorem State.raiseS_patrolTag (i d n : Nat) : (s.raiseS i d n).patrolTag = s.patrolTag := State.eventsOnly_patrolTag (State.raiseS_eventsOnly s i d n)
@[simp] theorem State.raiseS_patrolCat (i d n : Nat) : (s.raiseS i d n).patrolCat = s.patrolCat := State.eventsOnly_patrolCat (State.raiseS_eventsOnly s i d n)
@[simp] theorem State.raiseS_resets (i d n : Nat) : (s.raiseS i d n).resets = s.resets := State.eventsOnly_resets (State.raiseS_eventsOnly s i d n)
@[simp] theorem State.raiseS_tcInval (i d n : Nat) : (s.raiseS i d n).tcInval = s.tcInval := State.eventsOnly_tcInval (State.raiseS_eventsOnly s i d n)
@[simp] theorem State.raiseS_due (i d n : Nat) : (s.raiseS i d n).due = s.due := State.eventsOnly_due (State.raiseS_eventsOnly s i d n)
@[simp] theorem State.raiseS_pair (i d n : Nat) : (s.raiseS i d n).pair = s.pair := State.eventsOnly_pair (State.raiseS_eventsOnly s i d n)
@[simp] theorem State.raiseS_homeNow (i d n : Nat) : (s.raiseS i d n).homeNow = s.homeNow := State.eventsOnly_homeNow (State.raiseS_eventsOnly s i d n)
@[simp] theorem State.raiseS_jop (i d n : Nat) : (s.raiseS i d n).jop = s.jop := State.eventsOnly_jop (State.raiseS_eventsOnly s i d n)
@[simp] theorem State.raiseS_nvm (i d n : Nat) : (s.raiseS i d n).nvm = s.nvm := State.eventsOnly_nvm (State.raiseS_eventsOnly s i d n)
@[simp] theorem State.raiseS_port (i d n : Nat) (n0 : Nat) : (s.raiseS i d n).port n0 = s.port n0 := by simp only [State.port, State.raiseS_ports]
@[simp] theorem State.raiseS_link (i d n : Nat) (l0 : LinkId) : (s.raiseS i d n).link l0 = s.link l0 := by simp only [State.link, State.raiseS_links]
@[simp] theorem State.raiseS_ml (i d n : Nat) (k0 : Nat) : (s.raiseS i d n).ml k0 = s.ml k0 := by simp only [State.ml, State.raiseS_mls]
@[simp] theorem State.raiseS_chan (i d n : Nat) (c0 : Nat) : (s.raiseS i d n).chan c0 = s.chan c0 := by simp only [State.chan, State.raiseS_chans]
@[simp] theorem State.raiseS_acc (i d n : Nat) (c0 : Nat) : (s.raiseS i d n).acc c0 = s.acc c0 := by simp only [State.acc, State.raiseS_accs]
@[simp] theorem State.raiseS_pd (i d n : Nat) (d0 : Nat) : (s.raiseS i d n).pd d0 = s.pd d0 := by simp only [State.pd, State.raiseS_domains]

/-! raisePS changes controllers, ledgers and LEDGER_DROPPED alone. -/

@[simp] theorem State.raisePS_pending (p i d n : Nat) : (s.raisePS p i d n).pending = s.pending := State.eventsOnly_pending (State.raisePS_eventsOnly s p i d n)
@[simp] theorem State.raisePS_sent (p i d n : Nat) : (s.raisePS p i d n).sent = s.sent := State.eventsOnly_sent (State.raisePS_eventsOnly s p i d n)
@[simp] theorem State.raisePS_freeCtr (p i d n : Nat) : (s.raisePS p i d n).freeCtr = s.freeCtr := State.eventsOnly_freeCtr (State.raisePS_eventsOnly s p i d n)
@[simp] theorem State.raisePS_mode (p i d n : Nat) : (s.raisePS p i d n).mode = s.mode := State.eventsOnly_mode (State.raisePS_eventsOnly s p i d n)
@[simp] theorem State.raisePS_trans (p i d n : Nat) : (s.raisePS p i d n).trans = s.trans := State.eventsOnly_trans (State.raisePS_eventsOnly s p i d n)
@[simp] theorem State.raisePS_transStart (p i d n : Nat) : (s.raisePS p i d n).transStart = s.transStart := State.eventsOnly_transStart (State.raisePS_eventsOnly s p i d n)
@[simp] theorem State.raisePS_domains (p i d n : Nat) : (s.raisePS p i d n).domains = s.domains := State.eventsOnly_domains (State.raisePS_eventsOnly s p i d n)
@[simp] theorem State.raisePS_deviceTime (p i d n : Nat) : (s.raisePS p i d n).deviceTime = s.deviceTime := State.eventsOnly_deviceTime (State.raisePS_eventsOnly s p i d n)
@[simp] theorem State.raisePS_nstby (p i d n : Nat) : (s.raisePS p i d n).nstby = s.nstby := State.eventsOnly_nstby (State.raisePS_eventsOnly s p i d n)
@[simp] theorem State.raisePS_presA (p i d n : Nat) : (s.raisePS p i d n).presA = s.presA := State.eventsOnly_presA (State.raisePS_eventsOnly s p i d n)
@[simp] theorem State.raisePS_presB (p i d n : Nat) : (s.raisePS p i d n).presB = s.presB := State.eventsOnly_presB (State.raisePS_eventsOnly s p i d n)
@[simp] theorem State.raisePS_presLatched (p i d n : Nat) : (s.raisePS p i d n).presLatched = s.presLatched := State.eventsOnly_presLatched (State.raisePS_eventsOnly s p i d n)
@[simp] theorem State.raisePS_presFault (p i d n : Nat) : (s.raisePS p i d n).presFault = s.presFault := State.eventsOnly_presFault (State.raisePS_eventsOnly s p i d n)
@[simp] theorem State.raisePS_irqPins (p i d n : Nat) : (s.raisePS p i d n).irqPins = s.irqPins := State.eventsOnly_irqPins (State.raisePS_eventsOnly s p i d n)
@[simp] theorem State.raisePS_parkRdy (p i d n : Nat) : (s.raisePS p i d n).parkRdy = s.parkRdy := State.eventsOnly_parkRdy (State.raisePS_eventsOnly s p i d n)
@[simp] theorem State.raisePS_nfaultLow (p i d n : Nat) : (s.raisePS p i d n).nfaultLow = s.nfaultLow := State.eventsOnly_nfaultLow (State.raisePS_eventsOnly s p i d n)
@[simp] theorem State.raisePS_viom (p i d n : Nat) : (s.raisePS p i d n).viom = s.viom := State.eventsOnly_viom (State.raisePS_eventsOnly s p i d n)
@[simp] theorem State.raisePS_vnvm (p i d n : Nat) : (s.raisePS p i d n).vnvm = s.vnvm := State.eventsOnly_vnvm (State.raisePS_eventsOnly s p i d n)
@[simp] theorem State.raisePS_drained (p i d n : Nat) : (s.raisePS p i d n).drained = s.drained := State.eventsOnly_drained (State.raisePS_eventsOnly s p i d n)
@[simp] theorem State.raisePS_fatalKept (p i d n : Nat) : (s.raisePS p i d n).fatalKept = s.fatalKept := State.eventsOnly_fatalKept (State.raisePS_eventsOnly s p i d n)
@[simp] theorem State.raisePS_linkWaited (p i d n : Nat) : (s.raisePS p i d n).linkWaited = s.linkWaited := State.eventsOnly_linkWaited (State.raisePS_eventsOnly s p i d n)
@[simp] theorem State.raisePS_tbState (p i d n : Nat) : (s.raisePS p i d n).tbState = s.tbState := State.eventsOnly_tbState (State.raisePS_eventsOnly s p i d n)
@[simp] theorem State.raisePS_clkTrimmed (p i d n : Nat) : (s.raisePS p i d n).clkTrimmed = s.clkTrimmed := State.eventsOnly_clkTrimmed (State.raisePS_eventsOnly s p i d n)
@[simp] theorem State.raisePS_missAll (p i d n : Nat) : (s.raisePS p i d n).missAll = s.missAll := State.eventsOnly_missAll (State.raisePS_eventsOnly s p i d n)
@[simp] theorem State.raisePS_hot (p i d n : Nat) : (s.raisePS p i d n).hot = s.hot := State.eventsOnly_hot (State.raisePS_eventsOnly s p i d n)
@[simp] theorem State.raisePS_warned (p i d n : Nat) : (s.raisePS p i d n).warned = s.warned := State.eventsOnly_warned (State.raisePS_eventsOnly s p i d n)
@[simp] theorem State.raisePS_nodeId (p i d n : Nat) : (s.raisePS p i d n).nodeId = s.nodeId := State.eventsOnly_nodeId (State.raisePS_eventsOnly s p i d n)
@[simp] theorem State.raisePS_plcaOk (p i d n : Nat) : (s.raisePS p i d n).plcaOk = s.plcaOk := State.eventsOnly_plcaOk (State.raisePS_eventsOnly s p i d n)
@[simp] theorem State.raisePS_plcaOn (p i d n : Nat) : (s.raisePS p i d n).plcaOn = s.plcaOn := State.eventsOnly_plcaOn (State.raisePS_eventsOnly s p i d n)
@[simp] theorem State.raisePS_plcaNodes (p i d n : Nat) : (s.raisePS p i d n).plcaNodes = s.plcaNodes := State.eventsOnly_plcaNodes (State.raisePS_eventsOnly s p i d n)
@[simp] theorem State.raisePS_plcaTimer (p i d n : Nat) : (s.raisePS p i d n).plcaTimer = s.plcaTimer := State.eventsOnly_plcaTimer (State.raisePS_eventsOnly s p i d n)
@[simp] theorem State.raisePS_staged (p i d n : Nat) : (s.raisePS p i d n).staged = s.staged := State.eventsOnly_staged (State.raisePS_eventsOnly s p i d n)
@[simp] theorem State.raisePS_oldBound (p i d n : Nat) : (s.raisePS p i d n).oldBound = s.oldBound := State.eventsOnly_oldBound (State.raisePS_eventsOnly s p i d n)
@[simp] theorem State.raisePS_inForce (p i d n : Nat) : (s.raisePS p i d n).inForce = s.inForce := State.eventsOnly_inForce (State.raisePS_eventsOnly s p i d n)
@[simp] theorem State.raisePS_epoch (p i d n : Nat) : (s.raisePS p i d n).epoch = s.epoch := State.eventsOnly_epoch (State.raisePS_eventsOnly s p i d n)
@[simp] theorem State.raisePS_commitState (p i d n : Nat) : (s.raisePS p i d n).commitState = s.commitState := State.eventsOnly_commitState (State.raisePS_eventsOnly s p i d n)
@[simp] theorem State.raisePS_commitPending (p i d n : Nat) : (s.raisePS p i d n).commitPending = s.commitPending := State.eventsOnly_commitPending (State.raisePS_eventsOnly s p i d n)
@[simp] theorem State.raisePS_arrays (p i d n : Nat) : (s.raisePS p i d n).arrays = s.arrays := State.eventsOnly_arrays (State.raisePS_eventsOnly s p i d n)
@[simp] theorem State.raisePS_doomed (p i d n : Nat) : (s.raisePS p i d n).doomed = s.doomed := State.eventsOnly_doomed (State.raisePS_eventsOnly s p i d n)
@[simp] theorem State.raisePS_lostEntries (p i d n : Nat) : (s.raisePS p i d n).lostEntries = s.lostEntries := State.eventsOnly_lostEntries (State.raisePS_eventsOnly s p i d n)
@[simp] theorem State.raisePS_links (p i d n : Nat) : (s.raisePS p i d n).links = s.links := State.eventsOnly_links (State.raisePS_eventsOnly s p i d n)
@[simp] theorem State.raisePS_ports (p i d n : Nat) : (s.raisePS p i d n).ports = s.ports := State.eventsOnly_ports (State.raisePS_eventsOnly s p i d n)
@[simp] theorem State.raisePS_consoles (p i d n : Nat) : (s.raisePS p i d n).consoles = s.consoles := State.eventsOnly_consoles (State.raisePS_eventsOnly s p i d n)
@[simp] theorem State.raisePS_bucketMap (p i d n : Nat) : (s.raisePS p i d n).bucketMap = s.bucketMap := State.eventsOnly_bucketMap (State.raisePS_eventsOnly s p i d n)
@[simp] theorem State.raisePS_moving (p i d n : Nat) : (s.raisePS p i d n).moving = s.moving := State.eventsOnly_moving (State.raisePS_eventsOnly s p i d n)
@[simp] theorem State.raisePS_txns (p i d n : Nat) : (s.raisePS p i d n).txns = s.txns := State.eventsOnly_txns (State.raisePS_eventsOnly s p i d n)
@[simp] theorem State.raisePS_nextTxn (p i d n : Nat) : (s.raisePS p i d n).nextTxn = s.nextTxn := State.eventsOnly_nextTxn (State.raisePS_eventsOnly s p i d n)
@[simp] theorem State.raisePS_credits (p i d n : Nat) : (s.raisePS p i d n).credits = s.credits := State.eventsOnly_credits (State.raisePS_eventsOnly s p i d n)
@[simp] theorem State.raisePS_mls (p i d n : Nat) : (s.raisePS p i d n).mls = s.mls := State.eventsOnly_mls (State.raisePS_eventsOnly s p i d n)
@[simp] theorem State.raisePS_chans (p i d n : Nat) : (s.raisePS p i d n).chans = s.chans := State.eventsOnly_chans (State.raisePS_eventsOnly s p i d n)
@[simp] theorem State.raisePS_chansUsed (p i d n : Nat) : (s.raisePS p i d n).chansUsed = s.chansUsed := State.eventsOnly_chansUsed (State.raisePS_eventsOnly s p i d n)
@[simp] theorem State.raisePS_chipErrs (p i d n : Nat) : (s.raisePS p i d n).chipErrs = s.chipErrs := State.eventsOnly_chipErrs (State.raisePS_eventsOnly s p i d n)
@[simp] theorem State.raisePS_wayErrs (p i d n : Nat) : (s.raisePS p i d n).wayErrs = s.wayErrs := State.eventsOnly_wayErrs (State.raisePS_eventsOnly s p i d n)
@[simp] theorem State.raisePS_evinLevel (p i d n : Nat) : (s.raisePS p i d n).evinLevel = s.evinLevel := State.eventsOnly_evinLevel (State.raisePS_eventsOnly s p i d n)
@[simp] theorem State.raisePS_evinAsserted (p i d n : Nat) : (s.raisePS p i d n).evinAsserted = s.evinAsserted := State.eventsOnly_evinAsserted (State.raisePS_eventsOnly s p i d n)
@[simp] theorem State.raisePS_accs (p i d n : Nat) : (s.raisePS p i d n).accs = s.accs := State.eventsOnly_accs (State.raisePS_eventsOnly s p i d n)
@[simp] theorem State.raisePS_job (p i d n : Nat) : (s.raisePS p i d n).job = s.job := State.eventsOnly_job (State.raisePS_eventsOnly s p i d n)
@[simp] theorem State.raisePS_scrub (p i d n : Nat) : (s.raisePS p i d n).scrub = s.scrub := State.eventsOnly_scrub (State.raisePS_eventsOnly s p i d n)
@[simp] theorem State.raisePS_ceArm (p i d n : Nat) : (s.raisePS p i d n).ceArm = s.ceArm := State.eventsOnly_ceArm (State.raisePS_eventsOnly s p i d n)
@[simp] theorem State.raisePS_ceUnlogArm (p i d n : Nat) : (s.raisePS p i d n).ceUnlogArm = s.ceUnlogArm := State.eventsOnly_ceUnlogArm (State.raisePS_eventsOnly s p i d n)
@[simp] theorem State.raisePS_patrolDc (p i d n : Nat) : (s.raisePS p i d n).patrolDc = s.patrolDc := State.eventsOnly_patrolDc (State.raisePS_eventsOnly s p i d n)
@[simp] theorem State.raisePS_patrolTag (p i d n : Nat) : (s.raisePS p i d n).patrolTag = s.patrolTag := State.eventsOnly_patrolTag (State.raisePS_eventsOnly s p i d n)
@[simp] theorem State.raisePS_patrolCat (p i d n : Nat) : (s.raisePS p i d n).patrolCat = s.patrolCat := State.eventsOnly_patrolCat (State.raisePS_eventsOnly s p i d n)
@[simp] theorem State.raisePS_resets (p i d n : Nat) : (s.raisePS p i d n).resets = s.resets := State.eventsOnly_resets (State.raisePS_eventsOnly s p i d n)
@[simp] theorem State.raisePS_tcInval (p i d n : Nat) : (s.raisePS p i d n).tcInval = s.tcInval := State.eventsOnly_tcInval (State.raisePS_eventsOnly s p i d n)
@[simp] theorem State.raisePS_due (p i d n : Nat) : (s.raisePS p i d n).due = s.due := State.eventsOnly_due (State.raisePS_eventsOnly s p i d n)
@[simp] theorem State.raisePS_pair (p i d n : Nat) : (s.raisePS p i d n).pair = s.pair := State.eventsOnly_pair (State.raisePS_eventsOnly s p i d n)
@[simp] theorem State.raisePS_homeNow (p i d n : Nat) : (s.raisePS p i d n).homeNow = s.homeNow := State.eventsOnly_homeNow (State.raisePS_eventsOnly s p i d n)
@[simp] theorem State.raisePS_jop (p i d n : Nat) : (s.raisePS p i d n).jop = s.jop := State.eventsOnly_jop (State.raisePS_eventsOnly s p i d n)
@[simp] theorem State.raisePS_nvm (p i d n : Nat) : (s.raisePS p i d n).nvm = s.nvm := State.eventsOnly_nvm (State.raisePS_eventsOnly s p i d n)
@[simp] theorem State.raisePS_port (p i d n : Nat) (n0 : Nat) : (s.raisePS p i d n).port n0 = s.port n0 := by simp only [State.port, State.raisePS_ports]
@[simp] theorem State.raisePS_link (p i d n : Nat) (l0 : LinkId) : (s.raisePS p i d n).link l0 = s.link l0 := by simp only [State.link, State.raisePS_links]
@[simp] theorem State.raisePS_ml (p i d n : Nat) (k0 : Nat) : (s.raisePS p i d n).ml k0 = s.ml k0 := by simp only [State.ml, State.raisePS_mls]
@[simp] theorem State.raisePS_chan (p i d n : Nat) (c0 : Nat) : (s.raisePS p i d n).chan c0 = s.chan c0 := by simp only [State.chan, State.raisePS_chans]
@[simp] theorem State.raisePS_acc (p i d n : Nat) (c0 : Nat) : (s.raisePS p i d n).acc c0 = s.acc c0 := by simp only [State.acc, State.raisePS_accs]
@[simp] theorem State.raisePS_pd (p i d n : Nat) (d0 : Nat) : (s.raisePS p i d n).pd d0 = s.pd d0 := by simp only [State.pd, State.raisePS_domains]

/-! occur changes controllers, ledgers and LEDGER_DROPPED alone. -/

@[simp] theorem State.occur_pending (p i d n : Nat) : (s.occur p i d n).pending = s.pending := State.eventsOnly_pending (State.occurPri_eventsOnly s p i _ d n _)
@[simp] theorem State.occur_sent (p i d n : Nat) : (s.occur p i d n).sent = s.sent := State.eventsOnly_sent (State.occurPri_eventsOnly s p i _ d n _)
@[simp] theorem State.occur_freeCtr (p i d n : Nat) : (s.occur p i d n).freeCtr = s.freeCtr := State.eventsOnly_freeCtr (State.occurPri_eventsOnly s p i _ d n _)
@[simp] theorem State.occur_mode (p i d n : Nat) : (s.occur p i d n).mode = s.mode := State.eventsOnly_mode (State.occurPri_eventsOnly s p i _ d n _)
@[simp] theorem State.occur_trans (p i d n : Nat) : (s.occur p i d n).trans = s.trans := State.eventsOnly_trans (State.occurPri_eventsOnly s p i _ d n _)
@[simp] theorem State.occur_transStart (p i d n : Nat) : (s.occur p i d n).transStart = s.transStart := State.eventsOnly_transStart (State.occurPri_eventsOnly s p i _ d n _)
@[simp] theorem State.occur_domains (p i d n : Nat) : (s.occur p i d n).domains = s.domains := State.eventsOnly_domains (State.occurPri_eventsOnly s p i _ d n _)
@[simp] theorem State.occur_deviceTime (p i d n : Nat) : (s.occur p i d n).deviceTime = s.deviceTime := State.eventsOnly_deviceTime (State.occurPri_eventsOnly s p i _ d n _)
@[simp] theorem State.occur_nstby (p i d n : Nat) : (s.occur p i d n).nstby = s.nstby := State.eventsOnly_nstby (State.occurPri_eventsOnly s p i _ d n _)
@[simp] theorem State.occur_presA (p i d n : Nat) : (s.occur p i d n).presA = s.presA := State.eventsOnly_presA (State.occurPri_eventsOnly s p i _ d n _)
@[simp] theorem State.occur_presB (p i d n : Nat) : (s.occur p i d n).presB = s.presB := State.eventsOnly_presB (State.occurPri_eventsOnly s p i _ d n _)
@[simp] theorem State.occur_presLatched (p i d n : Nat) : (s.occur p i d n).presLatched = s.presLatched := State.eventsOnly_presLatched (State.occurPri_eventsOnly s p i _ d n _)
@[simp] theorem State.occur_presFault (p i d n : Nat) : (s.occur p i d n).presFault = s.presFault := State.eventsOnly_presFault (State.occurPri_eventsOnly s p i _ d n _)
@[simp] theorem State.occur_irqPins (p i d n : Nat) : (s.occur p i d n).irqPins = s.irqPins := State.eventsOnly_irqPins (State.occurPri_eventsOnly s p i _ d n _)
@[simp] theorem State.occur_parkRdy (p i d n : Nat) : (s.occur p i d n).parkRdy = s.parkRdy := State.eventsOnly_parkRdy (State.occurPri_eventsOnly s p i _ d n _)
@[simp] theorem State.occur_nfaultLow (p i d n : Nat) : (s.occur p i d n).nfaultLow = s.nfaultLow := State.eventsOnly_nfaultLow (State.occurPri_eventsOnly s p i _ d n _)
@[simp] theorem State.occur_viom (p i d n : Nat) : (s.occur p i d n).viom = s.viom := State.eventsOnly_viom (State.occurPri_eventsOnly s p i _ d n _)
@[simp] theorem State.occur_vnvm (p i d n : Nat) : (s.occur p i d n).vnvm = s.vnvm := State.eventsOnly_vnvm (State.occurPri_eventsOnly s p i _ d n _)
@[simp] theorem State.occur_drained (p i d n : Nat) : (s.occur p i d n).drained = s.drained := State.eventsOnly_drained (State.occurPri_eventsOnly s p i _ d n _)
@[simp] theorem State.occur_fatalKept (p i d n : Nat) : (s.occur p i d n).fatalKept = s.fatalKept := State.eventsOnly_fatalKept (State.occurPri_eventsOnly s p i _ d n _)
@[simp] theorem State.occur_linkWaited (p i d n : Nat) : (s.occur p i d n).linkWaited = s.linkWaited := State.eventsOnly_linkWaited (State.occurPri_eventsOnly s p i _ d n _)
@[simp] theorem State.occur_tbState (p i d n : Nat) : (s.occur p i d n).tbState = s.tbState := State.eventsOnly_tbState (State.occurPri_eventsOnly s p i _ d n _)
@[simp] theorem State.occur_clkTrimmed (p i d n : Nat) : (s.occur p i d n).clkTrimmed = s.clkTrimmed := State.eventsOnly_clkTrimmed (State.occurPri_eventsOnly s p i _ d n _)
@[simp] theorem State.occur_missAll (p i d n : Nat) : (s.occur p i d n).missAll = s.missAll := State.eventsOnly_missAll (State.occurPri_eventsOnly s p i _ d n _)
@[simp] theorem State.occur_hot (p i d n : Nat) : (s.occur p i d n).hot = s.hot := State.eventsOnly_hot (State.occurPri_eventsOnly s p i _ d n _)
@[simp] theorem State.occur_warned (p i d n : Nat) : (s.occur p i d n).warned = s.warned := State.eventsOnly_warned (State.occurPri_eventsOnly s p i _ d n _)
@[simp] theorem State.occur_nodeId (p i d n : Nat) : (s.occur p i d n).nodeId = s.nodeId := State.eventsOnly_nodeId (State.occurPri_eventsOnly s p i _ d n _)
@[simp] theorem State.occur_plcaOk (p i d n : Nat) : (s.occur p i d n).plcaOk = s.plcaOk := State.eventsOnly_plcaOk (State.occurPri_eventsOnly s p i _ d n _)
@[simp] theorem State.occur_plcaOn (p i d n : Nat) : (s.occur p i d n).plcaOn = s.plcaOn := State.eventsOnly_plcaOn (State.occurPri_eventsOnly s p i _ d n _)
@[simp] theorem State.occur_plcaNodes (p i d n : Nat) : (s.occur p i d n).plcaNodes = s.plcaNodes := State.eventsOnly_plcaNodes (State.occurPri_eventsOnly s p i _ d n _)
@[simp] theorem State.occur_plcaTimer (p i d n : Nat) : (s.occur p i d n).plcaTimer = s.plcaTimer := State.eventsOnly_plcaTimer (State.occurPri_eventsOnly s p i _ d n _)
@[simp] theorem State.occur_staged (p i d n : Nat) : (s.occur p i d n).staged = s.staged := State.eventsOnly_staged (State.occurPri_eventsOnly s p i _ d n _)
@[simp] theorem State.occur_oldBound (p i d n : Nat) : (s.occur p i d n).oldBound = s.oldBound := State.eventsOnly_oldBound (State.occurPri_eventsOnly s p i _ d n _)
@[simp] theorem State.occur_inForce (p i d n : Nat) : (s.occur p i d n).inForce = s.inForce := State.eventsOnly_inForce (State.occurPri_eventsOnly s p i _ d n _)
@[simp] theorem State.occur_epoch (p i d n : Nat) : (s.occur p i d n).epoch = s.epoch := State.eventsOnly_epoch (State.occurPri_eventsOnly s p i _ d n _)
@[simp] theorem State.occur_commitState (p i d n : Nat) : (s.occur p i d n).commitState = s.commitState := State.eventsOnly_commitState (State.occurPri_eventsOnly s p i _ d n _)
@[simp] theorem State.occur_commitPending (p i d n : Nat) : (s.occur p i d n).commitPending = s.commitPending := State.eventsOnly_commitPending (State.occurPri_eventsOnly s p i _ d n _)
@[simp] theorem State.occur_arrays (p i d n : Nat) : (s.occur p i d n).arrays = s.arrays := State.eventsOnly_arrays (State.occurPri_eventsOnly s p i _ d n _)
@[simp] theorem State.occur_doomed (p i d n : Nat) : (s.occur p i d n).doomed = s.doomed := State.eventsOnly_doomed (State.occurPri_eventsOnly s p i _ d n _)
@[simp] theorem State.occur_lostEntries (p i d n : Nat) : (s.occur p i d n).lostEntries = s.lostEntries := State.eventsOnly_lostEntries (State.occurPri_eventsOnly s p i _ d n _)
@[simp] theorem State.occur_links (p i d n : Nat) : (s.occur p i d n).links = s.links := State.eventsOnly_links (State.occurPri_eventsOnly s p i _ d n _)
@[simp] theorem State.occur_ports (p i d n : Nat) : (s.occur p i d n).ports = s.ports := State.eventsOnly_ports (State.occurPri_eventsOnly s p i _ d n _)
@[simp] theorem State.occur_consoles (p i d n : Nat) : (s.occur p i d n).consoles = s.consoles := State.eventsOnly_consoles (State.occurPri_eventsOnly s p i _ d n _)
@[simp] theorem State.occur_bucketMap (p i d n : Nat) : (s.occur p i d n).bucketMap = s.bucketMap := State.eventsOnly_bucketMap (State.occurPri_eventsOnly s p i _ d n _)
@[simp] theorem State.occur_moving (p i d n : Nat) : (s.occur p i d n).moving = s.moving := State.eventsOnly_moving (State.occurPri_eventsOnly s p i _ d n _)
@[simp] theorem State.occur_txns (p i d n : Nat) : (s.occur p i d n).txns = s.txns := State.eventsOnly_txns (State.occurPri_eventsOnly s p i _ d n _)
@[simp] theorem State.occur_nextTxn (p i d n : Nat) : (s.occur p i d n).nextTxn = s.nextTxn := State.eventsOnly_nextTxn (State.occurPri_eventsOnly s p i _ d n _)
@[simp] theorem State.occur_credits (p i d n : Nat) : (s.occur p i d n).credits = s.credits := State.eventsOnly_credits (State.occurPri_eventsOnly s p i _ d n _)
@[simp] theorem State.occur_mls (p i d n : Nat) : (s.occur p i d n).mls = s.mls := State.eventsOnly_mls (State.occurPri_eventsOnly s p i _ d n _)
@[simp] theorem State.occur_chans (p i d n : Nat) : (s.occur p i d n).chans = s.chans := State.eventsOnly_chans (State.occurPri_eventsOnly s p i _ d n _)
@[simp] theorem State.occur_chansUsed (p i d n : Nat) : (s.occur p i d n).chansUsed = s.chansUsed := State.eventsOnly_chansUsed (State.occurPri_eventsOnly s p i _ d n _)
@[simp] theorem State.occur_chipErrs (p i d n : Nat) : (s.occur p i d n).chipErrs = s.chipErrs := State.eventsOnly_chipErrs (State.occurPri_eventsOnly s p i _ d n _)
@[simp] theorem State.occur_wayErrs (p i d n : Nat) : (s.occur p i d n).wayErrs = s.wayErrs := State.eventsOnly_wayErrs (State.occurPri_eventsOnly s p i _ d n _)
@[simp] theorem State.occur_evinLevel (p i d n : Nat) : (s.occur p i d n).evinLevel = s.evinLevel := State.eventsOnly_evinLevel (State.occurPri_eventsOnly s p i _ d n _)
@[simp] theorem State.occur_evinAsserted (p i d n : Nat) : (s.occur p i d n).evinAsserted = s.evinAsserted := State.eventsOnly_evinAsserted (State.occurPri_eventsOnly s p i _ d n _)
@[simp] theorem State.occur_accs (p i d n : Nat) : (s.occur p i d n).accs = s.accs := State.eventsOnly_accs (State.occurPri_eventsOnly s p i _ d n _)
@[simp] theorem State.occur_job (p i d n : Nat) : (s.occur p i d n).job = s.job := State.eventsOnly_job (State.occurPri_eventsOnly s p i _ d n _)
@[simp] theorem State.occur_scrub (p i d n : Nat) : (s.occur p i d n).scrub = s.scrub := State.eventsOnly_scrub (State.occurPri_eventsOnly s p i _ d n _)
@[simp] theorem State.occur_ceArm (p i d n : Nat) : (s.occur p i d n).ceArm = s.ceArm := State.eventsOnly_ceArm (State.occurPri_eventsOnly s p i _ d n _)
@[simp] theorem State.occur_ceUnlogArm (p i d n : Nat) : (s.occur p i d n).ceUnlogArm = s.ceUnlogArm := State.eventsOnly_ceUnlogArm (State.occurPri_eventsOnly s p i _ d n _)
@[simp] theorem State.occur_patrolDc (p i d n : Nat) : (s.occur p i d n).patrolDc = s.patrolDc := State.eventsOnly_patrolDc (State.occurPri_eventsOnly s p i _ d n _)
@[simp] theorem State.occur_patrolTag (p i d n : Nat) : (s.occur p i d n).patrolTag = s.patrolTag := State.eventsOnly_patrolTag (State.occurPri_eventsOnly s p i _ d n _)
@[simp] theorem State.occur_patrolCat (p i d n : Nat) : (s.occur p i d n).patrolCat = s.patrolCat := State.eventsOnly_patrolCat (State.occurPri_eventsOnly s p i _ d n _)
@[simp] theorem State.occur_resets (p i d n : Nat) : (s.occur p i d n).resets = s.resets := State.eventsOnly_resets (State.occurPri_eventsOnly s p i _ d n _)
@[simp] theorem State.occur_tcInval (p i d n : Nat) : (s.occur p i d n).tcInval = s.tcInval := State.eventsOnly_tcInval (State.occurPri_eventsOnly s p i _ d n _)
@[simp] theorem State.occur_due (p i d n : Nat) : (s.occur p i d n).due = s.due := State.eventsOnly_due (State.occurPri_eventsOnly s p i _ d n _)
@[simp] theorem State.occur_pair (p i d n : Nat) : (s.occur p i d n).pair = s.pair := State.eventsOnly_pair (State.occurPri_eventsOnly s p i _ d n _)
@[simp] theorem State.occur_homeNow (p i d n : Nat) : (s.occur p i d n).homeNow = s.homeNow := State.eventsOnly_homeNow (State.occurPri_eventsOnly s p i _ d n _)
@[simp] theorem State.occur_jop (p i d n : Nat) : (s.occur p i d n).jop = s.jop := State.eventsOnly_jop (State.occurPri_eventsOnly s p i _ d n _)
@[simp] theorem State.occur_nvm (p i d n : Nat) : (s.occur p i d n).nvm = s.nvm := State.eventsOnly_nvm (State.occurPri_eventsOnly s p i _ d n _)
@[simp] theorem State.occur_port (p i d n : Nat) (n0 : Nat) : (s.occur p i d n).port n0 = s.port n0 := by simp only [State.port, State.occur_ports]
@[simp] theorem State.occur_link (p i d n : Nat) (l0 : LinkId) : (s.occur p i d n).link l0 = s.link l0 := by simp only [State.link, State.occur_links]
@[simp] theorem State.occur_ml (p i d n : Nat) (k0 : Nat) : (s.occur p i d n).ml k0 = s.ml k0 := by simp only [State.ml, State.occur_mls]
@[simp] theorem State.occur_chan (p i d n : Nat) (c0 : Nat) : (s.occur p i d n).chan c0 = s.chan c0 := by simp only [State.chan, State.occur_chans]
@[simp] theorem State.occur_acc (p i d n : Nat) (c0 : Nat) : (s.occur p i d n).acc c0 = s.acc c0 := by simp only [State.acc, State.occur_accs]
@[simp] theorem State.occur_pd (p i d n : Nat) (d0 : Nat) : (s.occur p i d n).pd d0 = s.pd d0 := by simp only [State.pd, State.occur_domains]

/-! occurPri changes controllers, ledgers and LEDGER_DROPPED alone. -/

@[simp] theorem State.occurPri_pending (p i q d n : Nat) : (s.occurPri p i q d n).pending = s.pending := State.eventsOnly_pending (State.occurPri_eventsOnly s p i q d n _)
@[simp] theorem State.occurPri_sent (p i q d n : Nat) : (s.occurPri p i q d n).sent = s.sent := State.eventsOnly_sent (State.occurPri_eventsOnly s p i q d n _)
@[simp] theorem State.occurPri_freeCtr (p i q d n : Nat) : (s.occurPri p i q d n).freeCtr = s.freeCtr := State.eventsOnly_freeCtr (State.occurPri_eventsOnly s p i q d n _)
@[simp] theorem State.occurPri_mode (p i q d n : Nat) : (s.occurPri p i q d n).mode = s.mode := State.eventsOnly_mode (State.occurPri_eventsOnly s p i q d n _)
@[simp] theorem State.occurPri_trans (p i q d n : Nat) : (s.occurPri p i q d n).trans = s.trans := State.eventsOnly_trans (State.occurPri_eventsOnly s p i q d n _)
@[simp] theorem State.occurPri_transStart (p i q d n : Nat) : (s.occurPri p i q d n).transStart = s.transStart := State.eventsOnly_transStart (State.occurPri_eventsOnly s p i q d n _)
@[simp] theorem State.occurPri_domains (p i q d n : Nat) : (s.occurPri p i q d n).domains = s.domains := State.eventsOnly_domains (State.occurPri_eventsOnly s p i q d n _)
@[simp] theorem State.occurPri_deviceTime (p i q d n : Nat) : (s.occurPri p i q d n).deviceTime = s.deviceTime := State.eventsOnly_deviceTime (State.occurPri_eventsOnly s p i q d n _)
@[simp] theorem State.occurPri_nstby (p i q d n : Nat) : (s.occurPri p i q d n).nstby = s.nstby := State.eventsOnly_nstby (State.occurPri_eventsOnly s p i q d n _)
@[simp] theorem State.occurPri_presA (p i q d n : Nat) : (s.occurPri p i q d n).presA = s.presA := State.eventsOnly_presA (State.occurPri_eventsOnly s p i q d n _)
@[simp] theorem State.occurPri_presB (p i q d n : Nat) : (s.occurPri p i q d n).presB = s.presB := State.eventsOnly_presB (State.occurPri_eventsOnly s p i q d n _)
@[simp] theorem State.occurPri_presLatched (p i q d n : Nat) : (s.occurPri p i q d n).presLatched = s.presLatched := State.eventsOnly_presLatched (State.occurPri_eventsOnly s p i q d n _)
@[simp] theorem State.occurPri_presFault (p i q d n : Nat) : (s.occurPri p i q d n).presFault = s.presFault := State.eventsOnly_presFault (State.occurPri_eventsOnly s p i q d n _)
@[simp] theorem State.occurPri_irqPins (p i q d n : Nat) : (s.occurPri p i q d n).irqPins = s.irqPins := State.eventsOnly_irqPins (State.occurPri_eventsOnly s p i q d n _)
@[simp] theorem State.occurPri_parkRdy (p i q d n : Nat) : (s.occurPri p i q d n).parkRdy = s.parkRdy := State.eventsOnly_parkRdy (State.occurPri_eventsOnly s p i q d n _)
@[simp] theorem State.occurPri_nfaultLow (p i q d n : Nat) : (s.occurPri p i q d n).nfaultLow = s.nfaultLow := State.eventsOnly_nfaultLow (State.occurPri_eventsOnly s p i q d n _)
@[simp] theorem State.occurPri_viom (p i q d n : Nat) : (s.occurPri p i q d n).viom = s.viom := State.eventsOnly_viom (State.occurPri_eventsOnly s p i q d n _)
@[simp] theorem State.occurPri_vnvm (p i q d n : Nat) : (s.occurPri p i q d n).vnvm = s.vnvm := State.eventsOnly_vnvm (State.occurPri_eventsOnly s p i q d n _)
@[simp] theorem State.occurPri_drained (p i q d n : Nat) : (s.occurPri p i q d n).drained = s.drained := State.eventsOnly_drained (State.occurPri_eventsOnly s p i q d n _)
@[simp] theorem State.occurPri_fatalKept (p i q d n : Nat) : (s.occurPri p i q d n).fatalKept = s.fatalKept := State.eventsOnly_fatalKept (State.occurPri_eventsOnly s p i q d n _)
@[simp] theorem State.occurPri_linkWaited (p i q d n : Nat) : (s.occurPri p i q d n).linkWaited = s.linkWaited := State.eventsOnly_linkWaited (State.occurPri_eventsOnly s p i q d n _)
@[simp] theorem State.occurPri_tbState (p i q d n : Nat) : (s.occurPri p i q d n).tbState = s.tbState := State.eventsOnly_tbState (State.occurPri_eventsOnly s p i q d n _)
@[simp] theorem State.occurPri_clkTrimmed (p i q d n : Nat) : (s.occurPri p i q d n).clkTrimmed = s.clkTrimmed := State.eventsOnly_clkTrimmed (State.occurPri_eventsOnly s p i q d n _)
@[simp] theorem State.occurPri_missAll (p i q d n : Nat) : (s.occurPri p i q d n).missAll = s.missAll := State.eventsOnly_missAll (State.occurPri_eventsOnly s p i q d n _)
@[simp] theorem State.occurPri_hot (p i q d n : Nat) : (s.occurPri p i q d n).hot = s.hot := State.eventsOnly_hot (State.occurPri_eventsOnly s p i q d n _)
@[simp] theorem State.occurPri_warned (p i q d n : Nat) : (s.occurPri p i q d n).warned = s.warned := State.eventsOnly_warned (State.occurPri_eventsOnly s p i q d n _)
@[simp] theorem State.occurPri_nodeId (p i q d n : Nat) : (s.occurPri p i q d n).nodeId = s.nodeId := State.eventsOnly_nodeId (State.occurPri_eventsOnly s p i q d n _)
@[simp] theorem State.occurPri_plcaOk (p i q d n : Nat) : (s.occurPri p i q d n).plcaOk = s.plcaOk := State.eventsOnly_plcaOk (State.occurPri_eventsOnly s p i q d n _)
@[simp] theorem State.occurPri_plcaOn (p i q d n : Nat) : (s.occurPri p i q d n).plcaOn = s.plcaOn := State.eventsOnly_plcaOn (State.occurPri_eventsOnly s p i q d n _)
@[simp] theorem State.occurPri_plcaNodes (p i q d n : Nat) : (s.occurPri p i q d n).plcaNodes = s.plcaNodes := State.eventsOnly_plcaNodes (State.occurPri_eventsOnly s p i q d n _)
@[simp] theorem State.occurPri_plcaTimer (p i q d n : Nat) : (s.occurPri p i q d n).plcaTimer = s.plcaTimer := State.eventsOnly_plcaTimer (State.occurPri_eventsOnly s p i q d n _)
@[simp] theorem State.occurPri_staged (p i q d n : Nat) : (s.occurPri p i q d n).staged = s.staged := State.eventsOnly_staged (State.occurPri_eventsOnly s p i q d n _)
@[simp] theorem State.occurPri_oldBound (p i q d n : Nat) : (s.occurPri p i q d n).oldBound = s.oldBound := State.eventsOnly_oldBound (State.occurPri_eventsOnly s p i q d n _)
@[simp] theorem State.occurPri_inForce (p i q d n : Nat) : (s.occurPri p i q d n).inForce = s.inForce := State.eventsOnly_inForce (State.occurPri_eventsOnly s p i q d n _)
@[simp] theorem State.occurPri_epoch (p i q d n : Nat) : (s.occurPri p i q d n).epoch = s.epoch := State.eventsOnly_epoch (State.occurPri_eventsOnly s p i q d n _)
@[simp] theorem State.occurPri_commitState (p i q d n : Nat) : (s.occurPri p i q d n).commitState = s.commitState := State.eventsOnly_commitState (State.occurPri_eventsOnly s p i q d n _)
@[simp] theorem State.occurPri_commitPending (p i q d n : Nat) : (s.occurPri p i q d n).commitPending = s.commitPending := State.eventsOnly_commitPending (State.occurPri_eventsOnly s p i q d n _)
@[simp] theorem State.occurPri_arrays (p i q d n : Nat) : (s.occurPri p i q d n).arrays = s.arrays := State.eventsOnly_arrays (State.occurPri_eventsOnly s p i q d n _)
@[simp] theorem State.occurPri_doomed (p i q d n : Nat) : (s.occurPri p i q d n).doomed = s.doomed := State.eventsOnly_doomed (State.occurPri_eventsOnly s p i q d n _)
@[simp] theorem State.occurPri_lostEntries (p i q d n : Nat) : (s.occurPri p i q d n).lostEntries = s.lostEntries := State.eventsOnly_lostEntries (State.occurPri_eventsOnly s p i q d n _)
@[simp] theorem State.occurPri_links (p i q d n : Nat) : (s.occurPri p i q d n).links = s.links := State.eventsOnly_links (State.occurPri_eventsOnly s p i q d n _)
@[simp] theorem State.occurPri_ports (p i q d n : Nat) : (s.occurPri p i q d n).ports = s.ports := State.eventsOnly_ports (State.occurPri_eventsOnly s p i q d n _)
@[simp] theorem State.occurPri_consoles (p i q d n : Nat) : (s.occurPri p i q d n).consoles = s.consoles := State.eventsOnly_consoles (State.occurPri_eventsOnly s p i q d n _)
@[simp] theorem State.occurPri_bucketMap (p i q d n : Nat) : (s.occurPri p i q d n).bucketMap = s.bucketMap := State.eventsOnly_bucketMap (State.occurPri_eventsOnly s p i q d n _)
@[simp] theorem State.occurPri_moving (p i q d n : Nat) : (s.occurPri p i q d n).moving = s.moving := State.eventsOnly_moving (State.occurPri_eventsOnly s p i q d n _)
@[simp] theorem State.occurPri_txns (p i q d n : Nat) : (s.occurPri p i q d n).txns = s.txns := State.eventsOnly_txns (State.occurPri_eventsOnly s p i q d n _)
@[simp] theorem State.occurPri_nextTxn (p i q d n : Nat) : (s.occurPri p i q d n).nextTxn = s.nextTxn := State.eventsOnly_nextTxn (State.occurPri_eventsOnly s p i q d n _)
@[simp] theorem State.occurPri_credits (p i q d n : Nat) : (s.occurPri p i q d n).credits = s.credits := State.eventsOnly_credits (State.occurPri_eventsOnly s p i q d n _)
@[simp] theorem State.occurPri_mls (p i q d n : Nat) : (s.occurPri p i q d n).mls = s.mls := State.eventsOnly_mls (State.occurPri_eventsOnly s p i q d n _)
@[simp] theorem State.occurPri_chans (p i q d n : Nat) : (s.occurPri p i q d n).chans = s.chans := State.eventsOnly_chans (State.occurPri_eventsOnly s p i q d n _)
@[simp] theorem State.occurPri_chansUsed (p i q d n : Nat) : (s.occurPri p i q d n).chansUsed = s.chansUsed := State.eventsOnly_chansUsed (State.occurPri_eventsOnly s p i q d n _)
@[simp] theorem State.occurPri_chipErrs (p i q d n : Nat) : (s.occurPri p i q d n).chipErrs = s.chipErrs := State.eventsOnly_chipErrs (State.occurPri_eventsOnly s p i q d n _)
@[simp] theorem State.occurPri_wayErrs (p i q d n : Nat) : (s.occurPri p i q d n).wayErrs = s.wayErrs := State.eventsOnly_wayErrs (State.occurPri_eventsOnly s p i q d n _)
@[simp] theorem State.occurPri_evinLevel (p i q d n : Nat) : (s.occurPri p i q d n).evinLevel = s.evinLevel := State.eventsOnly_evinLevel (State.occurPri_eventsOnly s p i q d n _)
@[simp] theorem State.occurPri_evinAsserted (p i q d n : Nat) : (s.occurPri p i q d n).evinAsserted = s.evinAsserted := State.eventsOnly_evinAsserted (State.occurPri_eventsOnly s p i q d n _)
@[simp] theorem State.occurPri_accs (p i q d n : Nat) : (s.occurPri p i q d n).accs = s.accs := State.eventsOnly_accs (State.occurPri_eventsOnly s p i q d n _)
@[simp] theorem State.occurPri_job (p i q d n : Nat) : (s.occurPri p i q d n).job = s.job := State.eventsOnly_job (State.occurPri_eventsOnly s p i q d n _)
@[simp] theorem State.occurPri_scrub (p i q d n : Nat) : (s.occurPri p i q d n).scrub = s.scrub := State.eventsOnly_scrub (State.occurPri_eventsOnly s p i q d n _)
@[simp] theorem State.occurPri_ceArm (p i q d n : Nat) : (s.occurPri p i q d n).ceArm = s.ceArm := State.eventsOnly_ceArm (State.occurPri_eventsOnly s p i q d n _)
@[simp] theorem State.occurPri_ceUnlogArm (p i q d n : Nat) : (s.occurPri p i q d n).ceUnlogArm = s.ceUnlogArm := State.eventsOnly_ceUnlogArm (State.occurPri_eventsOnly s p i q d n _)
@[simp] theorem State.occurPri_patrolDc (p i q d n : Nat) : (s.occurPri p i q d n).patrolDc = s.patrolDc := State.eventsOnly_patrolDc (State.occurPri_eventsOnly s p i q d n _)
@[simp] theorem State.occurPri_patrolTag (p i q d n : Nat) : (s.occurPri p i q d n).patrolTag = s.patrolTag := State.eventsOnly_patrolTag (State.occurPri_eventsOnly s p i q d n _)
@[simp] theorem State.occurPri_patrolCat (p i q d n : Nat) : (s.occurPri p i q d n).patrolCat = s.patrolCat := State.eventsOnly_patrolCat (State.occurPri_eventsOnly s p i q d n _)
@[simp] theorem State.occurPri_resets (p i q d n : Nat) : (s.occurPri p i q d n).resets = s.resets := State.eventsOnly_resets (State.occurPri_eventsOnly s p i q d n _)
@[simp] theorem State.occurPri_tcInval (p i q d n : Nat) : (s.occurPri p i q d n).tcInval = s.tcInval := State.eventsOnly_tcInval (State.occurPri_eventsOnly s p i q d n _)
@[simp] theorem State.occurPri_due (p i q d n : Nat) : (s.occurPri p i q d n).due = s.due := State.eventsOnly_due (State.occurPri_eventsOnly s p i q d n _)
@[simp] theorem State.occurPri_pair (p i q d n : Nat) : (s.occurPri p i q d n).pair = s.pair := State.eventsOnly_pair (State.occurPri_eventsOnly s p i q d n _)
@[simp] theorem State.occurPri_homeNow (p i q d n : Nat) : (s.occurPri p i q d n).homeNow = s.homeNow := State.eventsOnly_homeNow (State.occurPri_eventsOnly s p i q d n _)
@[simp] theorem State.occurPri_jop (p i q d n : Nat) : (s.occurPri p i q d n).jop = s.jop := State.eventsOnly_jop (State.occurPri_eventsOnly s p i q d n _)
@[simp] theorem State.occurPri_nvm (p i q d n : Nat) : (s.occurPri p i q d n).nvm = s.nvm := State.eventsOnly_nvm (State.occurPri_eventsOnly s p i q d n _)
@[simp] theorem State.occurPri_port (p i q d n : Nat) (n0 : Nat) : (s.occurPri p i q d n).port n0 = s.port n0 := by simp only [State.port, State.occurPri_ports]
@[simp] theorem State.occurPri_link (p i q d n : Nat) (l0 : LinkId) : (s.occurPri p i q d n).link l0 = s.link l0 := by simp only [State.link, State.occurPri_links]
@[simp] theorem State.occurPri_ml (p i q d n : Nat) (k0 : Nat) : (s.occurPri p i q d n).ml k0 = s.ml k0 := by simp only [State.ml, State.occurPri_mls]
@[simp] theorem State.occurPri_chan (p i q d n : Nat) (c0 : Nat) : (s.occurPri p i q d n).chan c0 = s.chan c0 := by simp only [State.chan, State.occurPri_chans]
@[simp] theorem State.occurPri_acc (p i q d n : Nat) (c0 : Nat) : (s.occurPri p i q d n).acc c0 = s.acc c0 := by simp only [State.acc, State.occurPri_accs]
@[simp] theorem State.occurPri_pd (p i q d n : Nat) (d0 : Nat) : (s.occurPri p i q d n).pd d0 = s.pd d0 := by simp only [State.pd, State.occurPri_domains]

/-! Port groups switched at a change of mode. -/

/-- Switching the port groups changes power domains, and the translation caches of a group that goes off (14 R352, R353). -/
theorem State.switchGroups_frame : s.switchGroups =
    { s with domains := s.switchGroups.domains, arrays := s.switchGroups.arrays, ports := s.switchGroups.ports } := by
  have h : ∀ (l : List Nat) (u : State), ∃ p, l.foldl (fun s n => s.modPort n (fun p => { p with tcOrder := [] })) u = { u with ports := p } := by
    intro l
    induction l with
    | nil => intro u; exact ⟨u.ports, rfl⟩
    | cons n l ih => intro u; obtain ⟨p, hp⟩ := ih (u.modPort n (fun p => { p with tcOrder := [] })); exact ⟨p, by rw [List.foldl_cons, hp]; rfl⟩
  unfold State.switchGroups
  split
  · rfl
  · dsimp only
    generalize List.filter _ (List.range 48) = l
    generalize List.filter _ s.arrays = ar
    generalize ((s.domains &&& 0xC7F) ||| (s.fullDomains &&& 0x380)) = d
    obtain ⟨p, hp⟩ := h l { s with domains := d, arrays := ar }
    rw [hp]

theorem State.switchGroups_same (h : s.mode.powersAll = false) : s.switchGroups = s := by simp [State.switchGroups, h]

@[simp] theorem State.switchGroups_pending : s.switchGroups.pending = s.pending := by rw [State.switchGroups_frame]
@[simp] theorem State.switchGroups_sent : s.switchGroups.sent = s.sent := by rw [State.switchGroups_frame]
@[simp] theorem State.switchGroups_freeCtr : s.switchGroups.freeCtr = s.freeCtr := by rw [State.switchGroups_frame]
@[simp] theorem State.switchGroups_mode : s.switchGroups.mode = s.mode := by rw [State.switchGroups_frame]
@[simp] theorem State.switchGroups_trans : s.switchGroups.trans = s.trans := by rw [State.switchGroups_frame]
@[simp] theorem State.switchGroups_transStart : s.switchGroups.transStart = s.transStart := by rw [State.switchGroups_frame]
@[simp] theorem State.switchGroups_deviceTime : s.switchGroups.deviceTime = s.deviceTime := by rw [State.switchGroups_frame]
@[simp] theorem State.switchGroups_nstby : s.switchGroups.nstby = s.nstby := by rw [State.switchGroups_frame]
@[simp] theorem State.switchGroups_presA : s.switchGroups.presA = s.presA := by rw [State.switchGroups_frame]
@[simp] theorem State.switchGroups_presB : s.switchGroups.presB = s.presB := by rw [State.switchGroups_frame]
@[simp] theorem State.switchGroups_presLatched : s.switchGroups.presLatched = s.presLatched := by rw [State.switchGroups_frame]
@[simp] theorem State.switchGroups_presFault : s.switchGroups.presFault = s.presFault := by rw [State.switchGroups_frame]
@[simp] theorem State.switchGroups_irqPins : s.switchGroups.irqPins = s.irqPins := by rw [State.switchGroups_frame]
@[simp] theorem State.switchGroups_parkRdy : s.switchGroups.parkRdy = s.parkRdy := by rw [State.switchGroups_frame]
@[simp] theorem State.switchGroups_nfaultLow : s.switchGroups.nfaultLow = s.nfaultLow := by rw [State.switchGroups_frame]
@[simp] theorem State.switchGroups_viom : s.switchGroups.viom = s.viom := by rw [State.switchGroups_frame]
@[simp] theorem State.switchGroups_vnvm : s.switchGroups.vnvm = s.vnvm := by rw [State.switchGroups_frame]
@[simp] theorem State.switchGroups_drained : s.switchGroups.drained = s.drained := by rw [State.switchGroups_frame]
@[simp] theorem State.switchGroups_fatalKept : s.switchGroups.fatalKept = s.fatalKept := by rw [State.switchGroups_frame]
@[simp] theorem State.switchGroups_linkWaited : s.switchGroups.linkWaited = s.linkWaited := by rw [State.switchGroups_frame]
@[simp] theorem State.switchGroups_tbState : s.switchGroups.tbState = s.tbState := by rw [State.switchGroups_frame]
@[simp] theorem State.switchGroups_clkTrimmed : s.switchGroups.clkTrimmed = s.clkTrimmed := by rw [State.switchGroups_frame]
@[simp] theorem State.switchGroups_missAll : s.switchGroups.missAll = s.missAll := by rw [State.switchGroups_frame]
@[simp] theorem State.switchGroups_hot : s.switchGroups.hot = s.hot := by rw [State.switchGroups_frame]
@[simp] theorem State.switchGroups_warned : s.switchGroups.warned = s.warned := by rw [State.switchGroups_frame]
@[simp] theorem State.switchGroups_nodeId : s.switchGroups.nodeId = s.nodeId := by rw [State.switchGroups_frame]
@[simp] theorem State.switchGroups_plcaOk : s.switchGroups.plcaOk = s.plcaOk := by rw [State.switchGroups_frame]
@[simp] theorem State.switchGroups_plcaOn : s.switchGroups.plcaOn = s.plcaOn := by rw [State.switchGroups_frame]
@[simp] theorem State.switchGroups_plcaNodes : s.switchGroups.plcaNodes = s.plcaNodes := by rw [State.switchGroups_frame]
@[simp] theorem State.switchGroups_plcaTimer : s.switchGroups.plcaTimer = s.plcaTimer := by rw [State.switchGroups_frame]
@[simp] theorem State.switchGroups_objs : s.switchGroups.objs = s.objs := by rw [State.switchGroups_frame]
@[simp] theorem State.switchGroups_staged : s.switchGroups.staged = s.staged := by rw [State.switchGroups_frame]
@[simp] theorem State.switchGroups_oldBound : s.switchGroups.oldBound = s.oldBound := by rw [State.switchGroups_frame]
@[simp] theorem State.switchGroups_inForce : s.switchGroups.inForce = s.inForce := by rw [State.switchGroups_frame]
@[simp] theorem State.switchGroups_epoch : s.switchGroups.epoch = s.epoch := by rw [State.switchGroups_frame]
@[simp] theorem State.switchGroups_commitState : s.switchGroups.commitState = s.commitState := by rw [State.switchGroups_frame]
@[simp] theorem State.switchGroups_commitPending : s.switchGroups.commitPending = s.commitPending := by rw [State.switchGroups_frame]
@[simp] theorem State.switchGroups_doomed : s.switchGroups.doomed = s.doomed := by rw [State.switchGroups_frame]
@[simp] theorem State.switchGroups_lostEntries : s.switchGroups.lostEntries = s.lostEntries := by rw [State.switchGroups_frame]
@[simp] theorem State.switchGroups_links : s.switchGroups.links = s.links := by rw [State.switchGroups_frame]
@[simp] theorem State.switchGroups_consoles : s.switchGroups.consoles = s.consoles := by rw [State.switchGroups_frame]
@[simp] theorem State.switchGroups_bucketMap : s.switchGroups.bucketMap = s.bucketMap := by rw [State.switchGroups_frame]
@[simp] theorem State.switchGroups_moving : s.switchGroups.moving = s.moving := by rw [State.switchGroups_frame]
@[simp] theorem State.switchGroups_txns : s.switchGroups.txns = s.txns := by rw [State.switchGroups_frame]
@[simp] theorem State.switchGroups_nextTxn : s.switchGroups.nextTxn = s.nextTxn := by rw [State.switchGroups_frame]
@[simp] theorem State.switchGroups_credits : s.switchGroups.credits = s.credits := by rw [State.switchGroups_frame]
@[simp] theorem State.switchGroups_mls : s.switchGroups.mls = s.mls := by rw [State.switchGroups_frame]
@[simp] theorem State.switchGroups_chans : s.switchGroups.chans = s.chans := by rw [State.switchGroups_frame]
@[simp] theorem State.switchGroups_chansUsed : s.switchGroups.chansUsed = s.chansUsed := by rw [State.switchGroups_frame]
@[simp] theorem State.switchGroups_chipErrs : s.switchGroups.chipErrs = s.chipErrs := by rw [State.switchGroups_frame]
@[simp] theorem State.switchGroups_wayErrs : s.switchGroups.wayErrs = s.wayErrs := by rw [State.switchGroups_frame]
@[simp] theorem State.switchGroups_ctls : s.switchGroups.ctls = s.ctls := by rw [State.switchGroups_frame]
@[simp] theorem State.switchGroups_ledgers : s.switchGroups.ledgers = s.ledgers := by rw [State.switchGroups_frame]
@[simp] theorem State.switchGroups_evinLevel : s.switchGroups.evinLevel = s.evinLevel := by rw [State.switchGroups_frame]
@[simp] theorem State.switchGroups_evinAsserted : s.switchGroups.evinAsserted = s.evinAsserted := by rw [State.switchGroups_frame]
@[simp] theorem State.switchGroups_accs : s.switchGroups.accs = s.accs := by rw [State.switchGroups_frame]
@[simp] theorem State.switchGroups_job : s.switchGroups.job = s.job := by rw [State.switchGroups_frame]
@[simp] theorem State.switchGroups_scrub : s.switchGroups.scrub = s.scrub := by rw [State.switchGroups_frame]
@[simp] theorem State.switchGroups_ceArm : s.switchGroups.ceArm = s.ceArm := by rw [State.switchGroups_frame]
@[simp] theorem State.switchGroups_ceUnlogArm : s.switchGroups.ceUnlogArm = s.ceUnlogArm := by rw [State.switchGroups_frame]
@[simp] theorem State.switchGroups_patrolDc : s.switchGroups.patrolDc = s.patrolDc := by rw [State.switchGroups_frame]
@[simp] theorem State.switchGroups_patrolTag : s.switchGroups.patrolTag = s.patrolTag := by rw [State.switchGroups_frame]
@[simp] theorem State.switchGroups_patrolCat : s.switchGroups.patrolCat = s.patrolCat := by rw [State.switchGroups_frame]
@[simp] theorem State.switchGroups_resets : s.switchGroups.resets = s.resets := by rw [State.switchGroups_frame]
@[simp] theorem State.switchGroups_tcInval : s.switchGroups.tcInval = s.tcInval := by rw [State.switchGroups_frame]
@[simp] theorem State.switchGroups_due : s.switchGroups.due = s.due := by rw [State.switchGroups_frame]
@[simp] theorem State.switchGroups_pair : s.switchGroups.pair = s.pair := by rw [State.switchGroups_frame]
@[simp] theorem State.switchGroups_homeNow : s.switchGroups.homeNow = s.homeNow := by rw [State.switchGroups_frame]
@[simp] theorem State.switchGroups_jop : s.switchGroups.jop = s.jop := by rw [State.switchGroups_frame]
@[simp] theorem State.switchGroups_nvm : s.switchGroups.nvm = s.nvm := by rw [State.switchGroups_frame]
@[simp] theorem State.switchGroups_obj (k0 : Nat) : s.switchGroups.obj k0 = s.obj k0 := by simp only [State.obj, State.switchGroups_objs]

/-! A change of mode. -/

@[simp] theorem State.enterMode_mode (m : Mode) (r : Nat) : (s.enterMode m r).mode = m := by simp [State.enterMode]
@[simp] theorem State.enterMode_trans (m : Mode) (r : Nat) : (s.enterMode m r).trans = .none := by simp [State.enterMode]
@[simp] theorem State.enterMode_pending (m : Mode) (r : Nat) : (s.enterMode m r).pending = s.pending := by simp [State.enterMode]
@[simp] theorem State.enterMode_sent (m : Mode) (r : Nat) : (s.enterMode m r).sent = s.sent := by simp [State.enterMode]
@[simp] theorem State.enterMode_freeCtr (m : Mode) (r : Nat) : (s.enterMode m r).freeCtr = s.freeCtr := by simp [State.enterMode]
@[simp] theorem State.enterMode_transStart (m : Mode) (r : Nat) : (s.enterMode m r).transStart = s.transStart := by simp [State.enterMode]
theorem State.enterMode_domains (m : Mode) (r : Nat) (h : m.powersAll = false) : (s.enterMode m r).domains = s.domains := by
  simp [State.enterMode, State.switchGroups_same, h]
@[simp] theorem State.enterMode_deviceTime (m : Mode) (r : Nat) : (s.enterMode m r).deviceTime = s.deviceTime := by simp [State.enterMode]
@[simp] theorem State.enterMode_nstby (m : Mode) (r : Nat) : (s.enterMode m r).nstby = s.nstby := by simp [State.enterMode]
@[simp] theorem State.enterMode_presA (m : Mode) (r : Nat) : (s.enterMode m r).presA = s.presA := by simp [State.enterMode]
@[simp] theorem State.enterMode_presB (m : Mode) (r : Nat) : (s.enterMode m r).presB = s.presB := by simp [State.enterMode]
@[simp] theorem State.enterMode_presLatched (m : Mode) (r : Nat) : (s.enterMode m r).presLatched = s.presLatched := by simp [State.enterMode]
@[simp] theorem State.enterMode_presFault (m : Mode) (r : Nat) : (s.enterMode m r).presFault = s.presFault := by simp [State.enterMode]
@[simp] theorem State.enterMode_irqPins (m : Mode) (r : Nat) : (s.enterMode m r).irqPins = s.irqPins := by simp [State.enterMode]
@[simp] theorem State.enterMode_parkRdy (m : Mode) (r : Nat) : (s.enterMode m r).parkRdy = s.parkRdy := by simp [State.enterMode]
@[simp] theorem State.enterMode_nfaultLow (m : Mode) (r : Nat) : (s.enterMode m r).nfaultLow = s.nfaultLow := by simp [State.enterMode]
@[simp] theorem State.enterMode_viom (m : Mode) (r : Nat) : (s.enterMode m r).viom = s.viom := by simp [State.enterMode]
@[simp] theorem State.enterMode_vnvm (m : Mode) (r : Nat) : (s.enterMode m r).vnvm = s.vnvm := by simp [State.enterMode]
@[simp] theorem State.enterMode_drained (m : Mode) (r : Nat) : (s.enterMode m r).drained = s.drained := by simp [State.enterMode]
@[simp] theorem State.enterMode_fatalKept (m : Mode) (r : Nat) : (s.enterMode m r).fatalKept = s.fatalKept := by simp [State.enterMode]
@[simp] theorem State.enterMode_linkWaited (m : Mode) (r : Nat) : (s.enterMode m r).linkWaited = s.linkWaited := by simp [State.enterMode]
@[simp] theorem State.enterMode_tbState (m : Mode) (r : Nat) : (s.enterMode m r).tbState = s.tbState := by simp [State.enterMode]
@[simp] theorem State.enterMode_clkTrimmed (m : Mode) (r : Nat) : (s.enterMode m r).clkTrimmed = s.clkTrimmed := by simp [State.enterMode]
@[simp] theorem State.enterMode_missAll (m : Mode) (r : Nat) : (s.enterMode m r).missAll = s.missAll := by simp [State.enterMode]
@[simp] theorem State.enterMode_hot (m : Mode) (r : Nat) : (s.enterMode m r).hot = s.hot := by simp [State.enterMode]
@[simp] theorem State.enterMode_warned (m : Mode) (r : Nat) : (s.enterMode m r).warned = s.warned := by simp [State.enterMode]
@[simp] theorem State.enterMode_nodeId (m : Mode) (r : Nat) : (s.enterMode m r).nodeId = s.nodeId := by simp [State.enterMode]
@[simp] theorem State.enterMode_plcaOk (m : Mode) (r : Nat) : (s.enterMode m r).plcaOk = s.plcaOk := by simp [State.enterMode]
@[simp] theorem State.enterMode_plcaOn (m : Mode) (r : Nat) : (s.enterMode m r).plcaOn = s.plcaOn := by simp [State.enterMode]
@[simp] theorem State.enterMode_plcaNodes (m : Mode) (r : Nat) : (s.enterMode m r).plcaNodes = s.plcaNodes := by simp [State.enterMode]
@[simp] theorem State.enterMode_plcaTimer (m : Mode) (r : Nat) : (s.enterMode m r).plcaTimer = s.plcaTimer := by simp [State.enterMode]
@[simp] theorem State.enterMode_staged (m : Mode) (r : Nat) : (s.enterMode m r).staged = s.staged := by simp [State.enterMode]
@[simp] theorem State.enterMode_oldBound (m : Mode) (r : Nat) : (s.enterMode m r).oldBound = s.oldBound := by simp [State.enterMode]
@[simp] theorem State.enterMode_inForce (m : Mode) (r : Nat) : (s.enterMode m r).inForce = s.inForce := by simp [State.enterMode]
@[simp] theorem State.enterMode_epoch (m : Mode) (r : Nat) : (s.enterMode m r).epoch = s.epoch := by simp [State.enterMode]
@[simp] theorem State.enterMode_commitState (m : Mode) (r : Nat) : (s.enterMode m r).commitState = s.commitState := by simp [State.enterMode]
@[simp] theorem State.enterMode_commitPending (m : Mode) (r : Nat) : (s.enterMode m r).commitPending = s.commitPending := by simp [State.enterMode]
theorem State.enterMode_arrays (m : Mode) (r : Nat) (h : m.powersAll = false) : (s.enterMode m r).arrays = s.arrays := by
  simp [State.enterMode, State.switchGroups_same, h]
@[simp] theorem State.enterMode_doomed (m : Mode) (r : Nat) : (s.enterMode m r).doomed = s.doomed := by simp [State.enterMode]
@[simp] theorem State.enterMode_lostEntries (m : Mode) (r : Nat) : (s.enterMode m r).lostEntries = s.lostEntries := by simp [State.enterMode]
@[simp] theorem State.enterMode_links (m : Mode) (r : Nat) : (s.enterMode m r).links = s.links := by simp [State.enterMode]
theorem State.enterMode_ports (m : Mode) (r : Nat) (h : m.powersAll = false) : (s.enterMode m r).ports = s.ports := by
  simp [State.enterMode, State.switchGroups_same, h]
@[simp] theorem State.enterMode_consoles (m : Mode) (r : Nat) : (s.enterMode m r).consoles = s.consoles := by simp [State.enterMode]
@[simp] theorem State.enterMode_bucketMap (m : Mode) (r : Nat) : (s.enterMode m r).bucketMap = s.bucketMap := by simp [State.enterMode]
@[simp] theorem State.enterMode_moving (m : Mode) (r : Nat) : (s.enterMode m r).moving = s.moving := by simp [State.enterMode]
@[simp] theorem State.enterMode_txns (m : Mode) (r : Nat) : (s.enterMode m r).txns = s.txns := by simp [State.enterMode]
@[simp] theorem State.enterMode_nextTxn (m : Mode) (r : Nat) : (s.enterMode m r).nextTxn = s.nextTxn := by simp [State.enterMode]
@[simp] theorem State.enterMode_credits (m : Mode) (r : Nat) : (s.enterMode m r).credits = s.credits := by simp [State.enterMode]
@[simp] theorem State.enterMode_mls (m : Mode) (r : Nat) : (s.enterMode m r).mls = s.mls := by simp [State.enterMode]
@[simp] theorem State.enterMode_chans (m : Mode) (r : Nat) : (s.enterMode m r).chans = s.chans := by simp [State.enterMode]
@[simp] theorem State.enterMode_chansUsed (m : Mode) (r : Nat) : (s.enterMode m r).chansUsed = s.chansUsed := by simp [State.enterMode]
@[simp] theorem State.enterMode_chipErrs (m : Mode) (r : Nat) : (s.enterMode m r).chipErrs = s.chipErrs := by simp [State.enterMode]
@[simp] theorem State.enterMode_wayErrs (m : Mode) (r : Nat) : (s.enterMode m r).wayErrs = s.wayErrs := by simp [State.enterMode]
@[simp] theorem State.enterMode_evinLevel (m : Mode) (r : Nat) : (s.enterMode m r).evinLevel = s.evinLevel := by simp [State.enterMode]
@[simp] theorem State.enterMode_evinAsserted (m : Mode) (r : Nat) : (s.enterMode m r).evinAsserted = s.evinAsserted := by simp [State.enterMode]
@[simp] theorem State.enterMode_accs (m : Mode) (r : Nat) : (s.enterMode m r).accs = s.accs := by simp [State.enterMode]
@[simp] theorem State.enterMode_job (m : Mode) (r : Nat) : (s.enterMode m r).job = s.job := by simp [State.enterMode]
@[simp] theorem State.enterMode_scrub (m : Mode) (r : Nat) : (s.enterMode m r).scrub = s.scrub := by simp [State.enterMode]
@[simp] theorem State.enterMode_ceArm (m : Mode) (r : Nat) : (s.enterMode m r).ceArm = s.ceArm := by simp [State.enterMode]
@[simp] theorem State.enterMode_ceUnlogArm (m : Mode) (r : Nat) : (s.enterMode m r).ceUnlogArm = s.ceUnlogArm := by simp [State.enterMode]
@[simp] theorem State.enterMode_patrolDc (m : Mode) (r : Nat) : (s.enterMode m r).patrolDc = s.patrolDc := by simp [State.enterMode]
@[simp] theorem State.enterMode_patrolTag (m : Mode) (r : Nat) : (s.enterMode m r).patrolTag = s.patrolTag := by simp [State.enterMode]
@[simp] theorem State.enterMode_patrolCat (m : Mode) (r : Nat) : (s.enterMode m r).patrolCat = s.patrolCat := by simp [State.enterMode]
@[simp] theorem State.enterMode_resets (m : Mode) (r : Nat) : (s.enterMode m r).resets = s.resets := by simp [State.enterMode]
@[simp] theorem State.enterMode_tcInval (m : Mode) (r : Nat) : (s.enterMode m r).tcInval = s.tcInval := by simp [State.enterMode]
@[simp] theorem State.enterMode_due (m : Mode) (r : Nat) : (s.enterMode m r).due = s.due := by simp [State.enterMode]
@[simp] theorem State.enterMode_pair (m : Mode) (r : Nat) : (s.enterMode m r).pair = s.pair := by simp [State.enterMode]
@[simp] theorem State.enterMode_homeNow (m : Mode) (r : Nat) : (s.enterMode m r).homeNow = s.homeNow := by simp [State.enterMode]
@[simp] theorem State.enterMode_nvm (m : Mode) (r : Nat) : (s.enterMode m r).nvm = s.nvm := by simp [State.enterMode]

end Sys2Proof.Machine
end

