-- ==== Sys2Proof/Laws/Flow.lean ====
section
/-! SUPPORT. The frame of every command: its queue, and the output levels it leaves. -/

namespace Sys2Proof.Machine

variable (s t : State)

@[simp] theorem State.after_pending : (s.after t).pending = s.pending := rfl

theorem State.irqShould_pins (a : Mask64) (b c : Bool) (q : List Instr) :
    ({ s with irqPins := a, parkRdy := b, nfaultLow := c, pending := q } : State).irqShould = s.irqShould := by cases s; rfl

theorem State.presents_pins (a : Mask64) (b c : Bool) (q : List Instr) (p : Nat) :
    ({ s with irqPins := a, parkRdy := b, nfaultLow := c, pending := q } : State).presents p = s.presents p := by cases s; rfl

theorem State.presenter_pins (a : Mask64) (b c : Bool) (q : List Instr) (p : Nat) :
    ({ s with irqPins := a, parkRdy := b, nfaultLow := c, pending := q } : State).presenter p = s.presenter p := by cases s; rfl

theorem State.parkShould_pins (a : Mask64) (b c : Bool) (q : List Instr) :
    ({ s with irqPins := a, parkRdy := b, nfaultLow := c, pending := q } : State).parkShould = s.parkShould := by cases s; rfl

/-- One bit of a fold whose steps set it. -/
theorem foldl_bit (f : Mask64 → Nat → Mask64) (g : Nat → Prop) (n : Nat)
    (hf : ∀ m p, (f m p).getLsbD n = true ↔ m.getLsbD n = true ∨ g p) (l : List Nat) (m : Mask64) :
    (l.foldl f m).getLsbD n = true ↔ m.getLsbD n = true ∨ ∃ p ∈ l, g p := by
  induction l generalizing m with
  | nil => simp
  | cons q l ih => rw [List.foldl_cons, ih, hf]; simp [or_assoc]

/-- One bit set in a mask. -/
theorem getLsbD_or_one (m : Mask64) (k n : Nat) (hn : n < 64) :
    (m ||| 1#64 <<< k).getLsbD n = true ↔ m.getLsbD n = true ∨ k = n := by
  rw [BitVec.getLsbD_or, BitVec.getLsbD_shiftLeft, Bool.or_eq_true]
  have : (decide (n < 64) && !decide (n < k) && (1#64).getLsbD (n - k)) = true ↔ k = n := by
    simp only [BitVec.getLsbD_one, Bool.and_eq_true, Bool.not_eq_true', decide_eq_true_eq, decide_eq_false_iff_not]
    omega
  rw [this]

/-- APn_IRQ by its rule (11 R301). -/
theorem irqShould_bit (n : Nat) (hn : n < 64) :
    s.irqShould.getLsbD n = true ↔ ∃ p, p < 16 ∧ s.presents p = true ∧ s.presenter p = some n := by
  unfold State.irqShould
  rw [foldl_bit _ (fun p => s.presents p = true ∧ s.presenter p = some n) n]
  · simp
  · intro m p
    by_cases hp : s.presents p = true
    · cases hq : s.presenter p with
      | none => simp [hp]
      | some k => simp only [hp, if_true, true_and, Option.some.injEq]; exact getLsbD_or_one m k n hn
    · simp [hp]

/-- What every command leaves: exact levels. -/
theorem State.after_pinsExact : (s.after t).pinsExact := by
  unfold State.after State.finish
  simp only
  generalize List.foldl _ _ _ = u
  refine ⟨fun n hn => ?_, ?_, ?_⟩
  · simp only [State.presents_pins, State.presenter_pins]
    exact irqShould_bit u n (by omega)
  · show u.parkShould = true ↔ u.mode = .park ∧ u.drained = true ∧ u.parkQuiet = true ∧ (u.homeNow = 0 ∨ u.partnerUp = false) ∧ u.viom = true
    simp [State.parkShould, and_assoc]
  · show u.nfaultShould = true ↔ (u.mode = .faultHold ∨ u.presLatched = true ∨ u.presFault = true) ∧ u.viom = true
    simp [State.nfaultShould, or_assoc]

/-- Every command that is well formed answers by `flow`. -/
theorem exec_after (c : Instr) (hc : c.wellFormed = true) : ∃ t, exec c s = .next (s.after t) := by
  cases c
  case telemetryUpdate t => exact ⟨_, by rw [show exec (.telemetryUpdate t) s = execTelemetryUpdate t s from rfl]; unfold execTelemetryUpdate; rw [if_pos (show t.wellFormed = true from hc)]; rfl⟩
  all_goals exact ⟨_, rfl⟩

/-- Whatever a command answers. -/
theorem exec_next {c : Instr} {u : State} (h : exec c s = .next u) : ∃ t, u = s.after t := by
  by_cases hc : c.wellFormed = true
  · obtain ⟨t, ht⟩ := exec_after s c hc
    exact ⟨t, by rw [h] at ht; injection ht⟩
  · cases c
    case telemetryUpdate t =>
      have : execTelemetryUpdate t s = .fault (.illFormed "TELEMETRY_UPDATE") := by
        unfold execTelemetryUpdate; rw [if_neg (show ¬ t.wellFormed = true from hc)]
      rw [show exec (.telemetryUpdate t) s = execTelemetryUpdate t s from rfl, this] at h
      cases h
    all_goals exact absurd rfl hc

end Sys2Proof.Machine
end

