-- ==== Sys2Proof/Laws/Modes.lean ====
section
/-! SUPPORT. What each accepted MODE_REQ starts (14 R356, R357), one law for each value. -/

namespace Sys2Proof.Machine

variable (s : State) (x : Samples)

theorem modeReqOp_1 : s.modeReqOp 1 x = ({ s.setObj K.modeResult 1 with transStart := s.deviceTime } : State).goStandby := by
  simp [State.modeReqOp]
theorem modeReqOp_2 : s.modeReqOp 2 x = ({ s.setObj K.modeResult 1 with transStart := s.deviceTime } : State).goBringUp x := by
  simp [State.modeReqOp]
theorem modeReqOp_3 : s.modeReqOp 3 x = (s.setObj K.modeResult 1).leaveDiagnostic := by simp [State.modeReqOp]
theorem modeReqOp_4_park (h : s.mode = .park) : s.modeReqOp 4 x = (s.setObj K.modeResult 1).leavePark := by simp [State.modeReqOp, h]
theorem modeReqOp_4_retain (h : s.mode = .retain) : s.modeReqOp 4 x = (s.setObj K.modeResult 1).leaveRetain := by simp [State.modeReqOp, h]
theorem modeReqOp_4 (h : s.mode ≠ .park) (h' : s.mode ≠ .retain) : s.modeReqOp 4 x = (s.setObj K.modeResult 1).leaveConfigure := by
  simp [State.modeReqOp, h, h']
theorem modeReqOp_6 : s.modeReqOp 6 x = ({ s.setObj K.modeResult 1 with transStart := s.deviceTime } : State).quiesce .toRetain := by
  simp [State.modeReqOp]
theorem modeReqOp_7 : s.modeReqOp 7 x = ({ s.setObj K.modeResult 1 with transStart := s.deviceTime } : State).quiesce .toPark := by
  simp [State.modeReqOp]
theorem modeReqOp_8 : s.modeReqOp 8 x = ({ s.setObj K.modeResult 1 with transStart := s.deviceTime } : State).enterDrain := by
  simp [State.modeReqOp]
theorem modeReqOp_10 : s.modeReqOp 10 x = (s.setObj K.modeResult 1).leaveForDiagnostic := by simp [State.modeReqOp]

/-- An accepted MODE_REQ as a whole command. -/
theorem flow_modeReq {s : State} {src : Src} {v : Nat} {x : Extras} (h : s.accepts src K.modeReq v) (hv : v < 256) :
    flow (fun s => s.cmdWrite src K.modeReq v x) s =
      .next (s.after ((((s.noted src K.modeReq v).setObj K.modeReq v).modeReqOp v
        (x.samples.getD (s.noted src K.modeReq v).presentSamples)).saysOk s src K.modeReq)) := by
  rw [flow_cmdWrite_ok v _ x h row_modeReq (by decide) (by simpa [OType.bytes] using hv) (and_allOnes64 v (by omega)) (by decide) (by decide),
    effect_modeReq]

variable (src : Src) (v k : Nat)

@[simp] theorem noted_mode : (s.noted src k v).mode = s.mode := by obtain ⟨n, h⟩ := noted_frame s src k v; rw [h]
@[simp] theorem noted_deviceTime : (s.noted src k v).deviceTime = s.deviceTime := by obtain ⟨n, h⟩ := noted_frame s src k v; rw [h]
@[simp] theorem noted_obj (j : Nat) : (s.noted src k v).obj j = s.obj j := by obtain ⟨n, h⟩ := noted_frame s src k v; rw [h]; rfl
@[simp] theorem noted_port (j : Nat) : (s.noted src k v).port j = s.port j := by obtain ⟨n, h⟩ := noted_frame s src k v; rw [h]; rfl
@[simp] theorem noted_ctl (j : Nat) : (s.noted src k v).ctl j = s.ctl j := by obtain ⟨n, h⟩ := noted_frame s src k v; rw [h]; rfl
@[simp] theorem noted_acc (j : Nat) : (s.noted src k v).acc j = s.acc j := by obtain ⟨n, h⟩ := noted_frame s src k v; rw [h]; rfl
@[simp] theorem noted_pd (j : Nat) : (s.noted src k v).pd j = s.pd j := by obtain ⟨n, h⟩ := noted_frame s src k v; rw [h]; rfl
@[simp] theorem noted_sent : (s.noted src k v).sent = [] := by
  obtain ⟨n, h⟩ := noted_frame s src k v; rw [h]
@[simp] theorem noted_ledgerMode (p : Nat) : (s.noted src k v).ledgerMode p = s.ledgerMode p := by simp [State.ledgerMode]

@[simp] theorem requested_mode : (s.requested src v).mode = s.mode := by simp [State.requested]
@[simp] theorem requested_deviceTime : (s.requested src v).deviceTime = s.deviceTime := by simp [State.requested]

/-! The journal's NVM (14 R372). -/

/-- What the journal's NVM operations leave as it was: all but the journal and what events change (14 R369, R372). -/
def State.journalOnly (s t : State) : Prop := ∃ n o c l, t = { s with nvm := n, objs := o, ctls := c, ledgers := l }

theorem journalOnly_refl (s : State) : s.journalOnly s := ⟨_, _, _, _, rfl⟩

theorem journalOnly_then {s t u : State} (h : s.journalOnly t) (h' : t.journalOnly u) : s.journalOnly u := by
  obtain ⟨n, o, c, l, rfl⟩ := h
  obtain ⟨n', o', c', l', rfl⟩ := h'
  exact ⟨n', o', c', l', rfl⟩

theorem journalOnly_nvm (s : State) (n : NvmSt) : s.journalOnly { s with nvm := n } := ⟨n, _, _, _, rfl⟩

theorem journalOnly_events {s t : State} (h : s.eventsOnly t) : s.journalOnly t := ⟨s.nvm, _, _, _, h.1⟩

theorem wearEvent_only (s : State) (g : Nat) : s.journalOnly (s.wearEvent g) := journalOnly_events (State.raiseS_eventsOnly _ _ _ _)

theorem retireSeg_only (s : State) : s.journalOnly s.retireSeg := by
  unfold State.retireSeg
  simp only
  split
  · split
    · exact journalOnly_then (journalOnly_nvm _ _) (wearEvent_only _ _)
    · exact journalOnly_nvm _ _
  · exact journalOnly_then (journalOnly_nvm _ _) (wearEvent_only _ _)

theorem eraseDone_only (s : State) (v : Bool) : s.journalOnly (s.eraseDone v) := by
  unfold State.eraseDone
  simp only
  split
  · exact journalOnly_then (journalOnly_nvm _ _) (retireSeg_only _)
  · split
    · split <;> exact journalOnly_nvm _ _
    · exact journalOnly_nvm _ _

theorem programDone_only (s : State) (v : Bool) : s.journalOnly (s.programDone v) := by
  unfold State.programDone
  split
  · exact journalOnly_refl s
  · split <;> exact journalOnly_nvm _ _

/-- One operation of the journal NVM. -/
theorem nvmDone_only (s : State) (v : Bool) : s.journalOnly (s.nvmDone v) := by
  unfold State.nvmDone
  split
  · exact journalOnly_refl s
  · split
    · exact programDone_only s v
    · exact eraseDone_only s v

/-- The journal written out. -/
theorem nvmFlush_only (n : Nat) (s : State) : s.journalOnly (s.nvmFlush n) := by
  induction n generalizing s with
  | zero => exact journalOnly_refl s
  | succ n ih =>
    unfold State.nvmFlush
    split
    · exact journalOnly_refl s
    · exact journalOnly_then (nvmDone_only s true) (ih _)

@[simp] theorem journalOut_sent (s : State) : s.journalOut.sent = s.sent := by
  obtain ⟨n, o, c, l, h⟩ := nvmFlush_only (2 * s.nvm.queue.length + 2) s
  unfold State.journalOut; rw [h]

@[simp] theorem journalOut_mode (s : State) : s.journalOut.mode = s.mode := by
  obtain ⟨n, o, c, l, h⟩ := nvmFlush_only (2 * s.nvm.queue.length + 2) s
  unfold State.journalOut; rw [h]

@[simp] theorem journalOut_deviceTime (s : State) : s.journalOut.deviceTime = s.deviceTime := by
  obtain ⟨n, o, c, l, h⟩ := nvmFlush_only (2 * s.nvm.queue.length + 2) s
  unfold State.journalOut; rw [h]

end Sys2Proof.Machine
end

