-- ==== Sys2Proof/Tests/Slice0.lean ====
section
/-! SUPPORT. Tests: words of the spec's worked cases and tables, the smoke of well-formedness, single steps, and for every statement with
hypotheses concrete states and operands that meet them, clause by clause (`test_meets_…`). -/

namespace Sys2Proof.Tests

open Sys2Proof.Machine

set_option maxRecDepth 8000

/-! Small states. -/

/-- A hub in the given mode, all power domains on, both presence inputs high, the field interface up. -/
def hub (m : Mode) : State :=
  { State.reset with mode := m, domains := 0xFFF, nstby := true, presA := true, presB := true, jop := { up := true } }

/-- A command of the field network. -/
abbrev net : Src := .net 5

/-- A hub in Run with one port as given, its link up. -/
def withPort (n : Nat) (p : PortSt) : State := (((hub .run).setLink (portLink n) { phase := .up }).setPort n p).setObj (K.portEnable n) 1

/-- A port in Run. -/
def portRun : PortSt := { mode := .run, alive := true }

/-! The words of the spec. -/

/-- 03 R84, worked case: the CRC over 0xF8 0x05 is 0xA7. -/
theorem test_crc8_linkAck : crc8 [0xF8, 0x05] = 0xA7 := by decide

/-- 08 R214: data bit 0 has the column 0x07, data bit 31 the column 0x62. -/
theorem test_hsiao_columns : checkBits 1 = 0x07 ∧ checkBits 0x80000000 = 0x62 := by decide

/-! Well-formedness. -/

/-- An update with one value for each sensor and monitor (14 R368). -/
def fullTelemetry : Telemetry :=
  { temp := List.replicate 16 0, volt := List.replicate 8 0, rateMon := List.replicate 32 0, portRate := List.replicate 48 0,
    mlRate := List.replicate 8 0 }

/-- One missing value in each list, in turn, is refused. -/
theorem test_illFormed_telemetry :
    (Instr.telemetryUpdate fullTelemetry).wellFormed = true ∧
    (Instr.telemetryUpdate { fullTelemetry with temp := List.replicate 15 0 }).wellFormed = false ∧
    (Instr.telemetryUpdate { fullTelemetry with volt := List.replicate 9 0 }).wellFormed = false ∧
    (Instr.telemetryUpdate { fullTelemetry with rateMon := List.replicate 31 0 }).wellFormed = false ∧
    (Instr.telemetryUpdate { fullTelemetry with portRate := [] }).wellFormed = false ∧
    (Instr.telemetryUpdate { fullTelemetry with mlRate := List.replicate 7 0 }).wellFormed = false := by decide

/-- An ill-formed update stops by its name. -/
theorem test_illFormed_telemetry_stops :
    exec (.telemetryUpdate { fullTelemetry with temp := [] }) State.reset = .fault (.illFormed "TELEMETRY_UPDATE") := rfl

/-! Part A. -/

theorem test_meets_IdleStepCountsOneTick :
    (hub .run).pending = [] ∧ (hub .run).mode ≠ .off ∧ (hub .run).mode ≠ .standby ∧ State.reset.pending = [] ∧ State.reset.mode = .off := by
  decide

theorem test_meets_EveryStepLeavesExactPins : ∃ t, step State.reset = .next t := ⟨_, rfl⟩

theorem test_meets_AQuietHubDoesNothingOfItself :
    State.reset.nextWork = none ∧ State.reset.irqShould.getLsbD 47 = false ∧ (State.reset.port 47).wake = false ∧
    State.reset.irqShould = 0 ∧ (State.reset.link .pair).phase ≠ .up := by decide

theorem test_meets_WellFormedCommandsComplete :
    (Instr.vaonRise).wellFormed = true ∧ ({ fullTelemetry with volt := [] } : Telemetry).wellFormed = false := by decide

theorem test_meets_SyndromeDecidesTheOutcome :
    syndrome 0 = 0 ∧ dataColumns[0]? = some (syndrome 1) ∧ dataColumns[31]? = some (syndrome 0x80000000) ∧
    syndrome 0x100000000 = BitVec.ofNat 7 (2 ^ 0) ∧ syndrome 0x4000000000 = BitVec.ofNat 7 (2 ^ 6) ∧
    (syndrome 3 ≠ 0 ∧ syndrome 3 ∉ dataColumns ∧ ∀ j, j < 7 → syndrome 3 ≠ BitVec.ofNat 7 (2 ^ j)) := by decide

theorem test_meets_ArrayWordReadsAsWritten :
    (255 < 256 ∧ 65535 < 65536) ∧ ((3, 0, 0) : Nat × Nat × Nat) ≠ (3, 0, 1) ∧ State.reset.arraysWf = true := by decide

/-! Part B. -/

/-- Fault-hold, all domains but PD0 and PD1 off. -/
def held : State := { hub .faultHold with domains := 3 }

/-- A hub in Run with port n in partition p. -/
def member (n p : Nat) : State := { hub .run with inForce := { members := [(n, p + 1)] } }

theorem test_meets_WritesAreJudgedInOrder :
    (hub .bringup).mode = .bringup ∧ (held.mode = .faultHold ∧ K.mlEnable ≠ K.fatalValid ∧ K.mlEnable ≠ K.modeReq) ∧
    ((hub .run).mode ≠ .bringup ∧ (hub .run).mode ≠ .faultHold ∧ lookupRow (0xFFFFFF / 256) (0xFFFFFF % 256) = none) ∧
    (lookupRow (K.mlEnable / 256) (K.mlEnable % 256)).map (fun r => (member 1 3).permits (.console 1 3) K.mlEnable r.ty true) = some false ∧
    (lookupRow (K.mlEnable / 256) (K.mlEnable % 256)).map (fun r => (hub .run).permits net K.mlEnable r.ty true) = some true ∧
    (lookupRow (K.ceLogUsed / 256) (K.ceLogUsed % 256)).map (fun r => r.acc) = some .ro ∧
    (lookupRow (K.holdWindow / 256) (K.holdWindow % 256)).map (fun r => (decide (r.acc ≠ .const ∧ r.acc ≠ .ro ∧ r.ty.bytes = 2)))
      = some true ∧
    ((List.replicate 1025 (0 : Byte)).length > 1024 ∧ ([] : List Byte).length ≠ 2) ∧
    (lookupRow (K.modeReq / 256) (K.modeReq % 256)).map (fun r => r.ty.bytes) = some 1 ∧
    (lookupRow (K.reach 0 / 256) (K.reach 0 % 256)).map (fun r => r.rng.ok (bytesNat [2] &&& r.keep)) = some false ∧
    (lookupRow (K.modeReq / 256) (K.modeReq % 256)).map (fun r => r.rng.ok (bytesNat [4] &&& r.keep) &&
      !(hub .run).rangeBad K.modeReq (bytesNat [4] &&& r.keep) && (hub .run).stateBad net K.modeReq (bytesNat [4] &&& r.keep) &&
      !(hub .run).stateBad net K.modeReq (bytesNat [6] &&& r.keep)) = some true := by decide

theorem test_meets_RefusedWritesChangeNothing :
    (State.reset.registerWrite (.modeReqRun net) = some (net, K.modeReq, 4, {}) ∧ State.reset.srcPresent net = false) ∧
    ((hub .run).registerWrite (.modeReqRun net) = some (net, K.modeReq, 4, {}) ∧ (hub .run).srcPresent net = true ∧
      (hub .run).writeStatus net K.modeReq (natBytes (objWidth K.modeReq) 4) false = 7) ∧
    (hub .run).writeStatus net (okey 0xFFFF 0xFF) [] false = 2 := by decide

theorem test_meets_StagedWritesChangeTheCopyAlone :
    okey 0x2301 1 = K.wayAlloc 0 ∧ (hub .run).srcPresent net = true ∧ (hub .run).writeStatus net (okey 0x2301 1) [0, 0] false = 0 ∧
    (lookupRow 0x2301 1).map (fun r => r.acc) = some .staged := by decide

/-- A hub whose journal queue is full: the answer of a further write waits (14 R372). -/
theorem test_full_journal_waits :
    (let e : JEntry := { seq := 0, time := 0, key := K.portEnable 0, kind := 1, src := net, length := 1, old := 1, new := 0 }
     match exec (.fenceDc net 0) { hub .run with nvm := { queue := List.replicate 64 e } } with
      | .next t => (t.sent == [] && t.due == [(.status net K.fenceDc, .journal 0)] && t.nvm.queue.length == 65)
      | _ => false) = true := by decide

theorem test_meets_SettingsReadAsWritten :
    okey 0x2400 6 = K.mergeTimeout ∧ (hub .run).srcPresent net = true ∧
    (hub .run).writeStatus net (okey 0x2400 6) (natBytes 2 10000) false = 0 ∧ (lookupRow 0x2400 6).map (fun r => r.acc) = some .rw ∧
    (lookupRow 0x2211 1).map (fun r => r.acc) = some .rw ∧ (lookupRow 0x2300 3).map (fun r => r.acc) = some .rw ∧
    (okey 0x2400 6 ≠ K.commitObj ∧ ∀ p, p < 16 → okey 0x2400 6 ≠ K.tcInval p) := by decide

theorem test_meets_ModeRequestsAct :
    (hub .configure).accepts net K.modeReq 1 ∧ (hub .park).accepts net K.modeReq 2 ∧ (hub .diagnostic).accepts net K.modeReq 3 ∧
    (hub .park).accepts net K.modeReq 4 ∧ (hub .retain).accepts net K.modeReq 4 ∧
    (((hub .configure).setObj K.mlEnable 1).accepts net K.modeReq 4) ∧ (hub .run).accepts net K.modeReq 6 ∧
    (hub .sole).accepts net K.modeReq 7 ∧ (hub .park).accepts net K.modeReq 8 ∧ (hub .configure).accepts net K.modeReq 10 := by decide

theorem test_meets_FenceRegistersAct :
    (hub .run).accepts net K.fenceSlice 0x80000001 ∧ (hub .run).accepts net K.fenceDc 0xFF ∧
    newBits (0 &&& 0xFF) ((hub .run).obj K.fenceDc) = [] ∧ (hub .run).accepts net K.fenceMl 0 ∧
    newBits (0 &&& 0xFF) ((hub .run).obj K.fenceMl) = [] ∧ (hub .run).accepts net K.fencePort 0x800000000001 ∧
    (hub .run).accepts net K.fenceAcc 0x801 := by decide

/-- A port that waits for HELD_ACK. -/
def fenceHeld : State := withPort 47 { portRun with fence := .held }

theorem test_meets_PortSliceAndChannelRegistersAct :
    (hub .run).accepts net (K.portEnable 47) 1 ∧ (hub .run).accepts net (K.portEnable 0) 0 ∧ fenceHeld.accepts net (K.heldAck 47) 1 ∧
    (hub .run).accepts net (K.wakeReq 47) 1 ∧ ((withPort 1 { portRun with mode := .sleeping }).accepts net (K.wakeReq 1) 1 ∧
      ((withPort 1 { portRun with mode := .sleeping }).port 1).mode = .sleeping) ∧ (hub .run).accepts net (K.wayDisabled 31) 0x8001 ∧
    (((hub .run).setObj (K.dcMarkA 7) 19).accepts net (K.dcMarkA 7) 0xFF ∧ ((hub .run).setObj (K.dcMarkA 7) 19).obj (K.dcMarkA 7) = 19) ∧
    ((hub .run).accepts net (K.dcMarkA 0) 0 ∧ (hub .run).obj (K.dcMarkA 0) = 0xFF) ∧
    (((hub .run).setObj (K.dcMarkB 7) 19).accepts net (K.dcMarkB 7) 0xFF ∧ ((hub .run).setObj (K.dcMarkB 7) 19).obj (K.dcMarkB 7) = 19) ∧
    ((hub .run).accepts net (K.dcMarkB 0) 19 ∧ (hub .run).obj (K.dcMarkB 0) = 0xFF) := by decide

/-! Part C. -/

/-- Partition 15 with two INTIDs pending, 255 and 40, of which 40 is the better. -/
def lined : State := (hub .run).modCtl 15 (fun c => { c with pending := bit256 255 ||| bit256 40 })

/-- Partition 15 in LEDGER mode, every INTID enabled by default. -/
def ledgered : State := (hub .run).setObj (K.intMode 15) 1

/-- An INTID whose PRIORITY is as given, enabled. -/
def priority (s : State) (p i q : Nat) : State := s.setObj (K.intidCfg p (i / 4)) ((0x40 + q) * 256 ^ (i % 4))

theorem test_meets_CandidateIsTheBestPendingIntid :
    lined.candidate 15 = some (40, 8) ∧ (priority lined 15 255 0).candidate 15 = some (255, 0) ∧ (hub .run).candidate 0 = none ∧
    ((hub .run).ctl 0).stack = [] ∧ ((lined.modCtl 15 (fun c => { c with stack := [(1, 3)] })).ctl 15).stack = (1, 3) :: [] ∧
    lined.linePresents 15 = true ∧ (hub .run).linePresents 15 = false := by decide

theorem test_meets_ClaimTakesTheCandidate :
    (lined.srcPresent net = true ∧ lined.mode ≠ .bringup ∧ lined.mode ≠ .faultHold ∧ lined.permits net (K.claim 15) .u32 false = true) ∧
    (lined.ledgerMode 15 = false ∧ lined.pd 2 = true ∧ lined.candidate 15 = some (40, 8) ∧ 8 < (lined.ctl 15).running) ∧
    ledgered.ledgerMode 15 = true ∧ ({ lined with domains := 0xFFB } : State).pd 2 = false ∧ (hub .run).linePresents 0 = false := by decide

/-- One step: the claim of `lined` returns INTID 40 at priority 8 (11 R296). -/
theorem test_claim_takes_40 :
    (match exec (.claim net 15) lined with
      | .next t => (t.sent == [.objStatus net (K.claim 15) 0 (natBytes 4 (40 + 8 * 2 ^ 16))] && t.candidate 15 == some (255, 12) &&
          (t.ctl 15).stack == [(40, 8)])
      | _ => false) = true := by decide

/-- Partition 15 with INTID 40 at the top of its stack. -/
def claimed : State := (hub .run).modCtl 15 (fun c => { c with stack := [(40, 12)], active := bit256 40 })

/-- Partition 15 with a ledger that holds one record. -/
def oneRecord : State := ledgered.setObj (K.ledgerHead 15 3) 1

theorem test_meets_InterruptRegistersAct :
    (ledgered.accepts net (K.eoi 15) 40 ∧ ledgered.ledgerMode 15 = true) ∧ claimed.accepts net (K.eoi 15) 1023 ∧
    (claimed.accepts net (K.eoi 15) 40 ∧ claimed.ledgerMode 15 = false ∧ 40 % 1024 ≠ 1023 ∧ (claimed.ctl 15).stack = (40, 12) :: [] ∧
      40 % 1024 = 40) ∧
    (claimed.accepts net (K.eoi 15) 0xFFFFFC28 ∧ 0xFFFFFC28 % 1024 = 40) ∧
    (claimed.accepts net (K.eoi 15) 41 ∧ (claimed.ctl 15).top ≠ 41 % 1024) ∧ (hub .run).accepts net (K.doorbell 15) 0xFFFFFFFF ∧
    (hub .run).accepts net (K.doorbell 0) 96 ∧ (hub .run).accepts net (K.pending 15 7) 0x80000000 ∧
    (oneRecord.accepts net (K.ledgerTail 15 3) 1 ∧ (oneRecord.setObj (K.ledgerTail 15 3) 1).ledgerHeld 15 3 = 0) ∧
    (oneRecord.accepts net (K.ledgerTail 15 3) 0 ∧ oneRecord.ledgerHeld 15 3 ≠ 0) := by decide

theorem test_meets_AnOccurrencePendsOrIsRecorded :
    State.reset.pd 2 = false ∧ ((hub .run).pd 2 = true ∧ (hub .run).ledgerMode 15 = false) ∧
    (let s := ledgered.modLedger 15 (ledgered.recordLedger 15 255) (fun g => { g with next := 2 ^ 16 })
     let f := s.modLedger 15 (s.recordLedger 15 255) (fun g => { g with full := true })
     s.ledgerSize 15 (s.recordLedger 15 255) ≤ ((s.ledger 15 (s.recordLedger 15 255)).next + 2 ^ 32 -
       s.obj (K.ledgerTail 15 (s.recordLedger 15 255))) % 2 ^ 32 ∧ (s.ledger 15 (s.recordLedger 15 255)).full = false ∧
       (f.ledger 15 (f.recordLedger 15 255)).full = true) ∧
    (ledgered.pd 2 = true ∧ ledgered.ledgerMode 15 = true ∧ (ledgered.setObj (K.intidCfg 15 63) 0).intEnabled 15 255 = false) ∧
    (ledgered.intEnabled 15 255 = true ∧
      ((ledgered.ledger 15 (ledgered.recordLedger 15 255)).next + 2 ^ 32 -
        ledgered.obj (K.ledgerTail 15 (ledgered.recordLedger 15 255))) % 2 ^ 32 < ledgered.ledgerSize 15 (ledgered.recordLedger 15 255)) := by
  decide

/-- Partition 0 with its one port up and waiting. -/
def waiting0 : State := withPort 0 { portRun with waitEvent := some 9 }

theorem test_meets_LedgerAndPinEventsAct :
    (ledgered.modLedger 15 3 (fun g => { g with recs := [{ index := 0, pri := 12, data := 0, txn := some 4 }] })).recordVisible 15 3 = true ∧
    ((ledgered.modLedger 15 3 (fun g => { g with state := 2 })).ledger 15 3).state = 2 ∧
    (waiting0.dead = false ∧ waiting0.pd 2 = true ∧ waiting0.obj (K.allwaitGrace 0) ≠ 0 ∧ waiting0.allWait 0 = true ∧
      (waiting0.begin.occurPri 0 7 0 0 63).presenter 0 = some 0) ∧
    (((waiting0.setObj (K.deliveryPort 0) 5).allWait 0 = true) ∧
      ((waiting0.setObj (K.deliveryPort 0) 5).begin.occurPri 0 7 0 0 63).presenter 0 = none) ∧
    ((hub .run).viom = true ∧ (hub .run).evinLevel.getLsbD 63 ≠ true ∧ ((hub .run).setObj (K.evinMode 63) 5).obj (K.evinMode 63) = 5 ∧
      (hub .run).evinAsserted.getLsbD 63 = false) ∧
    (hub .run).evinLevel.getLsbD 0 = false ∧ ({ hub .run with viom := false } : State).viom = false ∧
    (hub .run).recordVisible 15 3 = false ∧ ((hub .run).ledger 15 3).state ≠ 2 ∧ ((hub .run).setObj (K.allwaitGrace 0) 0).obj (K.allwaitGrace 0) = 0 ∧
    (hub .run).allWait 0 = false := by decide

/-- Channel 11 active, with a complete packet of five bytes, R at its first word. -/
def packeted : State :=
  (hub .run).modAcc 11 (fun a => { a with
    active := true, sampled := true, w := 2, buf := [(0, 0x04030201), (1, 0x05)]
    pkts := [{ first := 0, len := 5, truncated := false, complete := true, time := 0, cut := 0 }] })

theorem test_meets_AccessionRegistersAct :
    packeted.accepts net (K.accCmd 11) 1 ∧
    ((packeted.modAcc 11 (fun a => { a with m := some 0 })).accepts net (K.accCmd 11) 2 ∧
      ((packeted.modAcc 11 (fun a => { a with m := some 0 })).acc 11).m = some 0) ∧ packeted.accepts net (K.accCmd 11) 3 ∧
    (packeted.accepts net (K.accCmd 11) 4 ∧ (packeted.acc 11).inPacket = false ∧
      ((packeted.modAcc 11 (fun a => { a with inPacket := true })).acc 11).inPacket = true ∧
      (packeted.modAcc 11 (fun a => { a with inPacket := true })).accepts net (K.accCmd 11) 4) ∧
    packeted.accepts net (K.accEnable 11) 1 ∧
    ((packeted.setObj (K.accEnable 11) 1).accepts net (K.accEnable 11) 0 ∧ (packeted.setObj (K.accEnable 11) 1).obj (K.accEnable 11) = 1) := by
  decide

/-- The mode under the condition of R357: no transition, nSTBY high. -/
theorem test_meets_WritesThatTheStateForbids :
    ((hub .run).mode ≠ .bringup ∧ (hub .run).mode ≠ .faultHold ∧ ((hub .run).port 47).fence ≠ .held) ∧
    ((0 : Byte) ≠ 0xFF ∧ ((hub .run).setObj (K.dcMarkB 7) 0).obj (K.dcMarkB 7) = (0 : Byte).toNat) ∧
    (2 ^ oneRecord.obj (K.ledgerSizeLog2 15 3) < (oneRecord.obj (K.ledgerHead 15 3) + 2 ^ 32 - 2) % 2 ^ 32 ∧ 95 % 256 < 96 ∧
      State.reset.pd 2 = false) ∧
    (1 ≤ (4 : Byte).toNat ∧ (4 : Byte).toNat ≤ 4 ∧ (hub .run).pd 2 = true) ∧
    ((0 : Byte).toNat = 0 ∧ (5 : Byte).toNat = 5 ∧ (9 : Byte).toNat = 9 ∧ 11 ≤ (11 : Byte).toNat) ∧
    ((hub .run).modeReqNamed 4 = false ∧ ({ hub .run with trans := .toPark } : State).trans ≠ .none ∧
      ({ hub .run with nstby := false } : State).nstby = false) ∧
    ((hub .run).modeReqNamed 8 = true ∧ (hub .run).trans = .none ∧ (hub .run).nstby = true) ∧
    (let s : State := { held with nstby := false }
     s.modeReqNamed 2 = true ∧ s.trans = .none ∧ s.mode = .faultHold ∧ s.writeStatus net K.modeReq [2] false = 0) := by decide

theorem test_meets_AccessionReadsAdvance :
    (packeted.srcPresent net = true ∧ packeted.mode ≠ .bringup ∧ packeted.mode ≠ .faultHold ∧
      packeted.permits net (K.accData 11) .u32 false = true) ∧
    ((packeted.modAcc 11 (fun a => { a with cfg := { a.cfg with mode := 1 } })).acc 11).cfg.mode ≠ 0 ∧
    ({ first := 0, len := 5, truncated := false, complete := true, time := 0, cut := 0 } : PktRec).readable (packeted.acc 11).r = true ∧
    readableWords { first := 0, len := 5, truncated := false, complete := true, time := 0, cut := 0 } 2 256 = 0 ∧
    ((packeted.acc 11).atR = some { first := 0, len := 5, truncated := false, complete := true, time := 0, cut := 0 } ∧
      (packeted.acc 11).cfg.mode = 0) ∧ ((hub .run).acc 11).atR = none ∧
    (readableWords { first := 0, len := 5, truncated := false, complete := true, time := 0, cut := 0 } (packeted.acc 11).r 256 = 2) := by
  decide

/-- One step: ACC_DATA of `packeted` returns the first word, FIRST with four valid bytes, and R advances (12 R325). -/
theorem test_accData_first_word :
    (match exec (.accData net 11) packeted with
      | .next t => (t.sent == [.objStatus net (K.accData 11) 0 [1, 2, 3, 4]] && (t.acc 11).r == 1 && (t.acc 11).wstat == 0x2F)
      | _ => false) = true := by decide

theorem test_meets_AccessionWiresAct :
    ((packeted.acc 11).req = false ∧ (packeted.acc 11).frame = false ∧ (packeted.acc 11).active = true ∧ (packeted.acc 11).sampled = true) ∧
    ((packeted.modAcc 11 (fun a => { a with req := true })).acc 11).req = true ∧
    (((packeted.modAcc 11 (fun a => { a with frame := true, inPacket := true })).acc 11).frame = true ∧ (packeted.acc 11).ack = false) ∧
    (packeted.modAcc 11 (fun a => { a with job := { a.job with described := true } })).descVisible 11 = true ∧
    packeted.descVisible 11 = false ∧ (packeted.acc 11).polling = false ∧ (packeted.acc 11).frame = false ∧
    (let s := packeted.modAcc 11 (fun a => { a with polling := true, cfg := { a.cfg with dataLog := 0 } })
     (s.acc 11).polling = true ∧ s.accLacksRoom 11 = true ∧ s.accMoves = true ∧ s.accHas .ctrlRead 11 = false ∧
       (s.begin.accCtrlRead 11).isSome = true) := by decide

/-- The parameters of a job or of a pass, op or target as given. -/
def jobbed (op : Nat) : State := ((hub .run).setObj K.maintOp op).setObj K.maintLength 64

theorem test_meets_ConservatorRowsAct :
    (∀ op, op < 5 → 1 ≤ op → (jobbed op).accepts net K.maintStart 1 ∧ (jobbed op).obj K.maintOp = op) ∧
    ((jobbed 1).obj K.maintBase % 64 = 0 ∧ (jobbed 1).obj K.maintLength % 64 = 0 ∧ 0 < (jobbed 1).obj K.maintLength ∧
      (jobbed 1).obj K.maintBase + (jobbed 1).obj K.maintLength ≤ 2 ^ 40 ∧ (jobbed 1).obj K.maintPart ≤ 15) ∧
    ((jobbed 1).setObj K.maintBase 1).obj K.maintBase % 64 ≠ 0 ∧ ((jobbed 1).setObj K.maintLength 65).obj K.maintLength % 64 ≠ 0 ∧
    ((jobbed 1).setObj K.maintLength 0).obj K.maintLength = 0 ∧
    2 ^ 40 < ((jobbed 1).setObj K.maintBase (2 ^ 40)).obj K.maintBase + (jobbed 1).obj K.maintLength ∧
    (15 < ((jobbed 4).setObj K.maintPart 16).obj K.maintPart ∧ ((jobbed 4).setObj K.maintPart 16).accepts net K.maintStart 1 ∧
      (jobbed 4).obj K.maintOp = 4) ∧
    (((hub .run).setObj K.scrubUnit 8).obj K.scrubUnit ≠ 0xFF ∧ scrubUnits 0 ≤ ((hub .run).setObj K.scrubUnit 8).obj K.scrubUnit ∧
      ((hub .run).setObj K.scrubUnit 8).accepts net K.scrubStart 1) ∧
    ((((hub .run).setObj K.scrubFirst 2).setObj K.scrubLast 1).obj K.scrubLast < (((hub .run).setObj K.scrubFirst 2).setObj K.scrubLast 1).obj K.scrubFirst) ∧
    (∀ t, t < 3 → ((hub .run).setObj K.scrubTarget t).accepts net K.scrubStart 1 ∧ ((hub .run).setObj K.scrubTarget t).obj K.scrubTarget = t) ∧
    ((hub .run).obj K.scrubUnit = 0xFF ∧ ((hub .run).setObj K.scrubUnit 0).obj K.scrubUnit < scrubUnits 0 ∧
      (hub .run).obj K.scrubFirst ≤ (hub .run).obj K.scrubLast) ∧ (hub .run).accepts net K.maintAbort 1 := by decide

theorem test_meets_ConservatorProgresses :
    (let s : State := { hub .run with job := some { op := 1, next := 1, last := 1, part := 0, flags := 0 } }
     s.job = some { op := 1, next := 1, last := 1, part := 0, flags := 0 } ∧ 1 ≤ 1 ∧ s.jobLines = 0) ∧ (hub .run).job = none ∧
    (({ op := 1, next := 0, last := 1, part := 0, flags := 0 } : Job).next < 1 ∧
      ({ hub .run with txns := [{ id := 1, kind := .maintInval, line := 0, slice := 0 }] } : State).jobLines ≠ 0) ∧
    (let x : Scrub := { target := 0, units := [], first := 0, row := 0, last := 0 }
     let s : State := { hub .run with scrub := some x }
     s.scrub = some x ∧ s.scrubRuns = false ∧ s.consWrites = false ∧ (hub .run).scrub = none ∧
       ({ s with txns := [{ id := 1, kind := .scrubRow, line := 0, slice := 0 }] } : State).scrubRuns = true ∧
       (s.modChan 7 (fun h => { h with queue := [{ ba := 0, op := .write 1 0, who := consMark }] })).consWrites = true ∧
       ({ x with units := [7] } : Scrub).units ≠ [] ∧ x.aborted = false) ∧
    ((hub .run).mode.serving = true ∧ (hub .run).dead = false ∧ (hub .run).obj K.patrolDcInterval ≠ 0 ∧
      (hub .run).obj K.patrolTagInterval ≠ 0 ∧ (hub .run).obj K.patrolCatInterval ≠ 0) ∧ (hub .park).mode.serving = false ∧
    ({ hub .run with trans := .toFaultHold } : State).dead = true ∧ ((hub .run).setObj K.patrolDcInterval 0).obj K.patrolDcInterval = 0 ∧
    ((hub .run).setObj K.patrolTagInterval 0).obj K.patrolTagInterval = 0 ∧
    ((hub .run).setObj K.patrolCatInterval 0).obj K.patrolCatInterval = 0 := by decide

/-- Diagnostic with the operation given. -/
def diag (op : Nat) : State := (hub .diagnostic).setObj K.diagOp op

theorem test_meets_DirectAccessAndLogClearsAct :
    (∀ op, op < 4 → 1 ≤ op → (diag op).accepts net K.diagGo 1 ∧ (diag op).obj K.diagOp = op ∧ (diag op).obj K.diagArray < 4 ∧
      (diag op).diagRefused op = false) ∧
    decodeWord 0 = .clean 0 ∧ decodeWord 1 = .corrected 0 0 ∧ decodeWord 3 = .uncorrectable ∧
    ((diag 2).setObj K.diagUnit 255).diagRefused 2 = true ∧ (hub .run).accepts net K.ceLogClear 1 ∧ (hub .run).accepts net K.llClear 1 ∧
    (hub .run).accepts net K.stageDiscard 1 := by decide

/-! Part D. -/

theorem test_meets_RailsAndResetAct :
    State.reset.mode = .off ∧ (hub .run).mode ≠ .off ∧ (hub .standby).mode = .standby ∧ (hub .run).mode ≠ .standby ∧
    (hub .run).pd 1 = true ∧ (hub .standby).pd 1 = true ∧ State.reset.pd 1 = false := by decide

/-- One step: VAON up leads from Off to Standby (14 R356). -/
theorem test_vaonRise_standby :
    (match exec .vaonRise State.reset with
      | .next t => (t.mode == .standby && t.domains == 1)
      | _ => false) = true := by decide

/-- One step: the release of both pins leads to Bring-up (14 R356, R359). -/
theorem test_bringupRelease :
    (match exec (.bringupRelease 7 false 0 true false) { hub .standby with domains := 1 } with
      | .next t => (t.mode == .bringup && t.domains == 3 && t.nodeId == 7)
      | _ => false) = true := by decide

theorem test_meets_PresenceIsJudgedInBringUp :
    ((hub .bringup).mode = .bringup ∧ (hub .bringup).presLatched = false ∧ (hub .bringup).dead = false) ∧ (true ≠ false) ∧
    ((hub .bringup).setObj K.presState 1).obj K.presState = 1 ∧ ({ hub .bringup with presLatched := true } : State).presLatched = true := by
  decide

theorem test_meets_PinsFallFromConfigureOnwards :
    ((hub .configure).watched = true ∧ (hub .configure).presFault = false) ∧ (hub .bringup).watched = false ∧
    ({ hub .run with presFault := true } : State).presFault = true ∧ ((hub .bringup).mode = .bringup ∧ (hub .bringup).dead = false) ∧
    ((hub .configure).mode = .configure ∧ (hub .configure).dead = false) ∧ (hub .drain).mode.ports = true ∧
    ((hub .run).dead = false ∧ (hub .run).mode.serving = true ∧ (hub .retain).mode = .retain ∧ (hub .diagnostic).mode = .diagnostic) := by
  decide

/-- A hub on a transition. -/
def onWay (m : Mode) (t : Transition) : State := { hub m with trans := t }

/-- Every link but those listed serves; links 2k and 2k+1 form dual pairs by `dual`. -/
def linked (late : List Nat) (dual : Nat) : State :=
  { onWay .configure .calibrating with
    mls := (List.range 8).filterMap (fun k => if late.contains k then none else some (k, { state := .serving }))
    inForce := { mlDual := dual } }

theorem test_meets_ModeEventsAct :
    (onWay .configure .powering).trans = .powering ∧ (onWay .configure .diagPowering).trans = .diagPowering ∧
    ((linked [7] 0).trans = .calibrating ∧ 7 ∈ (linked [7] 0).lateLinks ∧ (linked [7] 0).partnerServes 7 = false) ∧
    ((linked [] 0).pairReady = true ∧ (linked [] 0).lateLinks = []) ∧
    ((linked [7] 8).pairReady = true ∧ (linked [7] 8).lateLinks = [7] ∧ (linked [7] 8).partnerServes 7 = true ∧
      (linked [7] 8).partner 7 = some 6) ∧
    ((linked [] 0).calibrating = false ∧ (linked [] 0).begin.joinPair.isSome = true) ∧
    (let s : State := { linked [] 0 with pair := { state := 1, rdyi := true } }
     let paired := s.setObj K.pairEnable 1
     paired.pairReady = false ∧ paired.begin.joinPair = none) ∧
    ((linked [] 0).modChan 7 (fun h => { h with state := .calibrating })).calibrating = true ∧ (linked [0] 0).lateLinks ≠ [] ∧
    ((onWay .run .toPark).quiesced = true ∧ (onWay .run .toPark).trans = .toPark) ∧ (onWay .run .toRetain).trans = .toRetain ∧
    ({ onWay .run .toPark with resets := [{ part := 0, immediate := false }] } : State).quiesced = false ∧
    ((onWay .retain .retainExit).trans = .retainExit ∧ (onWay .retain .retainExit).calibrating = false) ∧
    ((onWay .drain .drainAck).trans = .drainAck ∧ (onWay .drain .drainAck).giveAcked = true) ∧
    ((onWay .drain .drainRecall).trans = .drainRecall ∧ (onWay .drain .drainRecall).drainClean = true ∧
      (onWay .drain .drainRecall).pair.giving = 0 ∧ ({ onWay .drain .drainRecall with pair := { giving := 1 } } : State).pair.giving ≠ 0) ∧
    (hub .drain).mode = .drain ∧ (hub .run).mode ≠ .drain := by decide

theorem test_meets_FatalCausesLeadToFaultHold :
    ((hub .run).pd 1 = true ∧ (hub .run).mode ≠ .faultHold ∧ (hub .run).trans ≠ .toFaultHold ∧ (hub .run).pd 10 = true) ∧
    (hub .faultHold).mode = .faultHold ∧ State.reset.pd 1 = false ∧ (held.pd 10 = false ∧ held.pd 11 = false) ∧
    (onWay .run .toFaultHold).trans = .toFaultHold := by decide

/-- One journal entry. -/
def entry : JEntry := { seq := 0, time := 0, key := K.portEnable 0, kind := 1, src := net, length := 1, old := 1, new := 0 }

/-- A hub whose journal has an entry to program, its place erased or not. -/
def journalled (erased : Bool) : State := { hub .run with nvm := { queue := [entry], erased := erased } }

theorem test_meets_JournalNvmActs :
    ((journalled true).vnvm = true ∧ (journalled true).pd 1 = true ∧ (journalled true).nvm.segs ≠ [] ∧
      (journalled true).nvm.queue = entry :: [] ∧ (journalled true).nvm.erased = true) ∧ (journalled false).nvm.erased = false ∧
    (hub .run).nvm.queue = [] ∧ ({ hub .run with vnvm := false } : State).vnvm = false := by decide

theorem test_meets_TimebaseAndTelemetryAct :
    ((hub .run).mode ≠ .off ∧ (hub .run).mode ≠ .standby ∧ (hub .run).tbState = 0) ∧ ({ hub .run with tbState := 1 } : State).tbState = 1 ∧
    ({ hub .run with tbState := 2 } : State).tbState = 2 ∧ ((hub .configure).mode.serving = false ∧ (hub .configure).mode ≠ .park ∧
      (hub .configure).trans ≠ .retainExit) ∧
    (let s : State := { hub .park with tbState := 1, clkTrimmed := true }
     s.tbState = 1 ∧ s.mode = .park ∧ s.clkTrimmed = true) ∧ (hub .run).tbState ≠ 1 ∧ (hub .run).tbState ≠ 2 ∧
    (fullTelemetry.wellFormed = true ∧ (hub .run).pd 1 = true ∧ 15 < fullTelemetry.temp.length ∧ 47 < fullTelemetry.portRate.length) := by
  decide

/-- Channel 7 as given. -/
def chan7 (h : ChanSt) : State := (hub .run).modChan 7 (fun _ => h)

/-- A search that every chip passes, and one that three chips fail. -/
def search (pass : BitVec 5120) : CalResult := { latency := 3, readPass := pass, writePass := pass, saved := 0, check := 0 }

theorem test_meets_CalibrationActs :
    (chan7 { state := .serving }).chanServes 7 = true ∧ (hub .run).chanServes 7 = false ∧
    (let s := chan7 { state := .serving, calDue := true }
     s.chanServes 7 = true ∧ (s.chan 7).calDue = true ∧ (s.chan 7).hold = false ∧ (s.chan 7).reads = [] ∧ (s.chan 7).queue = []) ∧
    ((chan7 { state := .serving, calDue := true, reads := [(0, .merge)] }).chan 7).reads ≠ [] ∧
    ((chan7 { state := .serving, calDue := true, queue := [{ ba := 0, op := .read .merge, who := 0 }] }).chan 7).queue ≠ [] ∧
    ((hub .run).chan 7).calDue = false ∧
    (((chan7 { state := .serving, hold := true }).chan 7).hold = true ∧ ((chan7 { state := .serving, hold := true }).chan 7).calFinds = none) ∧
    ((hub .run).chan 7).hold = false ∧ ((chan7 { state := .serving, hold := true, calFinds := some (search 0) }).chan 7).calFinds ≠ none ∧
    (((chan7 { state := .calibrating }).chan 7).state = .calibrating ∧ (chan7 { state := .calibrating }).pd 10 = true) ∧
    ((chan7 { state := .calibrating }).failingChips 7 (search (BitVec.allOnes 5120)) true).length < 3 ∧
    3 ≤ ((chan7 { state := .calibrating }).failingChips 7 (search (BitVec.allOnes 5120 <<< 768)) true).length ∧
    ((hub .run).chan 7).state ≠ .calibrating := by decide +kernel

/-! Part E. -/

/-- A message whose CRC symbol is right. -/
def good (body : List Byte) : Rx := .crc ((crc8 body).setWidth 32)

/-- What the record of a message says beside its symbols. -/
def heard (m : Option (LinkId × RxState × List Nat)) : Option (LinkId × RxState) := m.map (fun m => (m.1, m.2.1))

/-- The same of a link-layer message. -/
def heardLink (m : Option (LinkId × Bool × RxState × List Nat)) : Option (LinkId × Bool × RxState) := m.map (fun m => (m.1, m.2.1, m.2.2.1))

/-- A hub in Run with one link's end as given. -/
def withLink (l : LinkId) (e : LinkEnd) : State := (hub .run).setLink l e

/-- COMP_ACK of TID 0xFFE on port 47 with the CRC symbol received. -/
def ack47 (rx : Rx) : Instr := .compAck 47 0xFFE 0 rx

/-- A port's link whose DESCRIBE was illegal. -/
def leaving47 : State := withLink (.port 47) { phase := .leaving, barred := true }

/-- A link whose LINK_HELLO exchange has not ended, or was refused. -/
def refused47 : State := withLink (.port 47) { phase := .refused, barred := true }

theorem test_meets_MessagesAreHeardOnlyWhole :
    heard ((hub .run).message (ack47 (good (plainHeader 0x11 0xFFE 0)))) = some (.port 47, .good) ∧
    heard ((hub .run).message (ack47 (.crc 0))) = some (.port 47, .badCrc) ∧
    heard ((hub .run).message (ack47 .framing)) = some (.port 47, .framing) ∧
    (hub .run).deafTo (.port 47) ∧ (withLink (.port 47) { phase := .up, rxResync := true }).deafTo (.port 47) ∧
    (withLink (.port 47) { phase := .up }).listens (.port 47) ∧
    (leaving47.listens (.port 47) ∧ (leaving47.link (.port 47)).phase = .leaving) ∧
    (withLink (.port 47) { phase := .hello }).greeting (.port 47) ∧ refused47.greeting (.port 47) ∧ ((1 : Byte) ≠ 2) := by decide

theorem test_meets_LinkErrorsResynchronise :
    (hub .run).deafTo .pair ∧ (withLink .pair { phase := .up, rxResync := true }).deafTo .pair ∧
    (withLink .pair { phase := .hello }).greeting .pair ∧ refused47.greeting (.port 47) ∧
    ((withLink .pair { phase := .up, txResync := some 0 }).listens .pair ∧
      ((withLink .pair { phase := .up, txResync := some 0 }).link .pair).txResync ≠ none) ∧
    ((withLink .pair { phase := .up }).listens .pair ∧ ((withLink .pair { phase := .up }).link .pair).txResync = none) ∧
    leaving47.listens (.port 47) ∧
    ((recentTimes 0 []).length < 16 ∧ 16 ≤ (recentTimes 0 (List.replicate 15 0)).length) := by decide

/-- The wire form of a link-layer message on a Vitrine link with its CRC. -/
def link2 (op k : Byte) : Rx := good [op, k]

/-- Port 12's link up, with one message in the replay buffer of the six sent. -/
def up12 : State := withLink (.port 12) { phase := .up, replay := [.pair { op := .surprise }], txNext := 6, txSent := 6 }

/-- Replay entries that LINK_ACK k leaves on that link, and those that LINK_RESYNC k asks for (03 R85, R88). -/
def left12 (k : Nat) : Nat := (6 + 2 * numberMod (.port 12) - 1 - k % numberMod (.port 12)) % numberMod (.port 12)
def behind12 (k : Nat) : Nat := (6 + numberMod (.port 12) - k % numberMod (.port 12)) % numberMod (.port 12)

theorem test_meets_LinkMessagesAct :
    up12.listens (.port 12) ∧ (up12.link (.port 12)).replay.length = 1 ∧ (up12.link (.port 12)).txNext = 6 ∧
    left12 5 = 0 ∧ left12 4 = 1 ∧ (left12 3 = 2 ∧ 2 ≤ replayDepth (.port 12) ∧ 2 ≤ (up12.link (.port 12)).txSent) ∧
    replayDepth (.port 12) < left12 6 ∧
    ((withLink (.port 12) { phase := .up, txNext := 6, txSent := 1 }).link (.port 12)).txSent < left12 3 ∧
    ((recentTimes 0 []).length < 16 ∧ behind12 5 = 1 ∧ behind12 6 = 0) ∧ (16 ≤ (recentTimes 0 (List.replicate 15 0)).length ∧ 1 < behind12 4) ∧
    (up12.link (.port 12)).txResync = none ∧ ((withLink (.port 12) { phase := .up, txResync := some 5 }).link (.port 12)).txResync = some 5 ∧
    (hub .run).deafTo (.port 12) ∧ (withLink (.port 12) { phase := .hello }).greeting (.port 12) := by decide

theorem test_meets_LinkMessagesAct_received :
    heardLink (linkMessage (.linkAck (.port 12) 5 (link2 0xF8 5))) = some (.port 12, false, .good) ∧
    heardLink (linkMessage (.linkAck (.port 12) 5 (.crc 0))) = some (.port 12, false, .badCrc) ∧
    heardLink (linkMessage (.linkAck (.port 12) 5 .framing)) = some (.port 12, false, .framing) ∧
    heardLink (linkMessage (.linkResync (.port 12) 5 (link2 0xF9 5))) = some (.port 12, false, .good) ∧
    heardLink (linkMessage (.linkReady (.port 12) true (link2 0xFA 0))) = some (.port 12, false, .good) ∧
    heardLink (linkMessage (.linkHello (.port 12) 1 0 (good [0xFB, 1, 0]))) = some (.port 12, true, .good) := by decide

/-- A port's link in bring-up. -/
def greeting : State := (withLink (.port 0) { phase := .hello }).setPort 0 { mode := .bringup, alive := true }

/-- A packet of an Archive link whose CRC symbol is right. -/
def good32 (body : List Word) : Rx := .crc (crc32 body)

/-- The links of Archive link 7 and of the pair in bring-up, this end's LINK_HELLO sent or not. -/
def greetingArch (sent : Bool) : State := withLink (.arch 7) { phase := .hello, helloSent := sent }

theorem test_meets_LinkBringUpAndTimersAct :
    ((greeting.link (.port 0)).phase = .hello ∧ (greeting.link (.port 0)).helloSeen = false ∧ (1 : Byte).toNat < 2) ∧
    ((2 : Byte) ≠ 1 ∧ 2 ≤ (2 : Byte).toNat) ∧
    (((greetingArch true).link (.arch 7)).phase = .hello ∧ ((greetingArch true).link (.arch 7)).helloSeen = false ∧
      ((greetingArch true).link (.arch 7)).helloSent = true ∧ ((greetingArch false).link (.arch 7)).helloSent = false) ∧
    (((withLink .pair { phase := .hello }).link .pair).phase = .hello ∧ (3 : Byte).toNat = 3 ∧ (1 : Byte).toNat ≠ 2) ∧
    ((withLink (.arch 7) { phase := .hello, helloSeen := true }).greeting (.arch 7) ∧
      ((withLink (.arch 7) { phase := .hello, helloSeen := true }).link (.arch 7)).helloSeen = true) ∧
    ((hub .run).link (.arch 7)).phase = .down ∧ LinkId.arch 7 ≠ .pair := by decide

theorem test_meets_LinkBringUpAndTimersAct_received :
    heardLink (linkMessage (.linkHello (.port 0) 1 1 (good [0xFB, 1, 1]))) = some (.port 0, true, .good) ∧
    heardLink (linkMessage (.linkHello (.port 0) 2 2 (good [0xFB, 2, 2]))) = some (.port 0, true, .good) ∧
    heardLink (linkMessage (.linkHello (.arch 7) 1 1 (good32 [(1 : Byte) ++ (1 : Byte) ++ (0 : Byte) ++ (0xFB : Byte)]))) =
      some (.arch 7, true, .good) ∧
    heardLink (linkMessage (.linkHello .pair 1 3 (good [0xFB, 1, 3]))) = some (.pair, true, .good) ∧
    heardLink (linkMessage (.linkHello .pair 1 1 (good [0xFB, 1, 1]))) = some (.pair, true, .good) := by decide

theorem test_meets_LinkBringUpAndTimersAct_timers :
    (refused47.link (.port 47)).phase = .refused ∧ (leaving47.link (.port 47)).phase = .leaving ∧
    ((withLink (.arch 7) { phase := .refused }).link (.arch 7)).phase = .refused ∧
    ((withLink .pair { phase := .refused }).link .pair).phase = .refused ∧
    (let s := withLink .pair { phase := .up, rxUnacked := 1 }
     (s.link .pair).ended = true ∧ 0 < (s.link .pair).rxUnacked ∧ (s.link .pair).txResync = none) ∧
    (let s := withLink .pair { phase := .up, rxResync := true }
     (s.link .pair).ended = true ∧ (s.link .pair).rxResync = true ∧ (s.link .pair).rxUnacked = 0) ∧
    (((hub .run).link .pair).ended = false ∧ ((hub .run).link .pair).rxResync = false) ∧
    ((withLink .pair { phase := .up, replay := [.pair { op := .surprise }] }).link .pair).replay ≠ [] ∧
    0 < ((withLink .pair { phase := .up, unacked := 1 }).link .pair).unacked ∧
    ((withLink .pair { phase := .up, txResync := some 0 }).link .pair).txResync ≠ none ∧
    (((withLink .pair { phase := .up }).link .pair).replay = [] ∧ ((withLink .pair { phase := .up }).link .pair).unacked = 0 ∧
      ((withLink .pair { phase := .up }).link .pair).txResync = none) := by decide

/-- One step: a legal LINK_HELLO is answered with the hub's own (03 R78). -/
theorem test_linkHello_answered :
    (match exec (.linkHello (.port 0) 1 0 (good [0xFB, 1, 0])) greeting with
      | .next t => ((t.port 0).mode == .awaitDescribe && t.sent == [.link (.port 0) (.hello 2)])
      | _ => false) = true := by decide

theorem test_meets_PortWiresAct :
    (hub .run).portMayRise 47 = true ∧ (hub .configure).portMayRise 47 = false ∧ (hub .run).pd (portDomain 47) = true ∧
    (hub .configure).pd (portDomain 47) = true ∧ State.reset.pd (portDomain 47) = false ∧
    ((withPort 47 { portRun with mode := .awaitDescribe }).link (portLink 47)).phase = .up ∧
    ((withPort 47 { portRun with mode := .awaitDescribe }).port 47).mode = .awaitDescribe ∧ ((hub .run).port 47).mode ≠ .awaitDescribe ∧
    (((withPort 47 { portRun with map := some { tid := 1, mask := 0, why := .bringup } }).port 47).map).isSome = true ∧
    (((withPort 47 { portRun with map := some { tid := 1, mask := 0, why := .take } }).port 47).map).isSome = true ∧
    (((withPort 47 { portRun with map := some { tid := 1, mask := 0, why := .give }, mapNext := some .take }).port 47).mapNext = some .take) ∧
    ((hub .run).port 47).map = none ∧ ((hub .run).port 47).mapNext ≠ some .take := by decide

/-! Part F. -/

/-- A header with the highest TID that a tagged request may have. -/
def hdr : Hdr := { tid := 0xFFE, attr := 0, token := 0 }

/-- Port 47 in Run, its link up. -/
def run47 : State := withPort 47 portRun

/-- A tagged request for the line at 0xFFFFFFC0. -/
def req47 (op : Byte) : Rx := good (taggedHeader op hdr ++ addrSymbols 0xFFFFFFC0)

theorem test_meets_MemoryRequestsAreTaken :
    run47.dead = false ∧ run47.hears (portLink 47) ∧ ((run47.reached 47 []).port 47).resetHold = false ∧
    (((run47.reached 47 []).port 47).takes hdr.tid.toNat true ∧ hdr.tid ≠ 0xFFF ∧ hLocked hdr = false ∧
      (0xFFFFFFC0 : Word).toNat % 64 = 0 ∧ heard (run47.message (.readShared 47 hdr 0xFFFFFFC0 (req47 1))) = some (portLink 47, .good)) ∧
    (hSize3 hdr ≠ 7 ∧ (0xFFFFFFFF : Word).toNat % 2 ^ hSize3 hdr = 0 ∧
      heard (run47.message (.readUnc 47 hdr 0xFFFFFFFF (good (taggedHeader 4 hdr ++ addrSymbols 0xFFFFFFFF)))) = some (portLink 47, .good)) ∧
    (hHasToken hdr = false ∧ heard (run47.message (.putPartial 47 hdr 0 0x80 0
      (good (taggedHeader 5 hdr ++ (addrSymbols 0 ++ [0x80] ++ maskedBytes 0x80 0))))) = some (portLink 47, .good)) ∧
    (heard (run47.message (.putLine 47 hdr 0 0 (good (taggedHeader 6 hdr ++ (addrSymbols 0 ++ lineBytes 0))))) = some (portLink 47, .good)) ∧
    ((run47.reached 47 []).port 47).takes 0xFFF false ∧
    heard (run47.message (.loadReserve 47 hdr 0 (good (untaggedHeader 0x0A hdr ++ addrSymbols 0)))) = some (portLink 47, .good) ∧
    (0 % 2 ^ hSize2 hdr = 0 ∧ heard (run47.message (.storeCond 47 hdr 0 0
      (good (untaggedHeader 0x0B hdr ++ (addrSymbols 0 ++ natBytes (2 ^ hSize2 hdr) 0))))) = some (portLink 47, .good)) := by decide +kernel

/-- Port 47 with the requests given in front of a mirror without entries. -/
def listed47 : State := (run47.reached 47 []).takeIn 47 0xFFE

/-- Port 47 with line 2^33 recorded in its mirror, in the state given, at partition address 0. -/
def mirrored47 (st : CatState) : State :=
  (withPort 47 { portRun with l1 := some (8, 4, 32, 8) }).writeEntry
    { port := 47, set := 0, way := 0, line := 2 ^ 33, st := st, rank := 0, ppage := 0 }

theorem test_meets_WriteBacksAndOffersGoToTheHome :
    heard (run47.message (.writeback 47 hdr 0 0 (good (taggedHeader 8 hdr ++ (addrSymbols 0 ++ lineBytes 0))))) = some (portLink 47, .good) ∧
    heard (run47.message (.evictOffer 47 hdr 0 0 (good (taggedHeader 9 hdr ++ (addrSymbols 0 ++ lineBytes 0))))) = some (portLink 47, .good) ∧
    ({ listed47 with homeNow := 0 } : State).isHome 47 0 = false ∧ ({ listed47 with homeNow := allBuckets } : State).isHome 47 0 = true ∧
    (listed47.copyAt 47 0).2 = none ∧
    (∀ st ∈ [CatState.shared, .em, .owned], ((mirrored47 st).copyAt 47 0).2 = some (2 ^ 33, st)) := by decide +kernel

theorem test_meets_OrderingRequestsAct :
    heard (run47.message (.barrierPort 47 hdr (good (barrierBody hdr 0)))) = some (portLink 47, .good) ∧
    heard (run47.message (.barrierPartition 47 hdr (good (barrierBody hdr 1)))) = some (portLink 47, .good) ∧
    heard (run47.message (.barrierSystem 47 hdr (good (barrierBody hdr 2)))) = some (portLink 47, .good) ∧
    (∀ f ∈ [Fence.normal, .pending, .held], let p : PortSt := { portRun with mode := .awaitDescribe, fence := f }
      (((withPort 47 p).reached 47 []).port 47).mode ≠ .run ∧ (((withPort 47 p).reached 47 []).port 47).hasTid 0xFFE = false ∧
        (((withPort 47 p).reached 47 []).port 47).fence = f) ∧
    ((run47.reached 47 []).port 47).takes 0xFFE true ∧
    ((withPort 47 { portRun with mode := .awaitDescribe }).port 47).mode ≠ .run ∧ (run47.port 47).areq = false ∧
    heard (run47.message (.loanTarget 47 hdr 7 (good (taggedHeader 0x0D hdr ++ [7])))) = some (portLink 47, .good) ∧
    (({ listed47 with mode := .park } : State).parked = true ∧ listed47.parked = false) ∧
    (listed47.loanable (listed47.partOf 47) 7 = true ∧ listed47.loanable (listed47.partOf 47) 8 = false) ∧
    heard (run47.message (.waitEvent 47 hdr (good (taggedHeader 0x0E hdr)))) = some (portLink 47, .good) ∧
    (listed47.irqShould.getLsbD 47 = false) ∧
    (let s := (listed47.setObj (K.deliveryPort 0) 47).modCtl 0 (fun c => { c with pending := bit256 255 })
     s.irqShould.getLsbD 47 = true ∧ s.sleepHeldUp 47 = true) ∧
    heard (run47.message (.sleepReq 47 hdr (good (taggedHeader 0x0F hdr)))) = some (portLink 47, .good) ∧
    ((listed47.port 47).outstanding.any (fun o => o.1 != 0xFFE) = false ∧
      ((listed47.takeIn 47 1).port 47).outstanding.any (fun o => o.1 != 0xFFE) = true) ∧
    ((listed47.port 47).owedErrors.any (fun o => !o.retires) = false ∧
      ((listed47.modPort 47 (fun p => { p with owedErrors := [{ msg := { op := .complete, tid := 1 }, entries := [], retires := false }] })).port
        47).owedErrors.any (fun o => !o.retires) = true) ∧
    (({ listed47.port 47 with areq := true } : PortSt).areq = true ∧ (listed47.port 47).areq = false ∧ (listed47.port 47).agnt = false) ∧
    listed47.sleepHeldUp 47 = false := by decide

/-- Port 47 before Run, a HOME_MAP on its way as given. -/
def mapped47 (mode : PortMode) (why : MapWhy) (next : Option MapWhy) : State :=
  withPort 47 { portRun with mode := mode, map := some { tid := 0xFFE, mask := allBuckets, why := why }, mapNext := next }

theorem test_meets_PortsAreDescribed :
    (let s := withPort 47 { portRun with mode := .awaitDescribe }
     s.dead = false ∧ s.hears (portLink 47) ∧ ((s.reached 47 []).port 47).mode ≠ .run ∧ ((s.reached 47 []).port 47).map = none ∧
       ((s.reached 47 []).port 47).hasTid 0xFFE = false) ∧
    heard (run47.message (.describe 47 hdr 1 8 4 32 8 (good (taggedHeader 0x10 hdr ++ [1, 8, 4, 32, 8])))) = some (portLink 47, .good) ∧
    describeLegal 1 8 4 32 8 = true ∧ describeLegal 1 6 1 1 7 = false ∧
    ((run47.reached 47 []).port 47).mode = .run ∧ ((run47.reached 47 []).port 47).tagged < ((run47.reached 47 []).port 47).maxTagged ∧
    ((withPort 47 { portRun with l1 := some (8, 4, 32, 8) }).port 47).l1 = some (8, 4, 32, 8) ∧ (run47.port 47).l1 = none ∧
    heard (run47.message (.homeMapAck 47 0xFFE 0 (good (plainHeader 0x14 0xFFE 0)))) = some (portLink 47, .good) ∧
    ((mapped47 .awaitDescribe .bringup none).port 47).mode = .awaitDescribe ∧
    (({ mapped47 .awaitDescribe .bringup none with homeNow := 1 } : State).took (portLink 47) []).mapMask ≠ allBuckets ∧
    (({ mapped47 .awaitDescribe .bringup none with homeNow := allBuckets } : State).took (portLink 47) []).mapMask = allBuckets ∧
    (MapWhy.give ≠ .bringup ∧ ((mapped47 .run .give none).port 47).mapNext = none ∧
      ((mapped47 .run .give (some .take)).port 47).mapNext = some .take) ∧ (0xFFE : Nat) ≠ (0xFFD : Tid).toNat := by decide +kernel

/-- What a request is to its checks: TID, tagged, legal, kind. -/
def judged (c : Instr) : Option (Nat × Bool × Bool × Kind) := (run47.asked c).map (fun x => (x.tid, x.tagged, x.legal, x.kind))

theorem test_meets_RequestsAreChecked_asked :
    [judged (.readShared 47 hdr 0xFFFFFFC0 (req47 1)), judged (.upgrade 47 hdr 1 (req47 3)), judged (.readUnc 47 hdr 0xFFFFFFFF (req47 4)),
      judged (.putLine 47 { hdr with tid := 0xFFF } 0 0 (req47 6)), judged (.writeback 47 hdr 0 0 (req47 8)),
      judged (.loadReserve 47 hdr 0 (req47 10)), judged (.storeCond 47 hdr 0 0 (req47 11)), judged (.barrierSystem 47 hdr (req47 12)),
      judged (.loanTarget 47 hdr 7 (req47 13)), judged (.sleepReq 47 hdr (req47 15)), judged (.describe 47 hdr 1 8 4 32 8 (req47 16))] =
    [some (0xFFE, true, true, .other), some (0xFFE, true, false, .other), some (0xFFE, true, true, .other),
      some (0xFFF, true, false, .other), some (0xFFE, true, true, .evict), some (0xFFF, false, true, .other), some (0xFFF, false, true, .cond),
      some (0xFFE, true, true, .barrier), some (0xFFE, true, true, .now), some (0xFFE, true, true, .now),
      some (0xFFE, true, true, .describe)] := by decide

theorem test_meets_RequestsAreChecked :
    run47.dead = false ∧ run47.hears (portLink 47) ∧
    heard (run47.message (.readShared 47 hdr 0xFFFFFFC0 (req47 1))) = some (portLink 47, .good) ∧
    ((listed47.port 47).hasTid 0xFFE = true ∧ (run47.port 47).hasTid 0xFFE = false) ∧
    ((withPort 47 { portRun with mode := .sleeping }).port 47).mode ≠ .run ∧
    ({ portRun with outstanding := (List.range 64).map (fun i => (i, 0)) } : PortSt).maxTagged ≤
      ({ portRun with outstanding := (List.range 64).map (fun i => (i, 0)) } : PortSt).tagged ∧
    (((withPort 47 { portRun with resetHold := true }).reached 47 []).port 47).resetHold = true ∧
    (((withPort 47 { portRun with resetHold := true }).reached 47 []).port 47).takes 0xFFE true := by decide +kernel

/-- A transaction that waits for COMP_ACK of port 47. -/
def granted47 : Txn := { id := 1, kind := .readOwn, line := 0, slice := 0, port := 47, tid := 0xFFE, phase := .granted }

theorem test_meets_AgentAnswersAct :
    run47.dead = false ∧ run47.hears (portLink 47) ∧
    heard (run47.message (ack47 (good (plainHeader 0x11 0xFFE 0)))) = some (portLink 47, .good) ∧
    (({ run47 with txns := [granted47] } : State).took (portLink 47) []).txns.find?
      (fun t => t.phase == .granted && t.port == 47 && t.tid == 0xFFE && !t.ackIn) = some granted47 ∧
    (run47.took (portLink 47) []).txns.find? (fun t => t.phase == .granted && t.port == 47 && t.tid == 0xFFE && !t.ackIn) = none ∧
    heard (run47.message (.snoopResp 47 0xFFE 0 (good (plainHeader 0x12 0xFFE 0)))) = some (portLink 47, .good) ∧
    ((run47.took (portLink 47) []).port 47).snoops.find? (fun x => x.tid == 0xFFE) = none ∧
    heard (run47.message (.snoopData 47 0xFFE 0 0 (good (plainHeader 0x13 0xFFE 0 ++ lineBytes 0)))) = some (portLink 47, .good) ∧
    run47.holdsData 47 0 0 = false ∧
    (let s := withPort 47 { portRun with
        sb := [{ slot := 15, id := 3, line := 5, mask := 1, data := 0, isOpen := false, part := 0, epoch := 0 }]
        accesses := [{ seq := 0, key := .store 3 }]
        barriers := [{ seq := 1, tid := 1, scope := .port, answered := true }] }
     s.holdsData 47 2 0 = true ∧ s.holdsData 47 2 5 = false) ∧
    ((withPort 47 { portRun with held := [{ seq := 2, tid := 0xFFE, code := 0, data := 0 }] }).port 47).held.any (fun d => d.tid == 0xFFE) = true ∧
    (run47.port 47).snoops.any (fun x => x.tid == 0xFFE) = false ∧
    [granted47].any (fun t => t.phase == .granted && t.port == 47 && t.tid == 0xFFE && !t.ackIn) = true := by decide +kernel

/-- Port 47 with one open store-buffer entry. -/
def stored47 : State :=
  withPort 47 { portRun with sb := [{ slot := 15, id := 3, line := 5, mask := 1, data := 0, isOpen := true, part := 0, epoch := 0 }] }

/-- The drain of that entry. -/
def drain47 : Txn := { id := 9, kind := .drain, line := 5, slice := 0, port := 47, aux := 3 }

/-- The request of a walk. -/
def walkReq : Req := { op := .readShared, tid := 1, pa := 0 }

theorem test_meets_PortEventsAct :
    ((stored47.port 47).sb.find? (fun e => e.slot == 15 && e.isOpen)).isSome = true ∧
    (let s : State := { stored47 with txns := [drain47] }
     ((s.port 47).sb.find? (fun e => e.slot == 15)).map (·.id) = some 3 ∧
       s.txns.find? (fun t => t.kind == .drain && t.port == 47 && t.aux == 3) = some drain47 ∧ s.canOwn drain47 = true ∧
       s.canOwn { drain47 with phase := .memWrite } = false) ∧
    (let t : Txn := { id := 9, kind := .walk, line := 0, slice := 0, phase := .done }
     let w : Walk := { req := walkReq, addr := 0, txn := some 9 }
     let s : State := { withPort 47 { portRun with walk := some w } with txns := [t] }
     (s.port 47).walk = some w ∧ w.txn.bind s.txn = some t ∧ t.phase = .done ∧ t.poisoned = false ∧ { t with poisoned := true }.poisoned = true) ∧
    (((withPort 47 { portRun with sleepTid := some 1 }).port 47).sleepTid = some 1 ∧ (run47.port 47).sb = []) ∧
    ((run47.port 47).sleepTid = none ∧ (stored47.port 47).sb ≠ []) ∧
    ((withPort 47 { mode := .down, reclaim := .draining }).port 47).reclaim = .draining ∧
    (((withPort 47 { mode := .down, reclaim := .poisoning }).port 47).reclaim = .poisoning ∧ run47.poisonsDone 47 = true) ∧
    (run47.prdy 47 = true ∧ (withPort 47 { portRun with loanTarget := some 7 }).loanLink 47 = some 7 ∧ run47.loanLink 47 = none) ∧
    (((run47.modMl 7 (fun m => { m with owner := some 47 })).ml 7).owner = some 47 ∧ (run47.port 47).areq = false ∧
      (run47.modMl 7 (fun m => { m with owner := some 47 })).lockedOver 7 47 = true) ∧
    ((withPort 47 { portRun with areq := true }).port 47).areq = true ∧
    ((run47.port 47).sb.find? (fun e => e.slot == 15 && e.isOpen) = none ∧ (run47.port 47).walk = none ∧ (run47.port 47).reclaim = .idle ∧
      (hub .run).prdy 47 = false ∧ (run47.ml 7).owner = none) ∧
    (({ withPort 47 { mode := .down, reclaim := .poisoning } with txns := [{ id := 1, kind := .drain, line := 0, slice := 0, lost := some (47, 0) }] } :
      State).poisonsDone 47 = false) ∧
    (((run47.modMl 7 (fun m => { m with owner := some 47, outstanding := [(0, { who := .dev 47 1 2, pkt := { op := .devRd, addr := 0, locked := true }, part := 0 })] })).lockedOver 7 47) = false) := by decide

/-- One barrier of port 47. -/
def bar (scope : Scope) : Barrier := { seq := 1, tid := 1, scope := scope, answered := false }

theorem test_meets_StoresBarriersAndAdmissionFollowTheirRules :
    ((stored47.port 47).sb.find? (fun e => e.line == 5 && e.isOpen)).isSome = true ∧
    ((bar .system).scope = .system ∧ (bar .port).scope = .port) ∧
    ((bar .port).answered = false ∧ (run47.port 47).fence = .normal ∧ (bar .partition).scope = .partition ∧ (run47.port 47).nearBefore 1 = true ∧
      (run47.port 47).doneBefore 1 = true) ∧
    (let p : PortSt := { portRun with accesses := [{ seq := 0, key := .store 3 }] }
     p.nearBefore 1 = false ∧ p.doneBefore 1 = false) ∧ (fenceHeld.port 47).fence = .held ∧
    (let s : State := { run47 with credits := [{ slice := 31, credit := 7, port := 47, line := 31 }] }
     (s.validCredit 31 (some 255) 47 31).isSome = true ∧ s.validCredit 31 none 47 31 = none) ∧
    ((run47.setObj (K.sliceCap 15) 0).obj (K.sliceCap 15) ≤ run47.occupancy 31 15) ∧ run47.occupancy 31 15 < run47.obj (K.sliceCap 15) ∧
    (let s : State := { run47.setObj K.lineQueueDepth 0 with txns := [granted47] }
     s.blocked 0 = true ∧ s.obj K.lineQueueDepth ≤ s.lineQueue 0) ∧ run47.lineQueue 0 < run47.obj K.lineQueueDepth ∧
    (run47.blocked 0 = false ∧ run47.lineQueue 0 = 0) ∧
    (let s : State := { run47.setObj K.lineQueueDepth 1 with txns := [{ granted47 with phase := .queued }] }
     0 < s.lineQueue 0 ∧ s.obj K.lineQueueDepth ≤ s.lineQueue 0) ∧
    run47.entryFree 31 15 = true ∧
    ({ run47 with txns := (List.range 52).map (fun i => { granted47 with id := i, line := i }) } : State).entryFree 0 15 = false := by
  decide +kernel

/-! Part G. -/

/-- A read that waits for its burst. -/
def reader : Txn := { id := 4, kind := .readShared, line := 0, slice := 0, phase := .chanRead }

/-- A merge entry at burst address 0. -/
def merging (mask : Mask64) (flushing : Bool) : MergeEntry := { ba := 0, mask := mask, data := 0, line := 0, flushing := flushing }

theorem test_meets_SliceAndChannelTimersAct :
    ({ run47 with txns := [granted47] } : State).txns.find? (fun t => t.phase == .granted && t.line == 0 && !t.windowOver) = some granted47 ∧
    ({ granted47 with ackIn := true }.ackIn = true ∧ granted47.ackIn = false) ∧
    (∃ c ∈ [({ slice := 31, credit := 7, port := 47, line := 31 } : Credit)], c.slice = 31 ∧ c.credit = 7) ∧ run47.credits = [] ∧
    ((chan7 { merge := [merging 0xFFFF false] }).chan 7).merge.find? (fun m => m.ba == 0) = some (merging 0xFFFF false) ∧
    (((chan7 { merge := [merging 1 false], hold := true }).chan 7).hold = true ∧ ((hub .run).chan 7).merge.find? (fun m => m.ba == 0) = none ∧
      (hub .run).txns.find? (fun t => t.phase == .granted && t.line == 0 && !t.windowOver) = none ∧
      (hub .run).txns.find? (fun t => t.phase == .retryGap && t.line == 0) = none) ∧
    ((merging 1 true).flushing = true ∧ (merging 1 false).flushing = false ∧ beatsWhole 0xFFFF = true ∧ beatsWhole 1 = false) ∧
    [{ reader with phase := .retryGap }].find? (fun t => t.phase == .retryGap && t.line == 0) = some { reader with phase := .retryGap } ∧
    ({ reader with poisoned := true }.poisoned = true ∧ reader.poisoned = false) := by decide

theorem test_meets_BurstsAreDecodedForTheirReader :
    ((hub .run).chan 7).reads.find? (fun r => r.1 == 0) = none ∧
    (let s : State := { chan7 { state := .serving, reads := [(0, .txn 4)] } with txns := [reader] }
     (s.chan 7).reads.find? (fun r => r.1 == 0) = some (0, .txn 4) ∧ s.txn 4 = some reader ∧ reader.kind ≠ .scrubRow ∧
       reader.kind ≠ .patrolRow ∧ reader.phase = .chanRead ∧ (decodeBurst (s.marks 7) 0).map (·.2.1) = some false ∧
       (decodeBurst (s.marks 7) 1).map (·.2.1) = some true ∧ decodeBurst (s.marks 7) 0x010203 = none) ∧
    (let s : State := { chan7 { state := .serving, reads := [(0, .txn 4)] } with txns := [{ reader with phase := .poisonRead }] }
     (s.txn 4).map (·.phase) = some .poisonRead ∧ (hub .run).txn 4 = none) ∧
    (let s : State := { chan7 { state := .serving, reads := [(0, .txn 4)] } with txns := [{ reader with kind := .scrubRow }] }
     (s.txn 4).map (·.kind) = some .scrubRow) ∧
    ((chan7 { state := .serving, reads := [(0, .unused)] }).chan 7).reads.find? (fun r => r.1 == 0) = some (0, .unused) ∧
    ((chan7 { state := .serving, reads := [(0, .merge)] }).chan 7).merge.find? (fun m => m.flushing && m.ba == 0) = none ∧
    (let s := chan7 { state := .serving, reads := [(0, .merge)], merge := [merging 1 true] }
     (s.chan 7).reads.find? (fun r => r.1 == 0) = some (0, .merge) ∧ (s.chan 7).state ≠ .fenced ∧
       (s.chan 7).merge.find? (fun m => m.flushing && m.ba == 0) = some (merging 1 true)) := by decide +kernel

/-- An Archive request with tag 255 and the given opcode. -/
def arched (who : ArchWho) (op : ArchOp) : State :=
  { ((withLink (.arch 7) { phase := .up }).modMl 7 (fun m => { m with
      state := .serving, tags := 256
      outstanding := [(255, { who := who, pkt := { op := op, addr := 0 }, part := 0 })] })) with txns := [reader] }

theorem test_meets_ArchivePacketsAct :
    ((arched (.txn 4) .rdLine).hears (.arch 7)) ∧
    heard ((arched (.txn 4) .rdLine).message (.rdResp 7 255 0 false 0 (good32 (rdRespWords
      (((arched (.txn 4) .rdLine).ml 7).tagged 255) 255 0 false 0)))) = some (.arch 7, .good) ∧
    (((arched (.txn 4) .rdLine).ml 7).tagged 0 = none) ∧
    ((((arched (.txn 4) .rdLine).ml 7).tagged 255).map (fun r => (r.isRead, r.who)) = some (true, .txn 4)) ∧
    (arched (.txn 4) .rdLine).txn 4 = some reader ∧ (arched (.txn 5) .rdLine).txn 5 = none ∧
    ((((arched (.txn 5) .rdLine).ml 7).tagged 255).map (·.who) = some (.txn 5)) ∧
    ((((arched (.dev 47 1 2) .devRd).ml 7).tagged 255).map (fun r => (r.isRead, r.who)) = some (true, .dev 47 1 2)) ∧
    heard ((arched (.txn 4) .wrLine).message (.wrAck 7 255 0 (good32 [packetHeader 0x82 255 0 0 false false false]))) = some (.arch 7, .good) ∧
    ((((arched (.txn 4) .wrLine).ml 7).tagged 255).map (fun r => (r.isRead, r.who)) = some (false, .txn 4)) ∧
    ((((arched (.dev 47 1 2) .devWr).ml 7).tagged 255).map (fun r => (r.isRead, r.who)) = some (false, .dev 47 1 2)) ∧
    heard ((arched (.txn 4) .wrLine).message (.siRead 7 15 0 (good32 (siWords 0x90 15 0)))) = some (.arch 7, .good) ∧
    ((arched (.txn 4) .wrLine).dead = false ∧ (arched (.txn 4) .wrLine).mlServes 7 = true ∧ (15 : Byte).toNat < 16 ∧
      ((arched (.txn 4) .wrLine).ml 7).si.contains 15 = false) ∧
    (run47.mlServes 7 = false ∧ 16 ≤ (16 : Byte).toNat) ∧ run47.route 0 0 = .normal ∧ run47.route 0 0xFFFF000000 ≠ .normal ∧
    ((0 : Mask64) = 0 ∧ ({ arched (.txn 4) .wrLine with trans := .toFaultHold } : State).dead = true ∧
      (((arched (.txn 4) .wrLine).modMl 7 (fun m => { m with si := [15] })).ml 7).si.contains 15 = true) ∧
    (run47.homeNow.getLsbD (bucketOf 0) = true ∧ ({ run47 with homeNow := 0 } : State).homeNow.getLsbD (bucketOf 0) = false) := by
  decide +kernel

theorem test_meets_ArchiveLinksComeUpAndGo :
    (hub .run).mlMayRise 7 = true ∧ State.reset.mlMayRise 7 = false ∧
    (((withLink (.arch 7) { phase := .hello }).link (archLink 7)).phase = .hello ∧
      ((withLink (.arch 7) { phase := .hello }).link (archLink 7)).helloSent = false) ∧
    (((withLink (.arch 7) { phase := .refused }).link (archLink 7)).phase = .refused ∧
      ((withLink (.arch 7) { phase := .refused }).link (archLink 7)).helloSent = false ∧
      ((greetingArch true).link (archLink 7)).helloSent = true ∧ (greetingArch true).mlServes 7 = false) ∧
    (((withLink (.arch 7) { phase := .up }).link (archLink 7)).ended = true ∧ (withLink (.arch 7) { phase := .up }).mlServes 7 = false) ∧
    (hub .run).mlMode = true ∧ (hub .bringup).mlMode = false ∧ ({ hub .run with trans := .toFaultHold } : State).dead = true ∧
    (((hub .run).modMl 7 (fun m => { m with expired := true })).ml 7).expired = true ∧ ((hub .run).ml 7).state ≠ .down ∧
    ((hub .run).link (archLink 7)).phase ≠ .hello ∧
    (withLink (.arch 7) { phase := .up }).hears (.arch 7) ∧
    heard ((hub .run).message (.mlDescribe 7 255 16 true (good32 [describeWord 255 16 true]))) = some (.arch 7, .good) ∧
    (((hub .run).ml 7).describable = false ∧ (((hub .run).modMl 7 (fun m => { m with describable := true })).ml 7).describable = true) ∧
    (16 < (17 : Byte).toNat ∧ (linked [] 8).partner 7 ≠ none ∧ (16 : Byte).toNat ≤ 16 ∧ (hub .run).partner 7 = none) ∧
    (linked [] 0).mlServes 7 = true ∧ ((hub .run).mlServes 7 = false ∧ ((hub .run).link (archLink 7)).phase = .down) ∧
    ((hub .run).mode.ports = true ∧ (((hub .run).modMl 7 (fun m => { m with state := .down })).ml 7).state = .down ∧
      (((hub .run).modMl 7 (fun m => { m with state := .bringup })).ml 7).state = .bringup ∧ (hub .run).partnerServes 7 = false ∧
      ((hub .run).ml 7).expired = false) ∧ (linked [] 8).partnerServes 7 = true ∧ (hub .configure).mode.ports = false := by decide +kernel

/-! Part H. -/

/-- Partition 0 in a reset. -/
def resetting (stores : Bool) : State := { hub .run with resets := [{ part := 0, immediate := false, stores := stores }] }

theorem test_meets_PartitionsAreResetAndInvalidated :
    (hub .run).accepts net (K.partReset 15) 1 ∧ (hub .run).accepts net (K.partReset 15) 2 ∧ (hub .run).accepts net (K.tcInval 15) 1 ∧
    47 ∈ (hub .run).membersOf 0 ∧
    ((resetting false).resetOf 0 = some { part := 0, immediate := false, stores := false } ∧
      (resetting false).resetRecalled { part := 0, immediate := false } = true) ∧
    (({ resetting false with txns := [{ reader with kind := .recallReset, aux := 0 }] } : State).resetRecalled
      { part := 0, immediate := false } = false) ∧
    ((resetting true).resetOf 0 = some { part := 0, immediate := false, stores := true } ∧
      (∀ n ∈ (resetting true).membersOf 0, (resetting true).resetQuiet n = true) ∧
      (resetting true).resetClean { part := 0, immediate := false, stores := true } = true) ∧ (hub .run).resetOf 15 = none ∧
    (({ resetting true with txns := [{ reader with kind := .recallReset, aux := 0 }] } : State).resetClean
      { part := 0, immediate := false, stores := true } = false) ∧
    (47 ∈ stored47.membersOf 0 ∧ stored47.resetQuiet 47 = false) ∧
    (({ hub .run with tcInval := [15] } : State).tcInval.contains 15 = true ∧ (hub .run).tcWalks 15 = false) ∧
    (hub .run).tcInval.contains 15 = false ∧
    (withPort 47 { portRun with walk := some { req := walkReq, addr := 0, install := false } }).tcWalks 0 = true := by decide

theorem test_meets_ConsoleCommandsAct :
    run47.consoleMay 47 0 = true ∧
    (let s := run47.modCon 47 0 (fun c => { c with sel := K.mlEnable, len := 1 })
     (s.begin.objRead (conSrc 47 0) ((s.con 47 0).sel % 2 ^ 24) false).2.1 = 0) ∧
    (run47.begin.objRead (conSrc 47 0) ((run47.con 47 0).sel % 2 ^ 24) false).2.1 ≠ 0 ∧ (hub .run).consoleMay 47 0 = false := by decide

/-- A paired hub in Run, the pair link as given. -/
def paired (e : LinkEnd) (p : PairSt) : State :=
  { (withLink .pair e).setObj K.pairEnable 1 with pair := p, homeNow := 0x5555555555555555 }

theorem test_meets_PairWiresAct :
    ((paired {} {}).plMayRise = true ∧ ((paired {} {}).link .pair).backoff = false ∧ ((paired {} {}).link .pair).barred = false) ∧
    ((hub .run).plMayRise = false ∧ ((paired { backoff := true } {}).link .pair).backoff = true ∧
      ((paired { barred := true } {}).link .pair).barred = true) ∧
    (((paired { phase := .hello } {}).link .pair).phase = .hello ∧ ((paired { phase := .hello } {}).link .pair).helloSent = false) ∧
    ((paired {} {}).link .pair).phase ≠ .hello ∧ (paired {} {}).ready .pair = false ∧
    ((paired { phase := .up } { state := 5 }).ready .pair = true ∧ (paired { phase := .up } { state := 5 }).pair.state = 5) ∧
    ((paired { phase := .up } { state := 1 }).pair.state ≠ 2 ∧ (paired { phase := .up } { state := 1 }).pair.state ≠ 4 ∧
      (paired { phase := .up } { state := 1 }).pair.state ≠ 5) ∧
    (paired {} {}).pair.rdyi = false ∧ (paired {} { rdyi := true }).pair.rdyi = true ∧
    ((paired { backoff := true } {}).begin.modLink .pair (fun e => { e with backoff := false })).plMayRise = true ∧
    (((paired { phase := .refused } {}).link .pair).phase = .refused ∧ ((paired { phase := .hello, helloSent := true } {}).link .pair).helloSent = true) ∧
    ((hub .run).begin.modLink .pair (fun e => { e with backoff := false })).plMayRise = false := by decide

/-- A paired hub whose partner is known. -/
def mated (p : PairSt) : State := paired { phase := .up } { p with state := 2, rdyi := true, greeted := true }

/-- The body of a pair message with TID 1, and its CRC. -/
def pairRx (m : PairMsg) : Rx := good (m.symbols 1)

theorem test_meets_PairMessagesAct :
    (mated {}).hears .pair ∧
    heard ((mated {}).message (.pairHello 1 0 0 1 (pairRx { op := .hello, state := 1 }))) = some (.pair, .good) ∧
    ((0 : Byte).toNat % 2 = (mated {}).obj K.pairRole % 2 ∧ (1 : Byte).toNat % 2 ≠ (mated {}).obj K.pairRole % 2 ∧
      (0 : Mask64) ≠ BitVec.ofNat 64 ((mated {}).obj K.pairMask)) ∧
    ((mated {}).pair.giving = 0 ∧ (mated {}).pair.given = 0 ∧ (mated {}).pair.taking = 0) ∧
    (let w := mated { given := 3 }
     w.pair.given ≠ 0 ∧ ((w.pairTo 5).giveConfirmed 1).pair.given ≠ 0 ∧ ((w.pairTo 5).giveConfirmed 3).pair.given = 0) ∧
    heard ((mated {}).message (.rangeGive 1 1 (pairRx { op := .give, home := 1 }))) = some (.pair, .good) ∧
    heard ((mated {}).message (.rangeTaken 1 1 (pairRx { op := .taken, home := 1 }))) = some (.pair, .good) ∧
    heard ((mated {}).message (.returnReq 1 1 (pairRx { op := .returnReq, home := 1 }))) = some (.pair, .good) ∧
    heard ((mated {}).message (.surprise 1 (pairRx { op := .surprise }))) = some (.pair, .good) ∧
    ((hub .run).pairOpen = false ∧ (mated {}).pairOpen = true) ∧
    ((mated {}).pair.given &&& 1 = 0 ∧ (mated { given := 1 }).pair.given &&& 1 ≠ 0) ∧
    ((mated {}).mode.serving = true ∧ ({ mated {} with mode := .configure } : State).mode.serving = false) ∧
    ((mated { taking := 1 }).takeAcked = true ∧ (mated { taking := 1 }).pair.taking ≠ 0 ∧ (mated { lost := true }).pair.lost = true ∧
      (mated {}).pair.lost = false) ∧
    (mated {}).pair.taking = 0 := by decide +kernel

/-! Part I. -/

/-- A good request frame with the payload given. -/
def frame (payload : List Byte) : JopFrame :=
  { mac := 5, broadcast := false, version := 1, seq := 7, flags := 0, reserved := 0, len := BitVec.ofNat 16 payload.length, payload := payload }

/-- An answer that waits. -/
def answering (n : Nat) : State :=
  { hub .run with jop := { up := true, waiting := some { mac := 5, op := 5, seq := 1, status := 0, payload := [], wait := .no }
                           queue := List.replicate n { op := 1, frame := frame [] } } }

theorem test_meets_FieldRequestsAreServedOnce :
    (payloadNat (frame (List.replicate 12 0)).payload 4 1 = 0 ∧ payloadNat (frame (List.replicate 12 1)).payload 4 1 = 1 ∧
      payloadNat (frame (List.replicate 12 2)).payload 4 1 = 2 ∧ 2 < payloadNat (frame (List.replicate 12 3)).payload 4 1) ∧
    State.reset.jop.up = false ∧ ({ hub .run with domains := 1 } : State).pd 1 = false ∧ ((hub .run).jop.up = true ∧ (hub .run).pd 1 = true) ∧
    ({ frame [] with broadcast := true }.broadcast = true ∧ 5 ≠ 1) ∧ (hub .run).jop.waiting = none ∧
    (({ hub .run with jop := { up := true, kept := [{ mac := 5, seq := 7, op := 1, status := 0, payload := [], time := 0 }] } } : State).keptFor
      (frame [])).isSome = true ∧ (hub .run).keptFor (frame []) = none ∧
    (frameBad 1 (frame []) = false ∧ frameBad 1 (frame [0]) = true) ∧
    ((answering 15).jop.waiting ≠ none ∧ (answering 15).jop.queue.length < 16 ∧ 16 ≤ (answering 16).jop.queue.length) := by decide

theorem test_meets_FieldRequestsAreServed :
    frameBad 1 (frame []) = false ∧ (frameBad 8 (frame (List.replicate 5 0)) = false ∧ (hub .run).readMode K.journalNext = 0 ∧
      (hub .run).journalRead 0 0 = []) ∧ frameBad 2 (frame [0, 0x25, 1, 0]) = false ∧
    (frameBad 3 (frame [0, 0x25, 1, 0]) = false ∧
      (hub .run).writeStatus (.net 5) (itemKey (frame [0, 0x25, 1, 0]).payload) ((frame [0, 0x25, 1, 0]).payload.drop 4) false = 5) ∧
    (frameBad 4 (frame [0, 0x25, 1, 0]) = false ∧
      (hub .run).writeStatus (.net 5) (itemKey (frame [0, 0x25, 1, 0]).payload) ((frame [0, 0x25, 1, 0]).payload.drop 4) true ≠ 0) ∧
    (frameBad 5 (frame []) = false ∧ (hub .run).mode ≠ .bringup ∧ (hub .run).mode ≠ .faultHold ∧
      ({ hub .run with commitState := true } : State).commitState = true ∧ (hub .run).commitFault = none ∧
      ({ hub .run with staged := [(K.sliceCap 0, 1)] } : State).commitFault.isSome = true) ∧
    (frameBad 6 (frame [0, 0x25, 1, 0, 0, 0, 0, 0, 0, 0, 0, 0]) = false ∧ (hub .run).readMode K.mlEnable = 0 ∧
      (lookupRow 0x2500 1).map (fun r => decide (r.acc ≠ .wo)) = some true ∧
      payloadNat (frame [0, 0x25, 1, 0, 0, 0, 0, 0, 0, 0, 0, 0]).payload 4 1 = 0) ∧
    ((hub .run).jop.subs.find? (fun y => y.mac == 5 && y.key == K.mlEnable) = none ∧
      ([{ id := 0, mac := 5, key := K.mlEnable, onChange := true, period := 0, lastValue := 0, lastTime := 0, seq := 0 }]
        : List Subscription).any (fun y => y.mac == 5 && y.key == K.mlEnable) = true) := by decide

/-- A hub with one subscription, number 15. -/
def subscribed (onChange : Bool) (last : Nat) : State :=
  { hub .run with jop := { up := true
                           subs := [{ id := 15, mac := 5, key := K.mlEnable, onChange := onChange, period := 1, lastValue := last, lastTime := 0,
                                      seq := 0 }] } }

theorem test_meets_FieldEventsAct :
    (let s : State := { hub .run with commitState := true }
     s.commitState = true ∧ s.commitPending = 0 ∧ s.moving = [] ∧ s.dead = false) ∧ (hub .run).commitState = false ∧
    ({ hub .run with trans := .toFaultHold } : State).dead = true ∧ ({ hub .run with commitPending := 1 } : State).commitPending ≠ 0 ∧ ({ hub .run with moving := [(0, 0)] } : State).moving ≠ [] ∧
    (((subscribed false 0).sub 15).map (·.onChange) = some false ∧ (subscribed false 0).notifiable K.mlEnable = true ∧
      ({ subscribed false 0 with mode := .faultHold } : State).notifiable (K.dcMarkA 0) = false) ∧
    (((subscribed true 0).sub 15).map (·.onChange) = some true ∧ (subscribed true 0).objGet K.mlEnable ≠ 0 ∧
      (subscribed true 255).objGet K.mlEnable = 255) ∧ (hub .run).sub 15 = none ∧
    (({ hub .run with jop := { up := true, segs := List.replicate 4 { mac := 5, key := 0, write := true, offset := 0, data := [] } } } : State).jop.segs[3]?).isSome
      = true ∧ (hub .run).jop.segs[3]? = none ∧ ((hub .run).jop.up = true ∧ (hub .run).pd 1 = true) ∧ State.reset.jop.up = false := by decide

end Sys2Proof.Tests
end

namespace Sys2Proof.Machine

/-- The equation of `step` for a queue that is not empty. The queue is given by a hypothesis, so that it also serves where `s` is no
record written out. -/
theorem step_of_pending_cons {s : State} {c : Instr} {rest : List Instr} (hq : s.pending = c :: rest) :
    step s = exec c { s with pending := rest } := by
  unfold step
  rw [hq]

/-- Settles O1: the equation of `step` at the state whose queue is `c :: rest`; the queue of `s` itself is overwritten on both sides. -/
theorem stepRunsTheFrontCommand : Obligations.StepRunsTheFrontCommand := by
  unfold Obligations.StepRunsTheFrontCommand
  intro c rest s
  have hq : ({ s with pending := c :: rest } : State).pending = c :: rest := rfl
  exact step_of_pending_cons hq

end Sys2Proof.Machine

namespace Sys2Proof.Machine

/-! Reception: what a good message does on a link that hears. -/

/-- A command that is well formed completes with its own operation's effect. -/
theorem exec_eq_of_effect {c : Instr} {s t : State} (hc : c.wellFormed = true) (h : s.begin.effect c = t) :
    exec c s = .next (s.after t) := by
  subst h
  cases c
  case telemetryUpdate x =>
    show execTelemetryUpdate x s = _
    unfold execTelemetryUpdate
    rw [if_pos (show x.wellFormed = true from hc)]
    rfl
  all_goals rfl

@[simp] theorem State.capture_dead (s : State) (l : LinkId) (syms : List Nat) : (s.capture l syms).dead = s.dead := by
  simp [State.capture]

@[simp] theorem State.sendAck_dead (s : State) (l : LinkId) : (s.sendAck l).dead = s.dead := by
  simp [State.sendAck, State.sendLink, State.launch]

@[simp] theorem State.delivered_dead (s : State) (l : LinkId) : (s.delivered l).dead = s.dead := by
  unfold State.delivered
  dsimp only
  split
  · simp
  · simp

@[simp] theorem State.took_dead (s : State) (l : LinkId) (syms : List Nat) : (s.took l syms).dead = s.dead := by
  simp [State.took]

/-- A good numbered message on a link that hears is delivered and acted on (03 R58, R80, R86). -/
theorem State.recv8_hears {s : State} {l : LinkId} {body : List Byte} {rx : Rx} {syms : List Nat} (hears : s.hears l)
    (good : msg8 l body rx = some (l, .good, syms)) (f : State → State) : s.begin.recv8 l body rx f = f (s.took l syms) := by
  obtain ⟨hup, hsync⟩ := hears
  simp only [msg8, Option.some.injEq, Prod.mk.injEq, true_and] at good
  obtain ⟨hrx, rfl⟩ := good
  simp [State.recv8, State.receive, State.took, hup, hsync, hrx]

/-- An answer of an agent is acted on once it has been delivered (04 R101). -/
theorem State.recvAnswer_hears {s : State} {n : Port} {op : Byte} {tid : Tid} {x : Byte} {fields : List Byte} {rx : Rx} {syms : List Nat}
    (alive : s.dead = false) (hears : s.hears (portLink n))
    (good : msg8 (portLink n) (plainHeader op tid x ++ fields) rx = some (portLink n, .good, syms)) (f : State → State) :
    s.begin.recvAnswer n op tid x fields rx f = f (s.took (portLink n) syms) := by
  unfold State.recvAnswer
  rw [State.recv8_hears hears good]
  simp [alive]

/-! Arrival of a request: the checks of R105 that it passes. -/

/-- A request that the port takes now becomes outstanding and the port's operation follows (04 R105, R111; 10 R274). -/
theorem State.arrive_takes {s : State} {n tid : Nat} {tagged legal : Bool} {kind : Kind} (alive : s.dead = false) (hlegal : legal = true)
    (takes : ((s.stirs n).port n).takes tid tagged) (now : ((s.stirs n).port n).resetHold = false ∨ kind = .evict) (op : DownOp)
    (f : State → State) : s.arrive n tid tagged legal op kind f = f ((s.stirs n).takeIn n tid) := by
  obtain ⟨hrun, hfree, hroom⟩ := takes
  have hfull : ¬(tagged = true ∧ ((s.stirs n).port n).maxTagged ≤ ((s.stirs n).port n).tagged) := fun h => by
    have := hroom h.1
    omega
  have hheld : ¬(((s.stirs n).port n).resetHold = true ∧ kind ≠ .evict) := by
    rintro ⟨h1, h2⟩
    rcases now with h | h
    · simp [h] at h1
    · exact h2 h
  simp only [State.arrive, alive, hlegal, hrun, hfree]
  simp [hfull, hheld]

/-- A BARRIER before Run is answered as the port's fence says (04 R105; 02 R51, R53). -/
theorem State.arrive_early {s : State} {n tid : Nat} {tagged legal : Bool} (alive : s.dead = false) (hlegal : legal = true)
    (early : ((s.stirs n).port n).mode ≠ .run) (hfree : ((s.stirs n).port n).hasTid tid = false) (op : DownOp) (f : State → State) :
    s.arrive n tid tagged legal op .barrier f = ((s.stirs n).takeIn n tid).earlyBarrier n tid := by
  simp [State.arrive, alive, hlegal, early, hfree]

/-- ATTR bits 7 and 6 at 0 are legal on every request (04 R95). -/
theorem attrLegal_plain {h : Hdr} (ht : hHasToken h = false) (hl : hLocked h = false) (token locked : Bool) :
    attrLegal h token locked = true := by simp [attrLegal, ht, hl]

/-- A tagged request reaches the message layer of port n: the hub still accepts messages, the link hears, the message is whole, and its TID
is one for agents (03 R82, R87; 04 R92, R93; 13 R348). -/
structure State.Hands (s : State) (n : Port) (op : Byte) (h : Hdr) (fields : List Byte) (rx : Rx) (syms : List Nat) : Prop where
  alive : s.dead = false
  hears : s.hears (portLink n)
  whole : msg8 (portLink n) (taggedHeader op h ++ fields) rx = some (portLink n, .good, syms)
  tid : h.tid ≠ 0xFFF

section

variable {s : State} {n : Port} {op : Byte} {h : Hdr} {fields : List Byte} {rx : Rx} {syms : List Nat} {legal : Bool}

/-- A tagged request of legal form that the port takes now: the port's operation on it follows. -/
theorem State.recvTagged_takes {kind : Kind} (hands : s.Hands n op h fields rx syms) (hlegal : legal = true)
    (takes : ((s.reached n syms).port n).takes h.tid.toNat true)
    (now : ((s.reached n syms).port n).resetHold = false ∨ kind = .evict) (resp : DownOp) (f : State → State) :
    s.begin.recvTagged n op h fields rx legal resp kind f = f ((s.reached n syms).takeIn n h.tid.toNat) := by
  unfold State.recvTagged
  rw [State.recv8_hears hands.hears hands.whole]
  exact State.arrive_takes (by simp [hands.alive]) (by simpa [hlegal] using hands.tid) takes now resp f

/-- A BARRIER of legal form that reaches a port before Run. -/
theorem State.recvTagged_early (hands : s.Hands n op h fields rx syms) (hlegal : legal = true)
    (early : ((s.reached n syms).port n).mode ≠ .run) (hfree : ((s.reached n syms).port n).hasTid h.tid.toNat = false) (resp : DownOp)
    (f : State → State) :
    s.begin.recvTagged n op h fields rx legal resp .barrier f =
      ((s.reached n syms).takeIn n h.tid.toNat).earlyBarrier n h.tid.toNat := by
  unfold State.recvTagged
  rw [State.recv8_hears hands.hears hands.whole]
  exact State.arrive_early (by simp [hands.alive]) (by simpa [hlegal] using hands.tid) early hfree resp f

end

/-- What `takeIn` makes of its own port. -/
@[simp] theorem State.port_takeIn_same (s : State) (n tid : Nat) :
    (s.takeIn n tid).port n = { s.port n with outstanding := (s.port n).outstanding ++ [(tid, (s.port n).epoch)] } := by
  simp [State.takeIn]

end Sys2Proof.Machine

namespace Sys2Proof.Machine

/-! Write backs and offers (04 R106, R107, R119, R127). -/

/-- A write back of a line that the port is shown to hold (05 R136, R151). -/
theorem State.writebackIn_recorded {s w : State} {n pa line : Nat} {st : CatState} (hc : s.copyAt n pa = (w, some (line, st)))
    (tid seq : Nat) (d : Line) {x : State} (hx : x = if st = .shared then (w.dropLine n line).breach n else w.dropLine n line) :
    s.writebackIn n tid seq pa d = x.takeBack n {
      id := 0, kind := .writeback, line := line, slice := x.sliceOf line, port := n, tid := tid, pa := pa
      part := x.partOf n, epoch := x.epochOf n tid, entry := .waiting, data := d } seq := by
  subst hx
  simp only [State.writebackIn, hc]

/-- A write back of a line that the port is not shown to hold waits for its translation (04 R107). -/
theorem State.writebackIn_orphan {s w : State} {n pa : Nat} (hc : s.copyAt n pa = (w, none)) (tid seq : Nat) (d : Line) :
    s.writebackIn n tid seq pa d = w.modPort n (fun p => { p with
      waiting := p.waiting ++ [{ op := .writeback, tid := tid, pa := pa, data := d, mask := fullMask, seq := seq, epoch := p.epoch }]
      accesses := p.accesses ++ [{ seq := seq, key := .load tid, near := true }] }) := by
  simp only [State.writebackIn, hc]

section

variable {s : State} {n : Port} {h : Hdr} {a : Word} {d : Line} {rx : Rx} {syms : List Nat} {v : State}
  (takes : ((s.reached n syms).port n).takes h.tid.toNat true) (hv : v = (s.reached n syms).takeIn n h.tid.toNat)
  (plain : ∀ token locked, attrLegal h token locked = true) (halign : a.toNat % 64 = 0)

include takes hv plain halign

/-- A WRITEBACK that arrives goes to its home, past a partition reset (10 R274), unless the bucket is not this hub's (04 R127). -/
theorem State.writebackReq_takes (hands : s.Hands n 0x08 h (addrSymbols a ++ lineBytes d) rx syms) :
    s.begin.writebackReq n h a d rx =
      if v.isHome n (a.toNat / 64) = false then v.refuse n h.tid.toNat ((s.reached n syms).port n).epoch .complete 12
      else (v.modPort n (fun p => { p with seq := p.seq + 1 })).writebackIn n h.tid.toNat ((s.reached n syms).port n).seq a.toNat d := by
  subst hv
  unfold State.writebackReq
  rw [State.recvTagged_takes hands (by simp [plain, halign]) takes (.inr rfl)]
  simp only [State.port_takeIn_same, Bool.not_eq_true']

/-- An EVICT_OFFER that arrives, of a bucket that is not this hub's (04 R127). -/
theorem State.offerReq_away (hands : s.Hands n 0x09 h (addrSymbols a ++ lineBytes d) rx syms) (away : v.isHome n (a.toNat / 64) = false) :
    s.begin.offerReq n h a d rx = v.refuse n h.tid.toNat ((s.reached n syms).port n).epoch .complete 12 := by
  subst hv
  unfold State.offerReq
  rw [State.recvTagged_takes hands (by simp [plain, halign]) takes (.inr rfl)]
  simp only [away, State.port_takeIn_same, Bool.not_false, if_true]

/-- An EVICT_OFFER of a line that the port is not shown to hold is declined (04 R119). -/
theorem State.offerReq_unrecorded (hands : s.Hands n 0x09 h (addrSymbols a ++ lineBytes d) rx syms)
    (home : v.isHome n (a.toNat / 64) = true) {w : State} (hc : v.copyAt n a.toNat = (w, none)) :
    s.begin.offerReq n h a d rx = w.declineOffer n h.tid.toNat (a.toNat / 64) := by
  subst hv
  unfold State.offerReq
  rw [State.recvTagged_takes hands (by simp [plain, halign]) takes (.inr rfl)]
  simp [home, hc]

/-- An EVICT_OFFER of a line that the port is shown to hold frees the entry; the offer of a line recorded O is declined, another becomes
the head of the line's queue (05 R136, R153; assumption 74). -/
theorem State.offerReq_recorded (hands : s.Hands n 0x09 h (addrSymbols a ++ lineBytes d) rx syms)
    (home : v.isHome n (a.toNat / 64) = true) {w x : State} {line : Nat} {st : CatState} (hc : v.copyAt n a.toNat = (w, some (line, st)))
    (hx : x = ((w.dropLine n line).drainLine n line).modPort n (fun p => { p with
      reservation := if p.reservation = some line then none else p.reservation })) :
    s.begin.offerReq n h a d rx = if st = .owned then x.declineOffer n h.tid.toNat line else x.newTxnFirst {
      id := 0, kind := .evictOffer, line := line, slice := x.sliceOf line, port := n, tid := h.tid.toNat, pa := a.toNat
      part := x.partOf n, epoch := x.epochOf n h.tid.toNat, entry := .waiting, data := d } := by
  subst hv hx
  unfold State.offerReq
  rw [State.recvTagged_takes hands (by simp [plain, halign]) takes (.inr rfl)]
  simp only [home, hc, Bool.not_true, Bool.false_eq_true, if_false]

end

/-- Settles O43: each message reaches its home by `recvTagged_takes`; what follows is decided by the bucket, the copy and its state. -/
theorem writeBacksAndOffersGoToTheHome : Obligations.WriteBacksAndOffersGoToTheHome := by
  unfold Obligations.WriteBacksAndOffersGoToTheHome
  intro s n h a d rx syms u v alive hears hu hv takes htid htok hlock halign
  subst hu
  have plain := attrLegal_plain htok hlock
  refine ⟨fun good => ?_, fun good => ?_⟩
  · have hands : s.Hands n 0x08 h (addrSymbols a ++ lineBytes d) rx syms := ⟨alive, hears, good, htid⟩
    have arrives := State.writebackReq_takes takes hv plain halign hands
    refine ⟨fun away => exec_eq_of_effect rfl (arrives.trans (if_pos away)), fun home w c hc => ?_⟩
    rw [if_neg (by simp [home])] at arrives
    refine ⟨?_, ?_⟩
    · rintro line st x rfl hx
      exact exec_eq_of_effect rfl (arrives.trans (State.writebackIn_recorded hc _ _ _ hx))
    · rintro rfl
      exact exec_eq_of_effect rfl (arrives.trans (State.writebackIn_orphan hc _ _ _))
  · have hands : s.Hands n 0x09 h (addrSymbols a ++ lineBytes d) rx syms := ⟨alive, hears, good, htid⟩
    refine ⟨fun away => exec_eq_of_effect rfl (State.offerReq_away takes hv plain halign hands away), fun home w c hc => ⟨?_, ?_⟩⟩
    · rintro rfl
      exact exec_eq_of_effect rfl (State.offerReq_unrecorded takes hv plain halign hands home hc)
    · rintro line st x rfl hx
      have arrives := State.offerReq_recorded takes hv plain halign hands home hc hx
      exact ⟨fun owned => exec_eq_of_effect rfl (arrives.trans (if_pos owned)), fun notOwned => exec_eq_of_effect rfl (arrives.trans (if_neg notOwned))⟩

end Sys2Proof.Machine

namespace Sys2Proof.Machine

/-! Barriers, loans, waiting and sleep (02 R31, R35; 04 R123 to R125). -/

/-- The rows of BARRIER are one operation, each with its own SCOPE bits (04 R98). -/
theorem effect_barrier {c : Instr} {scope : Scope} {n : Port} {h : Hdr} {rx : Rx}
    (hc : (c = .barrierPort n h rx ∧ scope = .port) ∨ (c = .barrierPartition n h rx ∧ scope = .partition) ∨
      (c = .barrierSystem n h rx ∧ scope = .system)) :
    c.wellFormed = true ∧ ∃ bits, ∀ s : State, s.message c = msg8 (portLink n) (barrierBody h bits) rx ∧
      s.begin.effect c = s.begin.barrierReq n h scope bits rx := by
  rcases hc with ⟨rfl, rfl⟩ | ⟨rfl, rfl⟩ | ⟨rfl, rfl⟩
  · exact ⟨rfl, 0, fun s => ⟨rfl, rfl⟩⟩
  · exact ⟨rfl, 1, fun s => ⟨rfl, rfl⟩⟩
  · exact ⟨rfl, if h.attr &&& 3 = 3 then 3 else 2, fun s => ⟨rfl, rfl⟩⟩

section

variable {s : State} {n : Port} {h : Hdr} {rx : Rx} {syms : List Nat} {v : State}
  (hv : v = (s.reached n syms).takeIn n h.tid.toNat) (plain : ∀ token locked, attrLegal h token locked = true)

include hv plain

/-- A BARRIER before Run (04 R105). -/
theorem State.barrierReq_early {scope : Scope} {bits : Nat}
    (hands : s.Hands n 0x0C { h with attr := (h.attr &&& 0xFC) ||| BitVec.ofNat 8 bits } [] rx syms)
    (early : ((s.reached n syms).port n).mode ≠ .run) (hfree : ((s.reached n syms).port n).hasTid h.tid.toNat = false) :
    s.begin.barrierReq n h scope bits rx = v.earlyBarrier n h.tid.toNat := by
  subst hv
  exact State.recvTagged_early hands (plain _ _) early hfree _ _

variable (takes : ((s.reached n syms).port n).takes h.tid.toNat true) (now : ((s.reached n syms).port n).resetHold = false)

include takes now

/-- A BARRIER of a port in Run drains the store buffer and takes its place in the port's order (02 R31, R35). -/
theorem State.barrierReq_takes {scope : Scope} {bits : Nat}
    (hands : s.Hands n 0x0C { h with attr := (h.attr &&& 0xFC) ||| BitVec.ofNat 8 bits } [] rx syms) :
    s.begin.barrierReq n h scope bits rx = (v.drainAll n).modPort n (fun p => { p with
      seq := p.seq + 1, barriers := p.barriers ++ [{ seq := p.seq, tid := h.tid.toNat, scope := scope, answered := false }] }) := by
  subst hv
  exact State.recvTagged_takes hands (plain _ _) takes (.inl now) _ _

/-- LOAN_TARGET is refused while the hub parks, refused for a link that the partition may not take, or kept (04 R123; 09 R254). -/
theorem State.targetReq_takes {k : Byte} (hands : s.Hands n 0x0D h [k] rx syms) (low : (s.port n).areq = false) :
    s.begin.targetReq n h k rx =
      if v.parked = true then v.respondNow n { op := .complete, tid := h.tid.toNat, status := 13 }
      else if v.loanable (v.partOf n) k.toNat = false then
        (v.bump (K.permFaults n)).respondNow n { op := .complete, tid := h.tid.toNat, status := 7 }
      else (v.modPort n (fun p => { p with loanTarget := some k.toNat })).respondNow n
        { op := .complete, tid := h.tid.toNat, status := 0 } := by
  subst hv
  unfold State.targetReq
  rw [State.recvTagged_takes hands (by simp [plain, low]) takes (.inl now)]
  simp only [Bool.not_eq_true']

/-- WAIT_EVENT is answered at once while APn_IRQ is high, and held otherwise (04 R124). -/
theorem State.waitReq_takes (hands : s.Hands n 0x0E h [] rx syms) :
    s.begin.waitReq n h rx =
      if v.irqShould.getLsbD n = true then v.respond n { op := .complete, tid := h.tid.toNat, epoch := (v.port n).epoch }
      else v.modPort n (fun p => { p with waitEvent := some h.tid.toNat }) := by
  subst hv
  exact State.recvTagged_takes hands (plain _ _) takes (.inl now) _ _

/-- SLEEP_REQ is refused for its reasons in order, or drains the store buffer and sleeps once that is empty (04 R125; 11 R308). -/
theorem State.sleepReq_takes (hands : s.Hands n 0x0F h [] rx syms) :
    s.begin.sleepReq n h rx =
      if ((v.port n).outstanding.any (fun o => o.1 != h.tid.toNat) || (v.port n).owedErrors.any (fun o => !o.retires)) = true then
        v.sleepNack n h.tid.toNat 3
      else if ((v.port n).areq || (v.port n).agnt) = true then v.sleepNack n h.tid.toNat 2
      else if v.sleepHeldUp n = true then (v.endModeration (v.partOf n)).sleepNack n h.tid.toNat 1
      else ((v.drainAll n).modPort n (fun p => { p with sleepTid := some h.tid.toNat })).sleeps n := by
  subst hv
  exact State.recvTagged_takes hands (plain _ _) takes (.inl now) _ _

end

/-! A BARRIER before Run by the port's fence (02 R51, R53; 04 R105). -/

theorem State.earlyBarrier_normal {s : State} {n : Nat} (hf : (s.port n).fence = .normal) (tid : Nat) :
    s.earlyBarrier n tid = (s.bump (K.barriersOk n)).respondNow n { op := .complete, tid := tid, status := 0 } := by
  simp only [State.earlyBarrier, hf]

theorem State.earlyBarrier_pending {s : State} {n : Nat} (hf : (s.port n).fence = .pending) (tid : Nat) :
    s.earlyBarrier n tid = (s.toHeld n).respondNow n { op := .complete, tid := tid, status := 11 } := by
  simp only [State.earlyBarrier, hf]

theorem State.earlyBarrier_held {s : State} {n : Nat} (hf : (s.port n).fence = .held) (tid : Nat) :
    s.earlyBarrier n tid = (s.bump (K.heldRefusals n)).respondNow n { op := .complete, tid := tid, status := 10 } := by
  simp only [State.earlyBarrier, hf]

/-- Settles O44: each request reaches its operation by `recvTagged_takes`, a BARRIER before Run by `recvTagged_early`; the branches of the
operation are the clauses. -/
theorem orderingRequestsAct : Obligations.OrderingRequestsAct := by
  unfold Obligations.OrderingRequestsAct
  intro s n h rx syms u v alive hears hu hv htid htok hlock
  subst hu
  have plain := attrLegal_plain htok hlock
  refine ⟨fun c scope hc good => ?_, fun takes now => ⟨fun k low good => ?_, fun good => ?_, fun good busy hbusy => ?_⟩⟩
  · obtain ⟨hwf, bits, hrow⟩ := effect_barrier hc
    obtain ⟨hmsg, heffect⟩ := hrow s
    rw [hmsg] at good
    have hands : s.Hands n 0x0C { h with attr := (h.attr &&& 0xFC) ||| BitVec.ofNat 8 bits } [] rx syms := ⟨alive, hears, good, htid⟩
    refine ⟨fun takes now => exec_eq_of_effect hwf (heffect.trans (State.barrierReq_takes hv plain takes now hands)),
      fun early hfree => ?_⟩
    have arrives := heffect.trans (State.barrierReq_early hv plain hands early hfree)
    have hfence : (v.port n).fence = ((s.reached n syms).port n).fence := by simp [hv]
    rw [← hfence]
    exact ⟨fun hf => exec_eq_of_effect hwf (arrives.trans (State.earlyBarrier_normal hf _)),
      fun hf => exec_eq_of_effect hwf (arrives.trans (State.earlyBarrier_pending hf _)),
      fun hf => exec_eq_of_effect hwf (arrives.trans (State.earlyBarrier_held hf _))⟩
  · have arrives := State.targetReq_takes hv plain takes now ⟨alive, hears, good, htid⟩ low
    refine ⟨fun parked => exec_eq_of_effect rfl (arrives.trans (if_pos parked)), fun unparked barred => ?_, fun unparked free => ?_⟩
    · rw [if_neg (by simp [unparked]), if_pos barred] at arrives
      exact exec_eq_of_effect rfl arrives
    · rw [if_neg (by simp [unparked]), if_neg (by simp [free])] at arrives
      exact exec_eq_of_effect rfl arrives
  · have arrives := State.waitReq_takes hv plain takes now ⟨alive, hears, good, htid⟩
    exact ⟨fun high => exec_eq_of_effect rfl (arrives.trans (if_pos high)),
      fun low => exec_eq_of_effect rfl (arrives.trans (if_neg (by simp [low])))⟩
  · have arrives := State.sleepReq_takes hv plain takes now ⟨alive, hears, good, htid⟩
    rw [← hbusy] at arrives
    refine ⟨fun isBusy => exec_eq_of_effect rfl (arrives.trans (if_pos isBusy)), fun idle => ?_⟩
    rw [if_neg (by simp [idle])] at arrives
    refine ⟨fun loan => exec_eq_of_effect rfl (arrives.trans (if_pos (by simpa using loan))), fun noReq noGrant => ?_⟩
    rw [if_neg (by simp [noReq, noGrant])] at arrives
    exact ⟨fun heldUp => exec_eq_of_effect rfl (arrives.trans (if_pos heldUp)),
      fun clear => exec_eq_of_effect rfl (arrives.trans (if_neg (by simp [clear])))⟩

end Sys2Proof.Machine

namespace Sys2Proof.Machine

/-! Stores and barriers inside the hub (02 R28, R29, R35, R51). -/

/-- A store merges into the open entry of its line: the bytes of its mask are overlaid, and the entry stays open unless a later barrier
waits (02 R28, R31). -/
def SbEntry.merged (e : SbEntry) (r : Req) (late : Bool) : SbEntry :=
  { e with mask := e.mask ||| r.mask, data := overlay e.data r.data r.mask, isOpen := !late }

/-- A store to a line with an open entry merges into it and is answered OK (02 R28, R29). -/
theorem State.acceptStore_merges {s : State} {n line : Nat} {r : Req} {e : SbEntry}
    (hopen : (s.port n).sb.find? (fun e => e.line == line && e.isOpen) = some e) :
    s.acceptStore n r line =
      ((s.modPort n (fun p => { p with
        sb := p.sb.map (fun x => if x.id = e.id then x.merged r ((s.port n).barriers.any (fun b => r.seq < b.seq)) else x)
        accesses := p.accesses ++ [{ seq := r.seq, key := .store e.id }] })).takeOut n r).respond n
        { op := .complete, tid := r.tid, epoch := r.epoch } := by
  simp only [State.acceptStore, hopen]
  rfl

section

variable {s : State} {n : Nat} {b : Barrier} (hb : b.answered = false)

include hb

/-- A barrier of a held port is answered HELD (02 R53). -/
theorem State.barrierStep_held (hf : (s.port n).fence = .held) :
    s.barrierStep n b = some (((s.dropBarrier n b).bump (K.heldRefusals n)).answerBarrier n b 10) := by
  simp only [State.barrierStep, hb, hf, Bool.false_eq_true, if_false]

variable (hf : (s.port n).fence = .normal)

include hf

/-- A PORT barrier of a Normal port is answered at once and stays until everything before it is complete (02 R35). -/
theorem State.barrierStep_port (hs : b.scope = .port) :
    s.barrierStep n b = some (((s.modPort n (fun p => { p with
      barriers := p.barriers.map (fun x => if x = b then { x with answered := true } else x) })).bump (K.barriersOk n)).answerBarrier n b 0) := by
  simp only [State.barrierStep, hb, hf, hs, Bool.false_eq_true, if_false]

/-- A PARTITION barrier of a Normal port is answered once everything before it is near (02 R34, R35). -/
theorem State.barrierStep_partition (hs : b.scope = .partition) :
    s.barrierStep n b = if (s.port n).nearBefore b.seq = true then
      some (((s.dropBarrier n b).bump (K.barriersOk n)).answerBarrier n b 0) else none := by
  simp only [State.barrierStep, hb, hf, hs, Bool.false_eq_true, if_false]

/-- A SYSTEM barrier of a Normal port is answered once everything before it is complete (02 R34, R35). -/
theorem State.barrierStep_system (hs : b.scope = .system) :
    s.barrierStep n b = if (s.port n).doneBefore b.seq = true then
      some (((s.dropBarrier n b).bump (K.barriersOk n)).answerBarrier n b 0) else none := by
  simp only [State.barrierStep, hb, hf, hs, Bool.false_eq_true, if_false]

end

/-! Admission (05 R141). -/

/-- A valid credit admits whatever the caps and the queues are (05 R141, R142). -/
theorem State.judge_credit {s : State} {h n line : Nat} {token : Option Nat} {c : Credit} (hc : s.validCredit h token n line = some c)
    (q : Nat) : s.judge h q n line token = .admitted (.credit c.credit) := by
  simp only [State.judge, hc]

/-- Without a credit the partition's cap, the line's queue and the entries are judged in that order (05 R141). -/
theorem State.judge_general {s : State} {h n line : Nat} {token : Option Nat} (hc : s.validCredit h token n line = none) (q : Nat) :
    s.judge h q n line token =
      if s.obj (K.sliceCap q) ≤ s.occupancy h q then .qos
      else if (s.blocked line = true ∨ 0 < s.lineQueue line) ∧ s.obj K.lineQueueDepth ≤ s.lineQueue line then .conflict
      else if s.entryFree h q = false then .resource
      else .admitted .general := by
  simp [State.judge, hc]

/-- Settles O49: the store by the entry it finds, the barrier by its fence and scope, admission by `judge_credit` and `judge_general`. -/
theorem storesBarriersAndAdmissionFollowTheirRules : Obligations.StoresBarriersAndAdmissionFollowTheirRules := by
  unfold Obligations.StoresBarriersAndAdmissionFollowTheirRules
  intro s n
  refine ⟨fun r line e hopen => ⟨_, State.acceptStore_merges hopen, by simp, by simp [SbEntry.merged]⟩, fun b hb => ?_,
    fun h q line token => ⟨fun c hc => State.judge_credit hc q, fun hc => ?_⟩⟩
  · refine ⟨fun hf hs near => ?_, fun hf hs far => ?_, fun hf hs done => ?_, fun hf hs undone => ?_, State.barrierStep_port hb,
      State.barrierStep_held hb⟩
    · exact (State.barrierStep_partition hb hf hs).trans (if_pos near)
    · exact (State.barrierStep_partition hb hf hs).trans (if_neg (by simp [far]))
    · exact (State.barrierStep_system hb hf hs).trans (if_pos done)
    · exact (State.barrierStep_system hb hf hs).trans (if_neg (by simp [undone]))
  · rw [State.judge_general hc]
    refine ⟨fun capped => if_pos capped, fun below => ?_⟩
    rw [if_neg (by omega)]
    have clear : ((s.blocked line = false ∧ s.lineQueue line = 0) ∨ s.lineQueue line < s.obj K.lineQueueDepth) →
        ¬((s.blocked line = true ∨ 0 < s.lineQueue line) ∧ s.obj K.lineQueueDepth ≤ s.lineQueue line) := by
      rintro (⟨unblocked, empty⟩ | room) ⟨busy, full⟩
      · simp [unblocked, empty] at busy
      · omega
    refine ⟨fun busy full => if_pos ⟨busy, full⟩, fun short noEntry => ?_, fun short entry => ?_⟩
    · rw [if_neg (clear short), if_pos noEntry]
    · rw [if_neg (clear short), if_neg (by simp [entry])]

end Sys2Proof.Machine

namespace Sys2Proof.Machine

/-! Answers of agents (04 R101, R112, R120, R121; 05 R136, R146). -/

theorem State.compAck_grant {s : State} {n tid : Nat} {t : Txn}
    (ht : s.txns.find? (fun t => t.phase == .granted && t.port == n && t.tid == tid && !t.ackIn) = some t) :
    s.compAck n tid = s.grantEnds t := by
  simp only [State.compAck, ht]

theorem State.compAck_none {s : State} {n tid : Nat}
    (ht : s.txns.find? (fun t => t.phase == .granted && t.port == n && t.tid == tid && !t.ackIn) = none) : s.compAck n tid = s := by
  simp only [State.compAck, ht]

/-- A snoop answer whose TID names no snoop that is out changes nothing (DESIGN CHOICE, assumption 7). -/
theorem State.snoopAnswer_none {s : State} {n tid : Nat} (hx : (s.port n).snoops.find? (fun x => x.tid == tid) = none)
    (result code : Nat) (data : Option Line) : s.snoopAnswer n tid result code data = s := by
  simp only [State.snoopAnswer, hx]

/-- SNOOP_DATA takes its place in the port's order; behind a PORT barrier it is held, otherwise it answers its snoop (02 R36; 04 R101). -/
theorem State.snoopDataIn_eq {s v : State} {n : Nat} (hv : v = s.modPort n (fun p => { p with seq := p.seq + 1 })) (tid code : Nat) (d : Line) :
    s.snoopDataIn n tid code d =
      if v.holdsData n (s.port n).seq ((v.port n).snoopLine tid) = true then
        v.modPort n (fun p => { p with held := p.held ++ [{ seq := (s.port n).seq, tid := tid, code := code, data := d }] })
      else v.snoopAnswer n tid 3 code (some d) := by
  subst hv
  rfl

/-- SNOOP_LIMIT fails the port of a snoop that is out and has no held answer (04 R112). -/
theorem State.snoopLate_eq (s : State) (n tid : Nat) :
    s.snoopLate n tid =
      if (s.port n).snoops.any (fun x => x.tid == tid) = true ∧ (s.port n).held.any (fun d => d.tid == tid) = false then s.portFails n
      else s := by
  simp only [State.snoopLate, Bool.and_eq_true, Bool.not_eq_true']

/-- Settles O47: the answers of agents reach the port by `recvAnswer_hears`; each then finds the grant or the snoop of its TID, or none. -/
theorem agentAnswersAct : Obligations.AgentAnswersAct := by
  unfold Obligations.AgentAnswersAct
  intro s n tid x rx syms u alive hears hu
  subst hu
  refine ⟨fun good => ?_, fun good => ?_, fun d v good hv => ?_, fun out unheld => ?_, fun answered => ?_, fun waits => ?_, fun ended => ?_⟩
  · have arrives := State.recvAnswer_hears alive hears good (fun s => s.compAck n tid.toNat)
    exact ⟨fun t ht => exec_eq_of_effect rfl (arrives.trans (State.compAck_grant ht)),
      fun ht => exec_eq_of_effect rfl (arrives.trans (State.compAck_none ht))⟩
  · have arrives := State.recvAnswer_hears alive hears good (fun s => s.snoopRespIn n tid.toNat x.toNat)
    exact ⟨exec_eq_of_effect rfl arrives, fun hx => exec_eq_of_effect rfl (arrives.trans (State.snoopAnswer_none hx _ _ _))⟩
  · have arrives := (State.recvAnswer_hears alive hears good (fun s => s.snoopDataIn n tid.toNat (x.toNat / 16 % 8) d)).trans
      (State.snoopDataIn_eq hv _ _ _)
    exact ⟨fun free => exec_eq_of_effect rfl (arrives.trans (if_neg (by simp [free]))),
      fun behind => exec_eq_of_effect rfl (arrives.trans (if_pos behind))⟩
  · exact exec_eq_of_effect rfl ((State.snoopLate_eq _ _ _).trans (if_pos ⟨out, unheld⟩))
  · refine exec_eq_of_effect rfl ((State.snoopLate_eq _ _ _).trans (if_neg ?_))
    rintro ⟨out, unheld⟩
    rcases answered with gone | held
    · exact absurd (out.symm.trans gone) (by decide)
    · exact absurd (unheld.symm.trans held) (by decide)
  · exact exec_eq_of_effect rfl (if_pos waits)
  · exact exec_eq_of_effect rfl (if_neg (ne_true_of_eq_false ended))

end Sys2Proof.Machine

namespace Sys2Proof.Machine

/-! A port's own engines (02 R31; 04 R125; 05 R144, R156; 10 R266). -/

section

variable {s : State} {n slot : Nat}

theorem State.ageDrain_open {e : SbEntry} (he : (s.port n).sb.find? (fun e => e.slot == slot && e.isOpen) = some e) :
    s.ageDrain n slot = (s.modPort n (fun p => { p with
      sb := p.sb.map (fun x => if x.id = e.id then { x with isOpen := false } else x) })).bump (K.sbAgeDrains n) := by
  simp only [State.ageDrain, he]

theorem State.ageDrain_none (he : (s.port n).sb.find? (fun e => e.slot == slot && e.isOpen) = none) : s.ageDrain n slot = s := by
  simp only [State.ageDrain, he]

/-- The drain of an entry becomes the owner of its line when it may (05 R144). -/
theorem State.drainVisible_drain {e : SbEntry} {t : Txn} (he : (s.port n).sb.find? (fun e => e.slot == slot) = some e)
    (ht : s.txns.find? (fun t => t.kind == .drain && t.port == n && t.aux == e.id) = some t) :
    s.drainVisible n slot = if s.canOwn t = true then s.startOwner t else s := by
  simp only [State.drainVisible, he, ht]

/-- An entry that is not there, or that is not being drained, changes nothing. -/
theorem State.drainVisible_none (h : ∀ e, (s.port n).sb.find? (fun e => e.slot == slot) = some e →
    s.txns.find? (fun t => t.kind == .drain && t.port == n && t.aux == e.id) = none) : s.drainVisible n slot = s := by
  cases he : (s.port n).sb.find? (fun e => e.slot == slot) with
  | none => simp only [State.drainVisible, he]
  | some e => simp only [State.drainVisible, he, h e he]

/-- The read of a walk that is not done, or of none, changes nothing. -/
theorem State.walkDone_waits (h : ∀ w t, (s.port n).walk = some w → w.txn.bind s.txn = some t → t.phase ≠ .done) : s.walkDone n = s := by
  cases hw : (s.port n).walk with
  | none => simp only [State.walkDone, hw]
  | some w =>
    cases ht : w.txn.bind s.txn with
    | none => simp only [State.walkDone, hw, ht]
    | some t => simp only [State.walkDone, hw, ht, h w t hw ht, ne_eq, not_false_eq_true, if_true]

/-- The entry that a walk has read is judged, a poisoned one is a fault (10 R266). -/
theorem State.walkDone_done {w : Walk} {t : Txn} (hw : (s.port n).walk = some w) (ht : w.txn.bind s.txn = some t) (hdone : t.phase = .done) :
    s.walkDone n =
      if t.poisoned = true then (s.endTxn t.id).translationFault n w.req 5
      else (s.endTxn t.id).walkJudge n w ((shiftOut t.data (w.addr % 64)).extractLsb' 0 32) := by
  simp only [State.walkDone, hw, ht, hdone, ne_eq, not_true_eq_false, if_false]

/-- A port that waits for its store buffer sleeps once that is empty (04 R125). -/
theorem State.sleeps_empty {tid : Nat} (ht : (s.port n).sleepTid = some tid) (he : (s.port n).sb = []) :
    s.sleeps n = ((s.modPort n (fun p => { p with sleepTid := none, reservation := none })).respond n
      { op := .sleepAck, tid := tid, epoch := (s.port n).epoch }).modPort n (fun p =>
        if p.mode = .run ∧ p.outstanding.isEmpty then { p with mode := .sleeping } else p) := by
  simp [State.sleeps, ht, he]

theorem State.sleeps_waits (h : (s.port n).sleepTid = none ∨ (s.port n).sb ≠ []) : s.sleeps n = s := by
  cases ht : (s.port n).sleepTid with
  | none => simp only [State.sleeps, ht]
  | some tid =>
    have he : (s.port n).sb ≠ [] := by simpa [ht] using h
    simp [State.sleeps, ht, he]

/-- The poison writes of a reclamation begin once the dead port's store buffer is empty (05 R156 step 4). -/
theorem State.reclaimDrained_eq (s : State) (n : Nat) :
    s.reclaimDrained n = if (s.port n).reclaim = .draining ∧ (s.port n).sb = [] then s.reclaimEntries n else s := by
  simp only [State.reclaimDrained, List.isEmpty_iff]

end

/-! Loans of Archive links (09 R255 to R257). -/

/-- The link of a port's loan does not depend on the levels of its pins. -/
theorem State.loanLink_modPort {s : State} {n : Nat} {f : PortSt → PortSt} (hf : (f (s.port n)).loanTarget = (s.port n).loanTarget) :
    (s.modPort n f).loanLink n = s.loanLink n := by
  have carrier : (s.modPort n f).carrier = s.carrier := rfl
  have target : ((s.modPort n f).port n).loanTarget = (s.port n).loanTarget := by simp [hf]
  unfold State.loanLink
  rw [carrier, target]

/-- APn_AREQ rises on a port whose ready wire is high (09 R255). -/
theorem State.areqRises_high {s u : State} {n : Nat} (hp : s.prdy n = true) (hu : u = s.modPort n (fun p => { p with areq := true })) :
    (∀ k, s.loanLink n = some k → s.areqRises n = u.loanGrant k) ∧ (s.loanLink n = none → s.areqRises n = u) := by
  have link : u.loanLink n = s.loanLink n := by rw [hu]; exact State.loanLink_modPort rfl
  subst hu
  rw [← link]
  refine ⟨fun k hk => ?_, fun hk => ?_⟩
  · simp only [State.areqRises, hp, Bool.not_true, Bool.false_eq_true, if_false, hk]
  · simp only [State.areqRises, hp, Bool.not_true, Bool.false_eq_true, if_false, hk]

theorem State.areqFalls_high {s : State} {n : Nat} (hp : s.prdy n = true) :
    s.areqFalls n = s.modPort n (fun p => { p with areq := false, loanFresh := p.loanFresh || !p.agnt }) := by
  simp only [State.areqFalls, hp, Bool.not_true, Bool.false_eq_true, if_false]

/-- APn_AREQ of a port whose ready wire is low is not heard (03 R69). -/
theorem State.areq_low {s : State} {n : Nat} (hp : s.prdy n = false) : s.areqRises n = s ∧ s.areqFalls n = s := by
  simp only [State.areqRises, State.areqFalls, hp, Bool.not_false, if_true, and_self]

section

variable {s : State} {k n : Nat} (ho : (s.ml k).owner = some n)

include ho

/-- A loan ends when APn_AREQ has fallen and its locked accesses are over (09 R256). -/
theorem State.loanReleased_owned :
    s.loanReleased k = if (s.port n).areq = true ∨ s.lockedOver k n = false then s
      else (s.modMl k (fun m => { m with tenant := n, ending := some 0 })).loanClose k := by
  simp only [State.loanReleased, ho, Bool.or_eq_true, Bool.not_eq_true']

/-- LOAN_LIMIT cuts the loan of a port whose APn_AREQ is still high (09 R257). -/
theorem State.loanExpires_owned : s.loanExpires k = if (s.port n).areq = true then s.loanCut k 1 else s := by
  simp only [State.loanExpires, ho]

end

theorem State.loan_unowned {s : State} {k : Nat} (ho : (s.ml k).owner = none) : s.loanReleased k = s ∧ s.loanExpires k = s := by
  simp only [State.loanReleased, State.loanExpires, ho, and_self]

/-- Settles O48: every clause is the row's own operation at `s.begin`, by the lemma for its case. -/
theorem portEventsAct : Obligations.PortEventsAct := by
  unfold Obligations.PortEventsAct
  intro s n
  refine ⟨?ageOpen, ?drain, ?ageNone, ?drainNone, ?walkWaits, ?walkDone, ?sleeps, ?awake, ?reclaimDrained, ?reclaimDrains, ?reclaimWaits,
    ?reclaimOver, ?areqHigh, ?areqLow, ?loan, ?noLoan⟩
  case ageOpen => exact fun i e he => exec_eq_of_effect rfl (State.ageDrain_open he)
  case ageNone => exact fun i he => exec_eq_of_effect rfl (State.ageDrain_none he)
  case drain =>
    intro i e t he ht
    have acts := State.drainVisible_drain (s := s.begin) he ht
    exact ⟨fun may => exec_eq_of_effect rfl (acts.trans (if_pos may)),
      fun mayNot => exec_eq_of_effect rfl (acts.trans (if_neg (ne_true_of_eq_false mayNot)))⟩
  case drainNone => exact fun i h => exec_eq_of_effect rfl (State.drainVisible_none h)
  case walkWaits => exact fun h => exec_eq_of_effect rfl (State.walkDone_waits h)
  case walkDone =>
    intro w t hw ht hdone
    have acts := State.walkDone_done (s := s.begin) hw ht hdone
    exact ⟨fun bad => exec_eq_of_effect rfl (acts.trans (if_pos bad)),
      fun sound => exec_eq_of_effect rfl (acts.trans (if_neg (ne_true_of_eq_false sound)))⟩
  case sleeps => exact fun tid ht he => ⟨_, rfl, exec_eq_of_effect rfl (State.sleeps_empty ht he)⟩
  case awake => exact fun h => exec_eq_of_effect rfl (State.sleeps_waits h)
  case reclaimDrained => exact fun hd he => exec_eq_of_effect rfl ((State.reclaimDrained_eq _ _).trans (if_pos ⟨hd, he⟩))
  case reclaimDrains =>
    exact fun h => exec_eq_of_effect rfl ((State.reclaimDrained_eq _ _).trans (if_neg (not_and_or.2 h)))
  case reclaimWaits =>
    intro h
    have notOver : ¬((s.port n).reclaim = .poisoning ∧ s.poisonsDone n = true) := by
      rwa [not_and_or, Bool.not_eq_true]
    exact exec_eq_of_effect rfl (if_neg notOver)
  case reclaimOver => exact fun hp hd => exec_eq_of_effect rfl (if_pos ⟨hp, hd⟩)
  case areqHigh =>
    intro hp
    obtain ⟨candidate, idle⟩ := State.areqRises_high (s := s.begin) hp rfl
    exact ⟨⟨_, rfl, fun k hk => exec_eq_of_effect rfl (candidate k hk), fun hk => exec_eq_of_effect rfl (idle hk)⟩,
      exec_eq_of_effect rfl (State.areqFalls_high hp)⟩
  case areqLow =>
    intro hp
    obtain ⟨rises, falls⟩ := State.areq_low (s := s.begin) hp
    exact ⟨exec_eq_of_effect rfl rises, exec_eq_of_effect rfl falls⟩
  case loan =>
    intro k ho
    have release := State.loanReleased_owned (s := s.begin) ho
    have limit := State.loanExpires_owned (s := s.begin) ho
    refine ⟨fun fallen done => ?_, fun left => ?_, fun high => ⟨?_, ?_⟩, fun fallen => ?_⟩
    · have ends : ¬((s.port n).areq = true ∨ s.lockedOver k n = false) := by simp [fallen, done]
      exact exec_eq_of_effect rfl (release.trans (if_neg ends))
    · exact exec_eq_of_effect rfl (release.trans (if_pos (.inr left)))
    · exact exec_eq_of_effect rfl (release.trans (if_pos (.inl high)))
    · exact exec_eq_of_effect rfl (limit.trans (if_pos high))
    · exact exec_eq_of_effect rfl (limit.trans (if_neg (ne_true_of_eq_false fallen)))
  case noLoan =>
    intro k ho
    obtain ⟨release, limit⟩ := State.loan_unowned (s := s.begin) ho
    exact ⟨exec_eq_of_effect rfl release, exec_eq_of_effect rfl limit⟩

end Sys2Proof.Machine

namespace Sys2Proof.Machine

/-! What a link's end makes of what arrives, by the phase of its bring-up (03 R78, R82, R83, R87, R88). -/

/-- The LINK_HELLO exchange has ended exactly in the two phases after it (03 R78; 04 R110). -/
theorem LinkEnd.ended_iff {e : LinkEnd} : e.ended = true ↔ e.phase = .up ∨ e.phase = .leaving := by
  simp [LinkEnd.ended]

section

variable {s : State} {l : LinkId}

/-- A link that is deaf takes no notice of an error. -/
theorem State.rxError_deaf (deaf : s.deafTo l) (which : Nat) : s.rxError l which = s := by
  rcases deaf with down | ⟨ended, sync⟩
  · simp only [State.rxError, down]
  · rcases LinkEnd.ended_iff.1 ended with up | leaving
    · simp [State.rxError, up, sync]
    · simp [State.rxError, leaving, sync]

/-- In bring-up an error is counted and fails the bring-up (03 R78). -/
theorem State.rxError_greeting (greets : s.greeting l) (which : Nat) : s.rxError l which = (s.countLink l which).bringupFails l := by
  rcases greets with hello | refused
  · simp only [State.rxError, hello]
  · simp only [State.rxError, refused]

variable {hello numbered : Bool} {rx : RxState} {syms : List Nat} {f : State → State}

/-- A link that is deaf hears no message. -/
theorem State.receive_deaf (deaf : s.deafTo l) : s.receive l hello numbered rx syms f = s := by
  rcases deaf with down | ⟨ended, sync⟩
  · simp only [State.receive, down]
  · rcases LinkEnd.ended_iff.1 ended with up | leaving
    · simp [State.receive, up, sync]
    · simp [State.receive, leaving, sync]

/-- A link that listens: a framing error is an error of the link, a message with a wrong CRC symbol is captured whole before its error, and
a good link-layer message is captured and acted on (03 R77, R82, R83). -/
theorem State.receive_listens (listens : s.listens l) :
    s.receive l hello numbered .framing syms f = s.rxError l 2 ∧
    s.receive l hello numbered .badCrc syms f = (s.capture l syms).rxError l 1 ∧
    s.receive l hello false .good syms f = f (s.capture l syms) := by
  obtain ⟨ended, sync⟩ := listens
  rcases LinkEnd.ended_iff.1 ended with up | leaving
  · simp [State.receive, up, sync]
  · simp [State.receive, leaving, sync]

/-- A link in bring-up: a broken message is an error of the link, and a good one that is no LINK_HELLO fails the bring-up (03 R78). -/
theorem State.receive_greeting (greets : s.greeting l) :
    s.receive l hello numbered .framing syms f = s.rxError l 2 ∧
    s.receive l hello numbered .badCrc syms f = s.rxError l 1 ∧
    s.receive l false numbered .good syms f = s.bringupFails l := by
  rcases greets with phase | phase
  · simp [State.receive, phase]
  · simp [State.receive, phase]

/-- A good numbered message at a port whose DESCRIBE was illegal is delivered and no more (04 R110; assumption 80). -/
theorem State.receive_leaving (leaving : (s.link l).phase = .leaving) (sync : (s.link l).rxResync = false) :
    s.receive l hello true .good syms f = (s.capture l syms).delivered l := by
  simp [State.receive, leaving, sync]

/-- Every command that is a message on a link: deaf, listening or in bring-up, all but a good one on a link that listens. -/
theorem exec_received {c : Instr} (hc : c.wellFormed = true) (arrives : s.begin.effect c = s.begin.receive l hello numbered rx syms f) :
    (s.deafTo l → exec c s = .next (s.after s.begin)) ∧
    (s.listens l →
      (rx = .framing → exec c s = .next (s.after (s.begin.rxError l 2))) ∧
      (rx = .badCrc → exec c s = .next (s.after ((s.begin.capture l syms).rxError l 1)))) ∧
    (s.greeting l →
      (rx = .framing → exec c s = .next (s.after ((s.begin.countLink l 2).bringupFails l))) ∧
      (rx = .badCrc → exec c s = .next (s.after ((s.begin.countLink l 1).bringupFails l))) ∧
      (rx = .good → hello = false → exec c s = .next (s.after (s.begin.bringupFails l)))) := by
  refine ⟨fun deaf => ?deaf, fun listens => ?listens, fun greets => ?greets⟩
  case deaf => exact exec_eq_of_effect hc (arrives.trans (State.receive_deaf (s := s.begin) deaf))
  case listens =>
    obtain ⟨broken, wrong, -⟩ :=
      State.receive_listens (s := s.begin) (hello := hello) (numbered := numbered) (syms := syms) (f := f) listens
    refine ⟨?_, ?_⟩
    · rintro rfl
      exact exec_eq_of_effect hc (arrives.trans broken)
    · rintro rfl
      exact exec_eq_of_effect hc (arrives.trans wrong)
  case greets =>
    obtain ⟨broken, wrong, early⟩ :=
      State.receive_greeting (s := s.begin) (hello := hello) (numbered := numbered) (syms := syms) (f := f) greets
    have error := State.rxError_greeting (s := s.begin) greets
    refine ⟨?_, ?_, ?_⟩
    · rintro rfl
      exact exec_eq_of_effect hc (arrives.trans (broken.trans (error 2)))
    · rintro rfl
      exact exec_eq_of_effect hc (arrives.trans (wrong.trans (error 1)))
    · rintro rfl rfl
      exact exec_eq_of_effect hc (arrives.trans early)

end

end Sys2Proof.Machine

namespace Sys2Proof.Machine

/-! Numbered messages as they arrive (04 R92 to R101; 09 R235 to R237; 15 R386), and their CRC-8 (03 R84). -/

/-- From state t, u is what the reception of m makes: m's link hears it or not, and something is done with it where it is good. -/
def State.Receives (t u : State) (m : Option (LinkId × RxState × List Nat)) : Prop :=
  ∀ l r syms, m = some (l, r, syms) → ∃ f, u = t.receive l false true r syms f

section

variable {t : State} {f : State → State} {rx : Rx} {n : Nat}

theorem State.receives_none (u : State) : t.Receives u none := fun _ _ _ h => nomatch h

theorem State.recv8_receives {l : LinkId} {body : List Byte} : t.Receives (t.recv8 l body rx f) (msg8 l body rx) := by
  intro l' r syms hm
  cases hm
  exact ⟨f, rfl⟩

theorem State.recv32_receives {k : Link} {body : List Word} : t.Receives (t.recv32 (.arch k) body rx f) (msg32 k body rx) := by
  intro l' r syms hm
  cases hm
  exact ⟨f, rfl⟩

theorem State.recvTagged_receives {op : Byte} {h : Hdr} {fields : List Byte} {legal : Bool} {resp : DownOp} {kind : Kind} :
    t.Receives (t.recvTagged n op h fields rx legal resp kind f) (msg8 (portLink n) (taggedHeader op h ++ fields) rx) :=
  State.recv8_receives

theorem State.recvUntagged_receives {op : Byte} {h : Hdr} {fields : List Byte} {legal : Bool} {resp : DownOp} {kind : Kind} :
    t.Receives (t.recvUntagged n op h fields rx legal resp kind f) (msg8 (portLink n) (untaggedHeader op h ++ fields) rx) :=
  State.recv8_receives

theorem State.recvAnswer_receives {op : Byte} {tid : Tid} {x : Byte} {fields : List Byte} :
    t.Receives (t.recvAnswer n op tid x fields rx f) (msg8 (portLink n) (plainHeader op tid x ++ fields) rx) :=
  State.recv8_receives

theorem State.recvPair_receives {m : PairMsg} {tid : Tid} : t.Receives (t.recvPair m tid rx f) (msg8 .pair (m.symbols tid) rx) :=
  State.recv8_receives

end

/-- Every numbered message, of an agent, a controller or the partner, arrives by the one reception of its link. -/
theorem State.effect_receives (s : State) (c : Instr) : s.begin.Receives (s.begin.effect c) (s.message c) := by
  cases c
  case describe | readShared | readOwn | upgrade | readUnc | putPartial | putLine | zeroLine | writeback | evictOffer | barrierPort
    | barrierPartition | barrierSystem | loanTarget | waitEvent | sleepReq => exact State.recvTagged_receives
  case loadReserve | storeCond => exact State.recvUntagged_receives
  case homeMapAck | compAck | snoopResp | snoopData => exact State.recvAnswer_receives
  case rdResp | wrAck | mlDescribe | siRead | siReadInval | siWrite => exact State.recv32_receives
  case pairHello | rangeGive | rangeTaken | returnReq | surprise => exact State.recvPair_receives
  all_goals exact State.receives_none _

/-- A numbered message is a command whatever its fields. -/
theorem wellFormed_of_message {s : State} {c : Instr} {m : LinkId × RxState × List Nat} (hm : s.message c = some m) :
    c.wellFormed = true := by
  cases c
  case telemetryUpdate => cases hm
  all_goals rfl

/-! The CRC-8. -/

/-- One bit of the shift register: every bit moves up by one, and the polynomial is added where bit 7 falls out (03 R84). -/
theorem crc8Bit_getLsbD (c : Byte) {i : Nat} (hi : i < 8) :
    (crc8Bit c).getLsbD i = ((!decide (i < 1) && c.getLsbD (i - 1)) ^^ (c.getLsbD 7 && (0x07#8).getLsbD i)) := by
  unfold crc8Bit
  split
  · next top => simp only [BitVec.getLsbD_xor, BitVec.getLsbD_shiftLeft, top, hi, decide_true, Bool.true_and]
  · next top => simp only [BitVec.getLsbD_shiftLeft, top, hi, decide_true, Bool.true_and, Bool.false_and, Bool.xor_false]

/-- The shift register loses nothing: bit 0 shows the bit that fell out, and so the polynomial and every other bit. -/
theorem crc8Bit_injective : Function.Injective crc8Bit := by
  intro c d same
  have shifted {i : Nat} (hi : i < 8) := (crc8Bit_getLsbD c hi).symm.trans ((congrArg (·.getLsbD i) same).trans (crc8Bit_getLsbD d hi))
  have top : c.getLsbD 7 = d.getLsbD 7 := by simpa using shifted (i := 0) (by omega)
  refine BitVec.eq_of_getLsbD_eq fun i hi => ?_
  rcases Nat.lt_succ_iff_lt_or_eq.1 hi with below | rfl
  · have moved := shifted (i := i + 1) (by omega)
    rw [top, Bool.xor_left_inj] at moved
    simpa using moved
  · exact top

/-- A symbol through the CRC-8 is a permutation of its states. -/
theorem crc8Step_injective (b : Byte) : Function.Injective (crc8Step · b) := by
  intro c d same
  have before := Function.Injective.iterate crc8Bit_injective 8 same
  exact (BitVec.xor_left_inj b).1 before

theorem crc8Step_symbol_injective (c : Byte) : Function.Injective (crc8Step c) := by
  intro a b same
  have before := Function.Injective.iterate crc8Bit_injective 8 same
  exact (BitVec.xor_right_inj c).1 before

/-- What differs before some symbols differs after them. -/
theorem foldl_crc8Step_injective (ys : List Byte) : Function.Injective (ys.foldl crc8Step ·) := by
  induction ys with
  | nil => exact Function.injective_id
  | cons y ys ih => exact ih.comp (crc8Step_injective y)

/-- One symbol changed changes the CRC-8 (03 R84). -/
theorem crc8_changed (xs ys : List Byte) {a b : Byte} (changed : a ≠ b) : crc8 (xs ++ a :: ys) ≠ crc8 (xs ++ b :: ys) := by
  simp only [crc8, List.foldl_append, List.foldl_cons]
  intro same
  exact changed (crc8Step_symbol_injective _ (foldl_crc8Step_injective ys same))

/-- A message is good exactly when its CRC symbol is the CRC-8 of its body. -/
theorem rx8_crc (body : List Byte) (c : Byte) :
    rx8 body (.crc (BitVec.setWidth 32 c)) = if c = crc8 body then .good else .badCrc := by
  have wide : BitVec.setWidth 32 c = BitVec.setWidth 32 (crc8 body) ↔ c = crc8 body := by bv_omega
  simp only [rx8, wide]

/-- Settles O37: a numbered message arrives by its link's one reception, and the CRC-8 is injective in each symbol. -/
theorem messagesAreHeardOnlyWhole : Obligations.MessagesAreHeardOnlyWhole := by
  unfold Obligations.MessagesAreHeardOnlyWhole
  refine ⟨fun s c l r syms hm => ?message, fun body c => ?good, fun xs ys a b changed => ?changed⟩
  case message =>
    have hc := wellFormed_of_message hm
    obtain ⟨f, arrives⟩ := State.effect_receives s c l r syms hm
    obtain ⟨deaf, listening, greeting⟩ := exec_received hc arrives
    refine ⟨deaf, fun listens => ?_, fun greets => ?_⟩
    · obtain ⟨broken, wrong⟩ := listening listens
      refine ⟨broken, wrong, ?_⟩
      rintro rfl leaving
      exact exec_eq_of_effect hc (arrives.trans (State.receive_leaving (s := s.begin) leaving listens.2))
    · obtain ⟨broken, wrong, early⟩ := greeting greets
      exact ⟨broken, wrong, fun good => early good rfl⟩
  case good => simp [rx8_crc]
  case changed => rw [rx8_crc, if_neg (crc8_changed xs ys changed)]

end Sys2Proof.Machine

namespace Sys2Proof.Machine

/-! The link's end after launching, capturing and counting (03 R57, R58, R77, R81). -/

section

variable (s : State) (l : LinkId)

@[simp] theorem State.link_capture (syms : List Nat) : (s.capture l syms).link l = { s.link l with
    railsIn := railsAfter (groupsOf l) (s.link l).railsIn syms, ackOut := ackAfter (s.link l).ackOut syms.length } := by
  simp [State.capture]

@[simp] theorem State.capture_deviceTime (syms : List Nat) : (s.capture l syms).deviceTime = s.deviceTime := by
  simp [State.capture]

@[simp] theorem State.free_link (j : LinkId) : s.free.1.link j = s.link j := rfl

@[simp] theorem State.link_captureSome : (s.captureSome l).link l = { s.link l with
    railsIn := BitVec.ofNat 64 (s.free.2 / 2 % 2 ^ (4 * groupsOf l)), ackOut := ackAfter (s.link l).ackOut s.free.2 } := by
  simp [State.captureSome]

@[simp] theorem State.captureSome_deviceTime : (s.captureSome l).deviceTime = s.deviceTime := by
  simp [State.captureSome, State.free]

@[simp] theorem State.captureSome_sent : (s.captureSome l).sent = s.sent := by
  simp [State.captureSome, State.free]

/-- Counting on a link changes one object at most. -/
theorem State.countLink_eq (which : Nat) : ∃ k v, s.countLink l which = s ∨ s.countLink l which = s.setObj k v := by
  unfold State.countLink
  split
  · next k _ => exact ⟨k, _, .inr rfl⟩
  · exact ⟨0, 0, .inl rfl⟩

@[simp] theorem State.countLink_link (which : Nat) (j : LinkId) : (s.countLink l which).link j = s.link j := by
  obtain ⟨k, v, h | h⟩ := s.countLink_eq l which <;> simp [h]

@[simp] theorem State.countLink_deviceTime (which : Nat) : (s.countLink l which).deviceTime = s.deviceTime := by
  obtain ⟨k, v, h | h⟩ := s.countLink_eq l which <;> simp [h]

@[simp] theorem State.countLink_sent (which : Nat) : (s.countLink l which).sent = s.sent := by
  obtain ⟨k, v, h | h⟩ := s.countLink_eq l which <;> simp [h]

@[simp] theorem State.link_launch (syms : List Nat) : (s.launch l syms).link l = { s.link l with
    railsOut := railsAfter (groupsOf l) (s.link l).railsOut syms
    ackIn := ackAfter (s.link l).ackIn ((s.link l).unacked + syms.length - min ((s.link l).window l) ((s.link l).unacked + syms.length))
    unacked := min ((s.link l).window l) ((s.link l).unacked + syms.length) } := by
  simp [State.launch]

@[simp] theorem State.link_sendLink (m : LinkMsg) : (s.sendLink l m).link l = (s.launch l (linkWire l m)).link l := by
  simp [State.sendLink]

@[simp] theorem State.sendLink_sent (m : LinkMsg) : (s.sendLink l m).sent = s.sent ++ [.link l m] := by
  simp [State.sendLink, State.launch, State.emit]

@[simp] theorem State.begin_sent : s.begin.sent = [] := rfl

end

/-! Errors on a link that listens (03 R81, R87 to R89). -/

section

variable {s : State} {l : LinkId} (listens : s.listens l)

include listens

/-- An error while this end waits for LINK_READY itself: no LINK_RESYNC (03 R88). -/
theorem State.rxError_waiting (waits : (s.link l).txResync ≠ none) :
    s.rxError l 0 = ((s.captureSome l).countLink l 0).modLink l (fun e => { e with rxResync := true }) := by
  obtain ⟨ended, sync⟩ := listens
  have hwaits := Option.isSome_iff_ne_none.2 waits
  rcases LinkEnd.ended_iff.1 ended with up | leaving
  · simp [State.rxError, up, sync, hwaits]
  · simp [State.rxError, leaving, sync, hwaits]

/-- An error otherwise: LINK_RESYNC goes out, or the link fails at the sixteenth (03 R88, R89). -/
theorem State.rxError_resyncs (sends : (s.link l).txResync = none) {times : List Nat}
    (htimes : times = recentTimes s.deviceTime (s.link l).resyncsIn) {u : State}
    (hu : u = ((((s.captureSome l).countLink l 0).countLink l 3).modLink l
      (fun e => { e with rxResync := true, resyncsIn := times })).sendLink l (.resync (s.link l).rxNext)) :
    s.rxError l 0 = if 16 ≤ times.length then u.linkFails l else u := by
  subst htimes hu
  obtain ⟨ended, sync⟩ := listens
  rcases LinkEnd.ended_iff.1 ended with up | leaving
  · simp [State.rxError, up, sync, sends]
  · simp [State.rxError, leaving, sync, sends]

end

/-- Settles O38: both rows are one error of the receiving direction, told apart by the phase of the link and by what its sender
waits for. -/
theorem linkErrorsResynchronise : Obligations.LinkErrorsResynchronise := by
  unfold Obligations.LinkErrorsResynchronise
  intro s l c hc
  have error {t : State} (ht : s.begin.rxError l 0 = t) : exec c s = .next (s.after t) := by
    rcases hc with rfl | rfl
    · exact exec_eq_of_effect rfl ht
    · exact exec_eq_of_effect rfl ht
  refine ⟨fun deaf => ?deaf, fun greets => ?greets, fun listens waits => ?waits, fun listens sends times htimes => ?sends⟩
  case deaf => exact error (State.rxError_deaf (s := s.begin) deaf 0)
  case greets => exact error (State.rxError_greeting (s := s.begin) greets 0)
  case waits => exact error (State.rxError_waiting (s := s.begin) listens waits)
  case sends =>
    have resyncs := fun u => State.rxError_resyncs (s := s.begin) (u := u) listens sends htimes
    refine ⟨_, rfl, fun few => ⟨?launched, ?ignores, ?stays, ?sent⟩, fun many => ?fails⟩
    case launched => exact error ((resyncs _ rfl).trans (if_neg (Nat.not_le.2 few)))
    case fails => exact error ((resyncs _ rfl).trans (if_pos many))
    all_goals simp

end Sys2Proof.Machine

namespace Sys2Proof.Machine

/-! Link-layer messages (03 R77 to R79, R85, R88, R89). -/

/-- A link-layer message arrives by its link's reception, on links of either symbol width; opcode 0xFB is LINK_HELLO. -/
theorem State.recvLink_arrives {t : State} {l l' : LinkId} {op arg version flags : Byte} {rx : Rx} {hello hello' : Bool} {r : RxState}
    {syms : List Nat} (hm : some (l, hello, linkMessage.linkShape l op arg version flags rx) = some (l', hello', r, syms))
    (hop : (op == 0xFB) = hello) (f : State → State) :
    t.recvLink l op arg version flags rx f = t.receive l' hello' false r syms f := by
  subst hop
  simp only [Option.some.injEq, Prod.mk.injEq] at hm
  obtain ⟨rfl, rfl, shape⟩ := hm
  unfold linkMessage.linkShape at shape
  unfold State.recvLink
  split
  · next wide =>
    rw [if_pos wide] at shape
    cases shape
    rfl
  · next narrow =>
    rw [if_neg narrow] at shape
    cases shape
    rfl

/-- Every link-layer message is a command whatever its fields, and arrives by its link's reception. -/
theorem effect_linkMessage {s : State} {c : Instr} {l : LinkId} {hello : Bool} {r : RxState} {syms : List Nat}
    (hm : linkMessage c = some (l, hello, r, syms)) :
    c.wellFormed = true ∧ ∃ f, s.begin.effect c = s.begin.receive l hello false r syms f := by
  cases c
  case linkAck | linkResync | linkReady | linkHello => exact ⟨rfl, _, State.recvLink_arrives hm rfl _⟩
  all_goals nomatch hm

/-- A good link-layer message on a link that listens is captured and acted on. -/
theorem State.recvLink_good {s : State} {l : LinkId} {op arg version flags : Byte} {rx : Rx} {hello : Bool} {syms : List Nat}
    (listens : s.listens l)
    (good : some (l, hello, linkMessage.linkShape l op arg version flags rx) = some (l, hello, .good, syms)) (hop : (op == 0xFB) = hello)
    (f : State → State) :
    s.begin.recvLink l op arg version flags rx f = f (s.begin.capture l syms) := by
  obtain ⟨-, -, acts⟩ := State.receive_listens (s := s.begin) (hello := hello) (numbered := false) (syms := syms) (f := f) listens
  exact (State.recvLink_arrives good hop f).trans acts

section

variable {s : State} {l : LinkId}

/-- LINK_ACK k, by the number of messages that it leaves unacknowledged (03 R85, R89). -/
theorem State.ackArrives_eq {k left : Nat} (hleft : left = ((s.link l).txNext + 2 * numberMod l - 1 - k % numberMod l) % numberMod l) :
    s.ackArrives l k =
      if left ≤ (s.link l).replay.length then
        (s.modLink l (fun e => { e with replay := e.replay.drop (e.replay.length - left) })).pumpTx l
      else if left ≤ replayDepth l ∧ left ≤ (s.link l).txSent then s else s.linkFails l := by
  subst hleft
  simp [State.ackArrives]

/-- LINK_RESYNC k (03 R88, R89). -/
theorem State.resyncArrives_eq {k : Nat} {times : List Nat} (htimes : times = recentTimes s.deviceTime (s.link l).resyncsOut) {u : State}
    (hu : u = (s.countLink l 4).modLink l (fun e => { e with resyncsOut := times })) :
    s.resyncArrives l k =
      if 16 ≤ times.length ∨ (s.link l).replay.length < ((s.link l).txNext + numberMod l - k % numberMod l) % numberMod l then
        u.linkFails l
      else u.modLink l (fun e => { e with txResync := some (k % numberMod l) }) := by
  subst htimes hu
  simp [State.resyncArrives]

/-- LINK_READY that nothing waits for. -/
theorem State.readyArrives_idle (idle : (s.link l).txResync = none) (ack : Bool) : s.readyArrives l ack = s := by
  simp only [State.readyArrives, idle]

/-- LINK_READY after LINK_RESYNC j: LINK_ACK, then the messages from j on again (03 R88). -/
theorem State.readyArrives_waited {ack : Bool} {j : Nat} (waited : (s.link l).txResync = some j) {u : State}
    (hu : u = (s.modLink l (fun e => { e with ackIn := ack, unacked := 0, txResync := none })).sendAck l) :
    s.readyArrives l ack = (u.relaunch l j ((s.link l).replay.drop ((s.link l).replay.length -
      ((s.link l).txNext + numberMod l - j) % numberMod l))).pumpTx l := by
  subst hu
  simp [State.readyArrives, waited, State.sendAck]

/-- LINK_HELLO after the exchange has ended (03 R79). -/
theorem State.helloArrives_ended (ended : (s.link l).ended = true) (version flags : Nat) :
    s.helloArrives l version flags = s.linkFails l := by
  simp [State.helloArrives, ended]

end

/-- Settles O39: a link-layer message arrives by its link's one reception, and each good one acts on the link's end as captured. -/
theorem linkMessagesAct : Obligations.LinkMessagesAct := by
  unfold Obligations.LinkMessagesAct
  intro s l k rx syms
  refine ⟨fun c hello r hm => ?received, fun listens => ⟨fun hm m left hm' hleft => ?ack, fun hm m times u hm' htimes hu => ?resync,
    fun ack hm => ?ready, fun v f hm => ?hello⟩⟩
  case received =>
    obtain ⟨hc, f, arrives⟩ := effect_linkMessage (s := s) hm
    exact exec_received hc arrives
  case ack =>
    subst hm'
    have acts := (State.recvLink_good listens hm rfl (fun t => t.ackArrives l k.toNat)).trans
      (State.ackArrives_eq (s := s.begin.capture l syms) (l := l) (k := k.toNat) (left := left) (by simpa using hleft))
    simp only [State.link_capture, State.begin_link] at acts
    refine ⟨fun kept => ?_, fun freed small sent => ?_, fun freed big => ?_⟩
    · exact exec_eq_of_effect rfl (acts.trans (if_pos kept))
    · exact exec_eq_of_effect rfl (acts.trans ((if_neg (Nat.not_le.2 freed)).trans (if_pos ⟨small, sent⟩)))
    · exact exec_eq_of_effect rfl (acts.trans ((if_neg (Nat.not_le.2 freed)).trans (if_neg (by omega))))
  case resync =>
    subst hm'
    have acts := (State.recvLink_good listens hm rfl (fun t => t.resyncArrives l k.toNat)).trans
      (State.resyncArrives_eq (s := s.begin.capture l syms) (k := k.toNat) (times := times) (by simpa using htimes) hu)
    simp only [State.link_capture, State.begin_link] at acts
    refine ⟨fun few there => ?_, fun gone => ?_⟩
    · exact exec_eq_of_effect rfl (acts.trans (if_neg (by omega)))
    · exact exec_eq_of_effect rfl (acts.trans (if_pos gone))
  case ready =>
    have acts := State.recvLink_good listens hm rfl (fun t => t.readyArrives l ack)
    refine ⟨fun idle => ?_, fun j u waited hu => ?_⟩
    · exact exec_eq_of_effect rfl (acts.trans (State.readyArrives_idle (by simpa using idle) ack))
    · have again := State.readyArrives_waited (s := s.begin.capture l syms) (by simpa using waited) hu
      simp only [State.link_capture, State.begin_link] at again
      exact exec_eq_of_effect rfl (acts.trans again)
  case hello =>
    have ended := listens.1
    exact exec_eq_of_effect rfl ((State.recvLink_good listens hm rfl _).trans
      (State.helloArrives_ended (by simpa [LinkEnd.ended] using ended) v.toNat f.toNat))

end Sys2Proof.Machine

namespace Sys2Proof.Machine

/-! A port's ready wires and bring-up (03 R67, R74 to R76; 04 R110, R127, R128). -/

/-- The link of a port is named by the port itself. -/
theorem portLink_eq (n : Port) : portLink n = .port n := by
  simp [portLink]

section

variable {s : State} {n : Port}

/-- APn_PRDY rises, and a wire still high is counted, where everything lets it rise (03 R75). -/
theorem State.prdy_mayRise (may : s.portMayRise n = true) :
    s.prdyRises n = (s.modLink (portLink n) (fun e =>
      { e with phase := .hello, near := s.obj (K.reach n) % 2 == 1 })).modPort n (fun p => { p with mode := .bringup, alive := true }) ∧
    s.upwiresHigh n = s.bump (K.upwireWaits n) := by
  refine ⟨?_, if_pos may⟩
  have reach : s.ownReach (portLink n) = (s.obj (K.reach n) % 2 == 1) := by rw [portLink_eq]; rfl
  unfold State.prdyRises
  rw [if_pos may, reach]
  rfl

theorem State.prdy_mayNotRise (mayNot : s.portMayRise n = false) : s.prdyRises n = s ∧ s.upwiresHigh n = s :=
  ⟨if_neg (ne_true_of_eq_false mayNot), if_neg (ne_true_of_eq_false mayNot)⟩

/-- HOME_MAP not acknowledged in time: the port fails, and ORPHAN_LOST counts where buckets are being taken (04 R127; 15 R389). -/
theorem State.mapLate_told {m : MapOut} (told : (s.port n).map = some m) :
    s.mapLate n = (if m.why = .take ∨ (s.port n).mapNext = some .take
      then s.free.1.addObj K.orphanLost (s.free.2 % 0x100000000) else s).portFails n := by
  simp only [State.mapLate, told]

theorem State.mapLate_none (none : (s.port n).map = none) : s.mapLate n = s := by
  simp only [State.mapLate, none]

end

/-- Settles O41: each row is its own operation at `s.begin`, by its condition. -/
theorem portWiresAct : Obligations.PortWiresAct := by
  unfold Obligations.PortWiresAct
  intro s n
  refine ⟨fun may => ?rises, fun mayNot => ?stays, ?falls, fun on => ?glitch, fun off => ?noGlitch, fun up awaits => ?late,
    fun other => ?inTime, fun m told => ?mapLate, fun untold => ?noMap⟩
  case rises =>
    obtain ⟨rises, waits⟩ := State.prdy_mayRise (s := s.begin) may
    exact ⟨exec_eq_of_effect rfl rises, exec_eq_of_effect rfl waits⟩
  case stays =>
    obtain ⟨rises, waits⟩ := State.prdy_mayNotRise (s := s.begin) mayNot
    exact ⟨exec_eq_of_effect rfl rises, exec_eq_of_effect rfl waits⟩
  case falls => exact ⟨s.begin.aaliveFalls n, exec_eq_of_effect rfl rfl, by simp [State.aaliveFalls], by simp [State.aaliveFalls], rfl⟩
  case glitch => exact exec_eq_of_effect rfl (if_pos on)
  case noGlitch => exact exec_eq_of_effect rfl (if_neg (ne_true_of_eq_false off))
  case late => exact exec_eq_of_effect rfl (if_pos ⟨up, awaits⟩)
  case inTime =>
    have notLate : ¬((s.link (portLink n)).phase = .up ∧ (s.port n).mode = .awaitDescribe) := fun late =>
      other.elim (· late.2) (· late.1)
    exact exec_eq_of_effect rfl (if_neg notLate)
  case mapLate =>
    have fails := State.mapLate_told (s := s.begin) told
    rw [State.begin_port] at fails
    refine ⟨fun other next => ?_, fun taking => ⟨s.begin.free.2 % 0x100000000, ?_⟩⟩
    · rw [if_neg (not_or.2 ⟨other, next⟩)] at fails
      exact exec_eq_of_effect rfl fails
    · rw [if_pos taking] at fails
      exact exec_eq_of_effect rfl fails
  case noMap => exact exec_eq_of_effect rfl (State.mapLate_none (s := s.begin) untold)

end Sys2Proof.Machine

namespace Sys2Proof.Machine

/-! The wires of the pair link (03 R91; 15 R392, R396). -/

section

variable {s : State}

@[simp] theorem State.begin_ready (l : LinkId) : s.begin.ready l = s.ready l := rfl

/-- PL_RDYO rises where it may, unless a restart is waited for or a refusal bars it (03 R79, R91; 15 R396). -/
theorem State.plRises_eq : s.plRises =
    if s.plMayRise = true ∧ (s.link .pair).backoff = false ∧ (s.link .pair).barred = false then s.plRise.helloEnds .pair else s := by
  simp [State.plRises, and_assoc]

/-- PL_RDYI rises: in bring-up LINK_HELLO goes out, once (03 R91). -/
theorem State.plRdyiRises_eq {u : State} (hu : u = { s with pair := { s.pair with rdyi := true } }) :
    s.plRdyiRises = if ((s.link .pair).phase = .hello ∨ (s.link .pair).phase = .refused) ∧ (s.link .pair).helloSent = false then
      (u.sendHello .pair).helloEnds .pair else u := by
  have same : u.link .pair = s.link .pair := by subst hu; rfl
  simp only [State.plRdyiRises, ← hu, same, Bool.and_eq_true, Bool.or_eq_true, beq_iff_eq, Bool.not_eq_true']

/-- PL_RDYI falls: PL_RDYO follows it where it is high, and a partner that was known is no longer (15 R392). -/
theorem State.plRdyiFalls_eq {u : State} (hu : u = { s with pair := { s.pair with rdyi := false } }) :
    s.plRdyiFalls = (if s.ready .pair = true then
      (if s.pair.state = 2 ∨ s.pair.state = 5 ∨ s.pair.state = 4 then u.pairLower.pairTo 1 else u.pairLower)
      else u).modLink .pair (fun e => { e with barred := false }) := by
  subst hu
  rfl

/-- The restart after a failure of the pair link: PL_RDYO may rise again, and does unless a refusal bars it (15 R392). -/
theorem State.plRestarts_waited (waited : (s.link .pair).backoff = true) {u : State}
    (hu : u = s.modLink .pair (fun e => { e with backoff := false })) :
    s.plRestarts = if u.plMayRise = true ∧ (s.link .pair).barred = false then u.plRise else u := by
  have same : (u.link .pair).barred = (s.link .pair).barred := by simp [hu]
  simp only [State.plRestarts, waited, ← hu, same, if_true, Bool.and_eq_true, Bool.not_eq_true']

end

/-- Settles O56: each row is its own operation at `s.begin`, by its condition. -/
theorem pairWiresAct : Obligations.PairWiresAct := by
  unfold Obligations.PairWiresAct
  intro s
  have raise := State.plRises_eq (s := s.begin)
  refine ⟨fun may retry free => ?rises, fun mayNot => ?stays, fun u hu => ?rdyiRises, fun u hu => ?rdyiFalls, fun low => ?lost,
    fun high => ?kept, fun waited u hu => ?restarts, fun idle => ?noRestart⟩
  case rises => exact exec_eq_of_effect rfl (raise.trans (if_pos ⟨may, retry, free⟩))
  case stays =>
    have barred : ¬(s.plMayRise = true ∧ (s.link .pair).backoff = false ∧ (s.link .pair).barred = false) := by
      rintro ⟨may, retry, free⟩
      simp [may, retry, free] at mayNot
    exact exec_eq_of_effect rfl (raise.trans (if_neg barred))
  case rdyiRises =>
    have acts := State.plRdyiRises_eq (s := s.begin) hu
    refine ⟨fun greets unsent => ?_, fun other => ?_⟩
    · exact exec_eq_of_effect rfl (acts.trans (if_pos ⟨greets, unsent⟩))
    · have past : ¬(((s.link .pair).phase = .hello ∨ (s.link .pair).phase = .refused) ∧ (s.link .pair).helloSent = false) := by
        rintro ⟨greets, unsent⟩
        rcases other with ⟨notHello, notRefused⟩ | sent
        · exact greets.elim notHello notRefused
        · simp [sent] at unsent
      exact exec_eq_of_effect rfl (acts.trans (if_neg past))
  case rdyiFalls =>
    have acts := State.plRdyiFalls_eq (s := s.begin) hu
    rw [State.begin_ready, State.begin_pair] at acts
    refine ⟨fun down => ?_, fun up known => ?_, fun up not2 not4 not5 => ?_⟩
    · rw [if_neg (ne_true_of_eq_false down)] at acts
      exact exec_eq_of_effect rfl acts
    · rw [if_pos up, if_pos (by tauto)] at acts
      exact exec_eq_of_effect rfl acts
    · rw [if_pos up, if_neg (by tauto)] at acts
      exact exec_eq_of_effect rfl acts
  case lost => exact exec_eq_of_effect rfl (if_neg (ne_true_of_eq_false low))
  case kept => exact exec_eq_of_effect rfl (if_pos high)
  case restarts =>
    have acts := State.plRestarts_waited (s := s.begin) waited hu
    refine ⟨fun may free => ?_, fun mayNot => ?_⟩
    · exact exec_eq_of_effect rfl (acts.trans (if_pos ⟨may, free⟩))
    · have barred : ¬(u.plMayRise = true ∧ (s.link .pair).barred = false) := by
        rintro ⟨may, free⟩
        simp [may, free] at mayNot
      exact exec_eq_of_effect rfl (acts.trans (if_neg barred))
  case noRestart => exact exec_eq_of_effect rfl (if_neg (ne_true_of_eq_false idle))

end Sys2Proof.Machine

namespace Sys2Proof.Machine

/-! The checks of a request as it arrives (04 R93, R95, R99, R103, R105, R111; 10 R274). -/

section

variable {s : State} {n tid : Nat} {tagged legal : Bool} {kind : Kind} (alive : s.dead = false)

include alive

/-- A TID that is outstanding is a DECODE_ERROR, whatever the request (04 R105; assumption 46). -/
theorem State.arrive_dup (dup : ((s.stirs n).port n).hasTid tid = true) (op : DownOp) (f : State → State) :
    s.arrive n tid tagged legal op kind f = (s.stirs n).decodeError n tid op kind true := by
  simp only [State.arrive, alive, dup, Bool.false_eq_true, if_false, if_true]

variable (free : ((s.stirs n).port n).hasTid tid = false)

include free

/-- A form that is not legal, one request too many, or a request before Run that is neither DESCRIBE nor BARRIER (04 R105, R111). -/
theorem State.arrive_improper
    (improper : legal = false ∨
      (((s.stirs n).port n).mode = .run ∧ tagged = true ∧ ((s.stirs n).port n).maxTagged ≤ ((s.stirs n).port n).tagged) ∨
      (((s.stirs n).port n).mode ≠ .run ∧ kind ≠ .describe ∧ kind ≠ .barrier)) (op : DownOp) (f : State → State) :
    s.arrive n tid tagged legal op kind f = (s.stirs n).decodeError n tid op kind false := by
  rcases improper with illegal | ⟨run, isTagged, full⟩ | ⟨early, notDescribe, notBarrier⟩
  · simp [State.arrive, alive, free, illegal]
  · simp [State.arrive, alive, free, run, isTagged, full]
  · simp [State.arrive, alive, free, early, notDescribe, notBarrier]

variable (hlegal : legal = true)

include hlegal

/-- A request that the port takes during a partition reset becomes outstanding and waits for its end, a BARRIER with the barriers (10 R274;
assumption 39). -/
theorem State.arrive_held (takes : ((s.stirs n).port n).takes tid tagged) (held : ((s.stirs n).port n).resetHold = true)
    (notEvict : kind ≠ .evict) (op : DownOp) (f : State → State) :
    s.arrive n tid tagged legal op kind f = ((s.stirs n).takeIn n tid).modPort n (fun p =>
      if kind = .barrier then { p with resetBars := p.resetBars ++ [tid] } else { p with resetReqs := p.resetReqs ++ [(tid, op)] }) := by
  obtain ⟨run, -, room⟩ := takes
  have notFull : ¬(tagged = true ∧ ((s.stirs n).port n).maxTagged ≤ ((s.stirs n).port n).tagged) := fun h => by
    have := room h.1
    omega
  simp [State.arrive, alive, free, hlegal, run, notFull, held, notEvict]

/-- DESCRIBE passes before Run too (04 R105, R110). -/
theorem State.arrive_describe (room : ((s.stirs n).port n).mode = .run → ((s.stirs n).port n).tagged < ((s.stirs n).port n).maxTagged)
    (now : ((s.stirs n).port n).resetHold = false) (op : DownOp) (f : State → State) :
    s.arrive n tid tagged legal op .describe f = f ((s.stirs n).takeIn n tid) := by
  have notFull : ¬((((s.stirs n).port n).mode = .run ∧ tagged = true) ∧ ((s.stirs n).port n).maxTagged ≤ ((s.stirs n).port n).tagged) :=
    fun h => by
      have := room h.1.1
      omega
  simp [State.arrive, alive, free, hlegal, notFull, now]

end

/-! Each request reaches those checks with its TID, its form and its kind (04 R92 to R95). -/

@[simp] theorem attrLegal_token (h : Hdr) : attrLegal h true false = !hLocked h := by simp [attrLegal]

@[simp] theorem attrLegal_locked (h : Hdr) : attrLegal h false true = !hHasToken h := by simp [attrLegal]

@[simp] theorem attrLegal_neither (h : Hdr) : attrLegal h false false = State.asked.plain h := by simp [attrLegal, State.asked.plain]

section

variable {s : State} {n : Nat} {op : Byte} {h : Hdr} {fields : List Byte} {rx : Rx} {syms : List Nat} {legal : Bool} {resp : DownOp}
  {kind : Kind} {x : Asked}

/-- A tagged request arrives as it is asked; a BARRIER has its SCOPE written into the header, its TID is that of the row's (04 R98). -/
theorem State.recvTagged_asked {h' : Hdr} {form : Prop} [Decidable form] (hlegal : legal = true ↔ form)
    (hx : State.asked.tagged n h resp form kind = some x) (htid : h'.tid = h.tid) (hears : s.hears (portLink x.port))
    (good : msg8 (portLink n) (taggedHeader op h' ++ fields) rx = some (portLink x.port, .good, syms)) (f : State → State) :
    s.begin.recvTagged n op h' fields rx legal resp kind f =
      (s.took (portLink x.port) syms).arrive x.port x.tid x.tagged x.legal x.resp x.kind f := by
  cases hx
  have form_eq : (legal && h.tid != 0xFFF) = decide (h.tid ≠ 0xFFF ∧ form) := by
    rw [Bool.eq_iff_iff]
    simp [hlegal, and_comm]
  unfold State.recvTagged
  rw [State.recv8_hears hears good, htid, form_eq]

/-- An untagged request arrives with the TID 0xFFF (04 R93). -/
theorem State.recvUntagged_asked (hlegal : legal = true ↔ x.legal = true) (hears : s.hears (portLink n))
    (good : msg8 (portLink n) (untaggedHeader op h ++ fields) rx = some (portLink n, .good, syms)) (f : State → State) :
    s.begin.recvUntagged n op h fields rx legal resp kind f =
      (s.took (portLink n) syms).arrive n 0xFFF false x.legal resp kind f := by
  unfold State.recvUntagged
  rw [State.recv8_hears hears good, Bool.eq_iff_iff.2 hlegal]

/-- Every request of a port comes before the checks as `State.asked` reads it. -/
theorem State.effect_asked {c : Instr} (hx : s.asked c = some x) (hears : s.hears (portLink x.port))
    (good : s.message c = some (portLink x.port, .good, syms)) :
    ∃ f, s.begin.effect c = (s.took (portLink x.port) syms).arrive x.port x.tid x.tagged x.legal x.resp x.kind f := by
  cases c
  case readShared | readOwn | upgrade | zeroLine | putPartial | putLine | writeback | evictOffer =>
    exact ⟨_, State.recvTagged_asked (by simp [and_comm]) hx (by rfl) hears good _⟩
  case readUnc | barrierPort | barrierPartition | barrierSystem | loanTarget | waitEvent | sleepReq | describe =>
    exact ⟨_, State.recvTagged_asked (by simp) hx (by rfl) hears good _⟩
  case loadReserve | storeCond =>
    cases hx
    exact ⟨_, State.recvUntagged_asked (by simp [and_comm]) hears good _⟩
  all_goals cases hx

end

/-- Settles O46: each request comes before the checks of `State.arrive`, by `effect_asked`; each clause is one of their outcomes. -/
theorem requestsAreChecked : Obligations.RequestsAreChecked := by
  unfold Obligations.RequestsAreChecked
  intro s c x syms u alive hx hears hu good
  subst hu
  have taken : (s.took (portLink x.port) syms).dead = false := by simp [alive]
  have hwf := wellFormed_of_message good
  obtain ⟨f, arrives⟩ := State.effect_asked hx hears good
  refine ⟨fun dup => ?_, fun free => ⟨fun improper => ?_, fun hlegal takes held notEvict => ?_⟩⟩
  · exact exec_eq_of_effect hwf (arrives.trans (State.arrive_dup taken dup _ _))
  · exact exec_eq_of_effect hwf (arrives.trans (State.arrive_improper taken free improper _ _))
  · exact exec_eq_of_effect hwf (arrives.trans (State.arrive_held taken free hlegal takes held notEvict _ _))

end Sys2Proof.Machine

namespace Sys2Proof.Machine

/-! Requests to memory (04 R92 to R98, R103, R111). -/

/-- The rows of a whole line are one operation, each with its own opcode (04 R114). -/
theorem effect_line {c : Instr} {op : ReqOp} {n : Port} {h : Hdr} {a : Word} {rx : Rx}
    (hc : (c = .readShared n h a rx ∧ op = .readShared) ∨ (c = .readOwn n h a rx ∧ op = .readOwn) ∨
      (c = .upgrade n h a rx ∧ op = .upgrade) ∨ (c = .zeroLine n h a rx ∧ op = .zeroLine)) :
    c.wellFormed = true ∧ ∃ code, ∀ s : State, s.message c = msg8 (portLink n) (taggedHeader code h ++ addrSymbols a) rx ∧
      s.begin.effect c = s.begin.lineReq n op code h a rx := by
  rcases hc with ⟨rfl, rfl⟩ | ⟨rfl, rfl⟩ | ⟨rfl, rfl⟩ | ⟨rfl, rfl⟩
  · exact ⟨rfl, 0x01, fun s => ⟨rfl, rfl⟩⟩
  · exact ⟨rfl, 0x02, fun s => ⟨rfl, rfl⟩⟩
  · exact ⟨rfl, 0x03, fun s => ⟨rfl, rfl⟩⟩
  · exact ⟨rfl, 0x07, fun s => ⟨rfl, rfl⟩⟩

/-- A request taken in grants no LOAD_RESERVE (04 R115). -/
@[simp] theorem State.takeIn_reserveOpen (s : State) (n tid m : Nat) : (s.takeIn n tid).reserveOpen m = s.reserveOpen m := by
  simp [State.reserveOpen, State.takeIn]

section

variable {s : State} {n : Port} {h : Hdr} {a : Word} {rx : Rx} {syms : List Nat} (now : ((s.reached n syms).port n).resetHold = false)

include now

section

variable (takes : ((s.reached n syms).port n).takes h.tid.toNat true)

include takes

theorem State.lineReq_takes {op : ReqOp} {code : Byte} (hands : s.Hands n code h (addrSymbols a) rx syms) (hlock : hLocked h = false)
    (halign : a.toNat % 64 = 0) :
    s.begin.lineReq n op code h a rx = ((s.reached n syms).takeIn n h.tid.toNat).enqueue n {
      op := op, tid := h.tid.toNat, pa := a.toNat, token := hTokenOf h
      stream := hStream h && (op == .readShared || op == .readOwn) } :=
  State.recvTagged_takes hands (by simp [hlock, halign]) takes (.inl now) _ _

theorem State.uncReq_takes (hands : s.Hands n 0x04 h (addrSymbols a) rx syms) (hsize : hSize3 h ≠ 7) (halign : a.toNat % 2 ^ hSize3 h = 0) :
    s.begin.uncReq n h a rx = ((s.reached n syms).takeIn n h.tid.toNat).enqueue n {
      op := .readUnc, tid := h.tid.toNat, pa := a.toNat, size := hSize3 h, token := hTokenOf h, stream := hStream h, locked := hLocked h } :=
  State.recvTagged_takes hands (by simp [hsize, halign]) takes (.inl now) _ _

variable (htok : hHasToken h = false)

include htok

theorem State.putReq_takes {m : Byte} {d : BitVec 64}
    (hands : s.Hands n 0x05 h (addrSymbols a ++ [m] ++ maskedBytes m d) (if m = 0 then .framing else rx) syms) (halign : a.toNat % 8 = 0) :
    s.begin.putReq n h a m d rx = ((s.reached n syms).takeIn n h.tid.toNat).enqueue n {
      op := .putPartial, tid := h.tid.toNat, pa := a.toNat, locked := hLocked h
      mask := BitVec.ofNat 64 (m.toNat * 2 ^ (a.toNat % 64)), data := shiftIn d.toNat (a.toNat % 64) } :=
  State.recvTagged_takes hands (by simp [htok, halign]) takes (.inl now) _ _

theorem State.putLineReq_takes {d : Line} (hands : s.Hands n 0x06 h (addrSymbols a ++ lineBytes d) rx syms) (halign : a.toNat % 64 = 0) :
    s.begin.putLineReq n h a d rx = ((s.reached n syms).takeIn n h.tid.toNat).enqueue n {
      op := .putLine, tid := h.tid.toNat, pa := a.toNat, locked := hLocked h, mask := fullMask, data := d } :=
  State.recvTagged_takes hands (by simp [htok, halign]) takes (.inl now) _ _

end

variable (alive : s.dead = false) (hears : s.hears (portLink n)) (takes : ((s.reached n syms).port n).takes 0xFFF false)
  (hlock : hLocked h = false)

include alive hears takes

/-- An untagged request of legal form that the port takes now (04 R93). -/
theorem State.recvUntagged_takes {op : Byte} {fields : List Byte} {legal : Bool}
    (good : msg8 (portLink n) (untaggedHeader op h ++ fields) rx = some (portLink n, .good, syms)) (hlegal : legal = true) (resp : DownOp)
    (kind : Kind) (f : State → State) :
    s.begin.recvUntagged n op h fields rx legal resp kind f = f ((s.reached n syms).takeIn n 0xFFF) := by
  unfold State.recvUntagged
  rw [State.recv8_hears hears good]
  exact State.arrive_takes (by simp [alive]) hlegal takes (.inl now) resp f

include hlock

theorem State.reserveReq_takes
    (good : msg8 (portLink n) (untaggedHeader 0x0A h ++ addrSymbols a) rx = some (portLink n, .good, syms)) (halign : a.toNat % 64 = 0) :
    s.begin.reserveReq n h a rx = ((s.reached n syms).takeIn n 0xFFF).enqueue n {
      op := .loadReserve, tid := 0xFFF, pa := a.toNat, token := hTokenOf h } :=
  State.recvUntagged_takes now alive hears takes good (by simp [hlock, halign]) _ _ _

theorem State.condReq_takes {d : BitVec 64}
    (good : msg8 (portLink n) (untaggedHeader 0x0B h ++ (addrSymbols a ++ natBytes (2 ^ hSize2 h) d.toNat)) rx =
      some (portLink n, .good, syms)) (htok : hHasToken h = false) (halign : a.toNat % 2 ^ hSize2 h = 0) :
    s.begin.condReq n h a d rx = ((s.reached n syms).takeIn n 0xFFF).enqueue n {
      op := .storeCond, tid := 0xFFF, pa := a.toNat, size := hSize2 h, early := (s.reached n syms).reserveOpen n } := by
  unfold State.condReq
  rw [State.recvUntagged_takes now alive hears takes good (by simp [State.asked.plain, hlock, htok, halign]), State.takeIn_reserveOpen]

end

/-- Settles O42: each row is one of seven operations, and its request arrives by `recvTagged_takes` or `recvUntagged_takes`. -/
theorem memoryRequestsAreTaken : Obligations.MemoryRequestsAreTaken := by
  unfold Obligations.MemoryRequestsAreTaken
  intro s n h a rx syms u alive hears hu now
  subst hu
  refine ⟨fun takes htid => ⟨fun hlock halign c op hc good => ?_, fun hsize halign good => ?_, fun m d htok halign good => ?_,
    fun d htok halign good => ?_⟩, fun takes => ⟨fun hlock halign good => ?_, fun d htok hlock halign good => ?_⟩⟩
  · obtain ⟨hwf, code, hrow⟩ := effect_line hc
    obtain ⟨hmsg, heffect⟩ := hrow s
    rw [hmsg] at good
    exact exec_eq_of_effect hwf (heffect.trans (State.lineReq_takes now takes ⟨alive, hears, good, htid⟩ hlock halign))
  · exact exec_eq_of_effect rfl (State.uncReq_takes now takes ⟨alive, hears, good, htid⟩ hsize halign)
  · exact exec_eq_of_effect rfl (State.putReq_takes now takes htok ⟨alive, hears, good, htid⟩ halign)
  · exact exec_eq_of_effect rfl (State.putLineReq_takes now takes htok ⟨alive, hears, good, htid⟩ halign)
  · exact exec_eq_of_effect rfl (State.reserveReq_takes now alive hears takes hlock good halign)
  · exact exec_eq_of_effect rfl (State.condReq_takes now alive hears takes hlock good htok halign)

end Sys2Proof.Machine

namespace Sys2Proof.Machine

/-! DESCRIBE and HOME_MAP_ACK (04 R108, R110, R112, R127). -/

section

variable {s : State} {n : Port} {h : Hdr} {rx : Rx} {syms : List Nat} (plain : ∀ token locked, attrLegal h token locked = true)
  (free : ((s.reached n syms).port n).hasTid h.tid.toNat = false)
  (room : ((s.reached n syms).port n).mode = .run → ((s.reached n syms).port n).tagged < ((s.reached n syms).port n).maxTagged)
  (now : ((s.reached n syms).port n).resetHold = false)

include plain free room now

/-- A DESCRIBE of legal form reaches its operation before Run too (04 R105). -/
theorem State.recvTagged_describe {op : Byte} {fields : List Byte} (hands : s.Hands n op h fields rx syms) (resp : DownOp)
    (f : State → State) :
    s.begin.recvTagged n op h fields rx (attrLegal h false false) resp .describe f = f ((s.reached n syms).takeIn n h.tid.toNat) := by
  unfold State.recvTagged
  rw [State.recv8_hears hands.hears hands.whole, plain]
  exact State.arrive_describe (by simp [hands.alive]) free (by simpa using hands.tid) room now resp f

variable {p0 p1 p2 p3 p4 : Byte} {v bad : State} (hands : s.Hands n 0x10 h [p0, p1, p2, p3, p4] rx syms)
  (hv : v = (s.reached n syms).takeIn n h.tid.toNat)
  (hbad : bad = (v.bump (K.decodeErrors n)).respondNow n { op := .complete, tid := h.tid.toNat, status := 14 })

include hands hv hbad

/-- DESCRIBE of a port that is in Run or has its map on the way repeats the first, or is a DECODE_ERROR (04 R110; assumption 46). -/
theorem State.describeReq_again (again : ((s.reached n syms).port n).mode = .run ∨ ((s.reached n syms).port n).map ≠ none) :
    s.begin.describeReq n h p0 p1 p2 p3 p4 rx =
      if p0 = 1 ∧ ((s.reached n syms).port n).l1 = some (p1.toNat, p2.toNat, p3.toNat, p4.toNat) then
        v.respond n { op := .complete, tid := h.tid.toNat, epoch := ((s.reached n syms).port n).epoch }
      else bad := by
  rw [← Option.isSome_iff_ne_none] at again
  subst hv
  rw [hbad]
  unfold State.describeReq
  rw [State.recvTagged_describe plain free room now hands]
  simp only [State.port_takeIn_same, again, if_true]

/-- The first DESCRIBE: a legal one records the geometry, is answered OK and is followed by HOME_MAP; another is a DECODE_ERROR and a
refusal of the link (04 R108, R110). -/
theorem State.describeReq_first (early : ((s.reached n syms).port n).mode ≠ .run) (unmapped : ((s.reached n syms).port n).map = none) :
    s.begin.describeReq n h p0 p1 p2 p3 p4 rx =
      if describeLegal p0.toNat p1.toNat p2.toNat p3.toNat p4.toNat = true then
        (((v.modPort n (fun p => { p with l1 := some (p1.toNat, p2.toNat, p3.toNat, p4.toNat) })).setObj (K.l1Geometry n)
          (p1.toNat + p2.toNat * 2 ^ 8 + p3.toNat * 2 ^ 16 + p4.toNat * 2 ^ 24)).respond n
          { op := .complete, tid := h.tid.toNat, epoch := ((s.reached n syms).port n).epoch }).sendMap n .bringup
      else (bad.bump (K.bringupFails n)).modLink (portLink n) (fun e => { e with phase := .leaving, barred := true }) := by
  subst hv
  rw [hbad]
  unfold State.describeReq
  rw [State.recvTagged_describe plain free room now hands]
  simp [early, unmapped]

end

/-- Delivery is the link layer's alone: every port is as it was (03 R58, R86). -/
@[simp] theorem State.took_port (s : State) (l : LinkId) (syms : List Nat) (n : Nat) : (s.took l syms).port n = s.port n := by
  unfold State.took State.delivered State.capture
  dsimp only
  split
  · simp [State.sendAck, State.sendLink, State.launch]
  · simp

/-- HOME_MAP_ACK that names no map on the way changes nothing (assumption 7). -/
theorem State.mapAck_none {s : State} {n tid : Nat} (other : ∀ m, (s.port n).map = some m → m.tid ≠ tid) : s.mapAck n tid = s := by
  cases hm : (s.port n).map with
  | none => simp only [State.mapAck, hm]
  | some m => simp only [State.mapAck, hm, other m hm, ne_eq, not_false_eq_true, if_true]

section

variable {s v : State} {n tid : Nat} {m : MapOut} (hm : (s.port n).map = some m) (htid : m.tid = tid)
  (hv : v = s.modPort n (fun p => { p with map := none, mapNext := none, mapAcked := m.mask }))

include hm htid hv

/-- The acknowledgement of the bring-up's map: Run, or the mask of today first (04 R127). -/
theorem State.mapAck_bringup (why : m.why = .bringup) (awaits : (s.port n).mode = .awaitDescribe) :
    s.mapAck n tid = if v.mapMask = m.mask then v.modPort n (fun p => { p with mode := .run }) else v.sendMap n .bringup := by
  subst hv
  simp [State.mapAck, hm, htid, why, awaits]

variable (later : m.why ≠ .bringup ∨ (s.port n).mode ≠ .awaitDescribe)

include later

/-- The acknowledgement of another map for which none waits (04 R112). -/
theorem State.mapAck_last (last : (s.port n).mapNext = none) : s.mapAck n tid = v := by
  subst hv
  have notFirst := not_and_or.2 later
  simp [State.mapAck, hm, htid, notFirst, last]

/-- The acknowledgement of another map sends the one that waited for it (04 R112). -/
theorem State.mapAck_next {w : MapWhy} (next : (s.port n).mapNext = some w) : s.mapAck n tid = v.sendMap n w := by
  subst hv
  have notFirst := not_and_or.2 later
  simp [State.mapAck, hm, htid, notFirst, next]

end

/-- Settles O45: DESCRIBE arrives by `recvTagged_describe`, in Run and before it, and is the first or a later one; HOME_MAP_ACK arrives by
`recvAnswer_hears` and names the map of the bring-up, another or none. -/
theorem portsAreDescribed : Obligations.PortsAreDescribed := by
  unfold Obligations.PortsAreDescribed
  intro s n rx syms u alive hears hu
  subst hu
  refine ⟨fun h p0 p1 p2 p3 p4 v bad good htid htok hlock free now hv hbad => ?_, fun tid x good => ?_⟩
  · have plain := attrLegal_plain htok hlock
    have hands : s.Hands n 0x10 h [p0, p1, p2, p3, p4] rx syms := ⟨alive, hears, good, htid⟩
    refine ⟨fun early unmapped => ?_, fun again room => ?_⟩
    · have arrives := State.describeReq_first plain free (fun run => absurd run early) now hands hv hbad early unmapped
      exact ⟨fun legal => exec_eq_of_effect rfl (arrives.trans (if_pos legal)),
        fun illegal => exec_eq_of_effect rfl (arrives.trans (if_neg (by simp [illegal])))⟩
    · have arrives := State.describeReq_again plain free room now hands hv hbad again
      exact ⟨fun first same => exec_eq_of_effect rfl (arrives.trans (if_pos ⟨first, same⟩)),
        fun differs => exec_eq_of_effect rfl (arrives.trans (if_neg fun ⟨first, same⟩ => differs.elim (· first) (· same)))⟩
  · have arrives := State.recvAnswer_hears alive hears good (fun s => s.mapAck n tid.toNat)
    rw [← State.took_port s (portLink n) syms n]
    refine ⟨fun m v hm htid hv => ⟨fun why awaits => ?_, fun later => ⟨fun last => ?_, fun w next => ?_⟩⟩, fun other => ?_⟩
    · have acked := arrives.trans (State.mapAck_bringup hm htid hv why awaits)
      exact ⟨fun same => exec_eq_of_effect rfl (acked.trans (if_pos same)),
        fun moved => exec_eq_of_effect rfl (acked.trans (if_neg moved))⟩
    · exact exec_eq_of_effect rfl (arrives.trans (State.mapAck_last hm htid hv later last))
    · exact exec_eq_of_effect rfl (arrives.trans (State.mapAck_next hm htid hv later next))
    · exact exec_eq_of_effect rfl (arrives.trans (State.mapAck_none other))

end Sys2Proof.Machine

namespace Sys2Proof.Machine

/-! Registers of ports, slices and channels (04 R126, R129; 06 R184; 07 R202; 13 R341). -/

section

variable {s : State} {src : Src}

/-- A row that writes a register, the write accepted: its journal entry, then the effect t of its register, then its answer (16 R405,
R415; 17 R427). -/
theorem exec_eq_of_accepted {c : Instr} {k v w : Nat} {r : ORow} {x : Extras} {t : State} (hc : s.registerWrite c = some (src, k, v, x))
    (accepted : s.accepts src k v) (hr : lookupRow (k / 256) (k % 256) = some r)
    (hrow : r.acc ≠ .staged ∧ r.i0 ≠ 0x1300 ∧ r.i0 ≠ 0x2100) (hv : v < 256 ^ r.ty.bytes) (hw : v &&& r.keep = w)
    (effect : (s.noted src k w).writeEffect src k w r.acc x = t) : exec c s = .next (s.after (t.saysOk s src k)) := by
  obtain ⟨hacc, notCommit, notTcInval⟩ := hrow
  rw [registerWrite_exec hc, flow_cmdWrite_ok w r x accepted hr hacc hv hw (.inl notCommit) (.inl notTcInval), effect]

/-- The journal entry of a write leaves the chips' error counts as they were. -/
@[simp] theorem noted_chipErrs (s : State) (src : Src) (k v : Nat) : (s.noted src k v).chipErrs = s.chipErrs := by
  obtain ⟨n, h⟩ := noted_frame s src k v
  rw [h]

/-- PORT_ENABLE 1 enables the port and does nothing more (04 R129). -/
theorem State.portEnableWrite_one (s : State) (n : Nat) : s.portEnableWrite n 1 = s.setObj (K.portEnable n) 1 := rfl

/-- PORT_ENABLE 0 lowers APn_PRDY (04 R129). -/
theorem State.portEnableWrite_zero (s : State) (n : Nat) : s.portEnableWrite n 0 = (s.setObj (K.portEnable n) 0).portDies n := rfl

/-- A mark that no longer names its chip starts that chip's count afresh (07 R202). -/
theorem State.markWrite_changed {k v : Nat} (changed : s.obj k ≠ v) (chip : s.obj k < 20) (c : Nat) :
    s.markWrite k c v = ({ s with chipErrs := tset 0 s.chipErrs (c * 32 + s.obj k) 0 } : State).setObj k v := by
  simp only [State.markWrite, if_pos (And.intro changed chip)]

/-- A mark written again, or one that named no chip, only reads what was written (07 R202). -/
theorem State.markWrite_unchanged {k v : Nat} (kept : s.obj k = v ∨ 20 ≤ s.obj k) (c : Nat) : s.markWrite k c v = s.setObj k v := by
  have same : ¬(s.obj k ≠ v ∧ s.obj k < 20) := by omega
  simp only [State.markWrite, if_neg same]

variable {c : Instr} {ch : Chan} {v : Byte} {k : Nat}
  (hc : (c = .dcMarkA src ch v ∧ k = K.dcMarkA ch) ∨ (c = .dcMarkB src ch v ∧ k = K.dcMarkB ch)) (accepted : s.accepts src k v.toNat)

include hc accepted

/-- DC_MARK_A and DC_MARK_B are one operation, each on its own register. -/
theorem exec_mark :
    exec c s = .next (s.after (((s.noted src k v.toNat).markWrite k ch v.toNat).saysOk s src k)) := by
  have kept : v.toNat &&& allOnes64 = v.toNat := and_allOnes64 _ (by omega)
  rcases hc with ⟨rfl, rfl⟩ | ⟨rfl, rfl⟩
  · exact exec_eq_of_accepted rfl accepted (row_dcMarkA ch) (by decide) v.isLt kept (effect_dcMarkA _ src ch _ _)
  · exact exec_eq_of_accepted rfl accepted (row_dcMarkB ch) (by decide) v.isLt kept (effect_dcMarkB _ src ch _ _)

/-- A mark that leaves its chip (07 R202). -/
theorem exec_mark_changed (changed : s.obj k ≠ v.toNat) (chip : s.obj k < 20) :
    exec c s = .next (s.after ((({ s.noted src k v.toNat with
      chipErrs := tset 0 s.chipErrs (ch * 32 + s.obj k) 0 }).setObj k v.toNat).saysOk s src k)) := by
  rw [exec_mark hc accepted, State.markWrite_changed (by rwa [noted_obj]) (by rwa [noted_obj]), noted_obj, noted_chipErrs]

/-- A mark that leaves no chip (07 R202). -/
theorem exec_mark_unchanged (kept : s.obj k = v.toNat ∨ 20 ≤ s.obj k) :
    exec c s = .next (s.after (((s.noted src k v.toNat).setObj k v.toNat).saysOk s src k)) := by
  rw [exec_mark hc accepted, State.markWrite_unchanged (by rwa [noted_obj])]

end

/-- Settles O16: each row is its register's accepted write, by the effect of that register and, for PORT_ENABLE, WAKE_REQ and the marks,
by the case of the value written. -/
theorem portSliceAndChannelRegistersAct : Obligations.PortSliceAndChannelRegistersAct := by
  unfold Obligations.PortSliceAndChannelRegistersAct
  refine ⟨fun s src n => ⟨fun accepted => ?_, fun accepted => ?_, fun accepted => ?_, fun accepted => ?_⟩, fun s src => ⟨fun h v accepted => ?_,
    fun c v accepted changed chip => ?_, fun c v accepted kept => ?_, fun c v accepted changed chip => ?_, fun c v accepted kept => ?_⟩⟩
  · exact exec_eq_of_accepted rfl accepted (row_portEnable n) (by decide) (by decide) (by decide)
      ((effect_portEnable _ src n 1 _).trans (State.portEnableWrite_one _ _))
  · exact exec_eq_of_accepted rfl accepted (row_portEnable n) (by decide) (by decide) (by decide)
      ((effect_portEnable _ src n 0 _).trans (State.portEnableWrite_zero _ _))
  · exact exec_eq_of_accepted rfl accepted (row_heldAck n) (by decide) (by decide) (by decide) (effect_heldAck _ src n _)
  · have wakes := exec_eq_of_accepted (c := .wakeReq src n) rfl accepted (row_wakeReq n) (by decide) (by decide) (by decide)
      (effect_wakeReq _ src n _)
    refine ⟨fun asleep => wakes.trans ?_, fun awake => wakes.trans ?_⟩
    · rw [State.wakePort, noted_port, if_pos asleep]
    · rw [State.wakePort, noted_port, if_neg awake]
  · exact exec_eq_of_accepted rfl accepted (row_wayDisabled h) (by decide) v.isLt rfl (effect_wayDisabled _ src h _ _)
  · exact exec_mark_changed (.inl ⟨rfl, rfl⟩) accepted changed chip
  · exact exec_mark_unchanged (.inl ⟨rfl, rfl⟩) accepted kept
  · exact exec_mark_changed (.inr ⟨rfl, rfl⟩) accepted changed chip
  · exact exec_mark_unchanged (.inr ⟨rfl, rfl⟩) accepted kept

end Sys2Proof.Machine

namespace Sys2Proof.Machine

/-! Timers of the home slices and the data channels (05 R142, R145; 06 R184; 07 R199, R205, R210; 13 R344). -/

section

variable {s : State}

/-! The hold window (05 R145). -/

/-- The hold window of a granted line frees the line where COMP_ACK has come, and otherwise leaves that to COMP_ACK (05 R143, R145). -/
theorem State.windowEnds_granted {line : Nat} {t : Txn}
    (granted : s.txns.find? (fun t => t.phase == .granted && t.line == line && !t.windowOver) = some t) :
    s.windowEnds line = if t.ackIn then s.endTxn t.id else s.modTxn t.id (fun t => { t with windowOver := true }) := by
  simp only [State.windowEnds, granted]

theorem State.windowEnds_none {line : Nat}
    (idle : s.txns.find? (fun t => t.phase == .granted && t.line == line && !t.windowOver) = none) : s.windowEnds line = s := by
  simp only [State.windowEnds, idle]

/-! Credits (05 R142). -/

/-- The model's test for an issued credit, as a statement about the list of credits. -/
theorem State.credits_any (h i : Nat) :
    s.credits.any (fun c => c.slice == h && c.credit == i) = true ↔ ∃ c ∈ s.credits, c.slice = h ∧ c.credit = i := by
  simp only [List.any_eq_true, Bool.and_eq_true, beq_iff_eq]

/-- A credit whose lifetime ends is free again and counted (05 R142). -/
theorem State.creditExpires_held {h i : Nat} (held : ∃ c ∈ s.credits, c.slice = h ∧ c.credit = i) :
    s.creditExpires h i =
      ({ s with credits := s.credits.filter (fun c => !(c.slice == h && c.credit == i)) } : State).bump (K.creditsExpired h) :=
  if_pos ((State.credits_any h i).2 held)

theorem State.creditExpires_free {h i : Nat} (free : ∀ c ∈ s.credits, ¬(c.slice = h ∧ c.credit = i)) : s.creditExpires h i = s :=
  if_neg fun held => let ⟨c, mem, same⟩ := (State.credits_any h i).1 held; free c mem same

/-! Merge entries (07 R205, R210). -/

theorem State.mergeExpires_entry {c ba : Nat} {m : MergeEntry} (entry : (s.chan c).merge.find? (fun m => m.ba == ba) = some m) :
    s.mergeExpires c ba = s.mergeFlush c m := by
  simp only [State.mergeExpires, entry]

theorem State.mergeExpires_none {c ba : Nat} (idle : (s.chan c).merge.find? (fun m => m.ba == ba) = none) : s.mergeExpires c ba = s := by
  simp only [State.mergeExpires, idle]

/-- The read-modify-write of the entry is already under way (07 R206). -/
theorem State.mergeFlush_flushing {m : MergeEntry} (flushing : m.flushing = true) (c : Nat) : s.mergeFlush c m = s :=
  if_pos flushing

section

variable {c : Nat} {m : MergeEntry} (fresh : m.flushing = false)

include fresh

/-- During a calibration hold the trigger waits (07 R210). -/
theorem State.mergeFlush_held (hold : (s.chan c).hold = true) :
    s.mergeFlush c m =
      s.modChan c (fun h => { h with merge := h.merge.map (fun x => if x.ba = m.ba then { x with due := true } else x) }) := by
  simp only [State.mergeFlush, fresh, hold, Bool.false_eq_true, if_false, if_true]

variable (free : (s.chan c).hold = false)

include free

/-- An entry of whole beats is written at once (07 R205). -/
theorem State.mergeFlush_whole (whole : beatsWhole m.mask = true) :
    s.mergeFlush c m = s.modChan c (fun h => ({ h with merge := h.merge.filter (fun x => x.ba != m.ba) } : ChanSt).putFirst
      { ba := m.ba, op := .write m.mask m.data, who := m.who }) := by
  simp only [State.mergeFlush, fresh, free, whole, Bool.false_eq_true, if_false, if_true]

/-- An entry with a partial beat is read first (07 R205, R206). -/
theorem State.mergeFlush_rmw (partly : beatsWhole m.mask = false) :
    s.mergeFlush c m = (s.bump (K.mergeRmw c)).modChan c (fun h => ({ h with
      merge := h.merge.map (fun x => if x.ba = m.ba then { x with flushing := true, due := false } else x) } : ChanSt).putFirst
      { ba := m.ba, op := .read .merge, who := m.who, rmw := true }) := by
  simp only [State.mergeFlush, fresh, free, partly, Bool.false_eq_true, if_false]

end

/-! Writes that wait for WRITE_RETRY_GAP (13 R344). -/

theorem State.gapOver_waiting {line : Nat} {t : Txn}
    (waiting : s.txns.find? (fun t => t.phase == .retryGap && t.line == line) = some t) : s.gapOver line = s.resend t := by
  simp only [State.gapOver, waiting]

theorem State.gapOver_none {line : Nat} (idle : s.txns.find? (fun t => t.phase == .retryGap && t.line == line) = none) :
    s.gapOver line = s := by
  simp only [State.gapOver, idle]

end

/-- Settles O50: every clause is the timer's own operation at `s.begin`, by the lemma for what the timer finds: a granted line, an issued
credit, a merge entry in one of its four cases, a waiting write, or nothing (that nothing changes then is the model's choice, log
entry 7). -/
theorem sliceAndChannelTimersAct : Obligations.SliceAndChannelTimersAct := by
  unfold Obligations.SliceAndChannelTimersAct
  intro s
  refine ⟨?window, ?noWindow, ?credit, ?noCredit, ?way, ?mark, ?merge, ?noMerge, ?retry, ?noRetry⟩
  case window =>
    intro x t granted
    have ends := State.windowEnds_granted (s := s.begin) granted
    exact ⟨fun acked => exec_eq_of_effect rfl (ends.trans (if_pos acked)),
      fun unacked => exec_eq_of_effect rfl (ends.trans (if_neg (ne_true_of_eq_false unacked)))⟩
  case noWindow => exact fun x idle => exec_eq_of_effect rfl (State.windowEnds_none (s := s.begin) idle)
  case credit => exact fun h i held => exec_eq_of_effect rfl (State.creditExpires_held (s := s.begin) held)
  case noCredit => exact fun h i free => exec_eq_of_effect rfl (State.creditExpires_free (s := s.begin) free)
  case way => exact fun h w => exec_eq_of_effect rfl rfl
  case mark => exact fun c i => exec_eq_of_effect rfl rfl
  case merge =>
    intro c ba m entry
    have expires := State.mergeExpires_entry (s := s.begin) entry
    exact ⟨fun flushing => exec_eq_of_effect rfl (expires.trans (State.mergeFlush_flushing flushing c)),
      fun fresh hold => exec_eq_of_effect rfl (expires.trans (State.mergeFlush_held fresh hold)),
      fun fresh free whole => exec_eq_of_effect rfl (expires.trans (State.mergeFlush_whole fresh free whole)),
      fun fresh free partly => exec_eq_of_effect rfl (expires.trans (State.mergeFlush_rmw fresh free partly))⟩
  case noMerge => exact fun c ba idle => exec_eq_of_effect rfl (State.mergeExpires_none (s := s.begin) idle)
  case retry =>
    intro x t waiting
    have resent := State.gapOver_waiting (s := s.begin) waiting
    exact ⟨fun poisoned => exec_eq_of_effect rfl (resent.trans (if_pos poisoned)),
      fun clean => exec_eq_of_effect rfl (resent.trans (if_neg (ne_true_of_eq_false clean)))⟩
  case noRetry => exact fun x idle => exec_eq_of_effect rfl (State.gapOver_none (s := s.begin) idle)

end Sys2Proof.Machine

namespace Sys2Proof.Machine

/-! The rows of the Conservator (06 R179, R180, R182; 08 R222, R224). -/

section

variable {s : State}

/-- The job that MAINT_START captures; INVAL_L2 and RECALL_L1 run for the supervisor (06 R179, R180). -/
def State.jobCaptured (s : State) : Job :=
  { op := s.obj K.maintOp, next := s.obj K.maintBase / 64, last := (s.obj K.maintBase + s.obj K.maintLength) / 64,
    part := if s.obj K.maintOp = 3 ∨ s.obj K.maintOp = 4 then s.obj K.maintPart else s.inForce.supervisor,
    flags := s.obj K.maintFlags, start := s.deviceTime }

/-- A job of any of the four operations begins where its parameters are in range (06 R180). -/
theorem State.startJob_begins (op : 1 ≤ s.obj K.maintOp ∧ s.obj K.maintOp ≤ 4) (base : s.obj K.maintBase % 64 = 0)
    (len : s.obj K.maintLength % 64 = 0) (lines : 0 < s.obj K.maintLength) (fits : s.obj K.maintBase + s.obj K.maintLength ≤ 2 ^ 40)
    (part : s.obj K.maintPart ≤ 15 ∨ s.obj K.maintOp = 1 ∨ s.obj K.maintOp = 2) :
    s.startJob = { s.setObj K.maintStatus 1 with job := some s.jobCaptured } :=
  if_neg (by omega)

/-- A job with a bad range ends at once, with status 5, counted and with event 19 (06 R180, R182). -/
theorem State.startJob_badRange (bad : s.obj K.maintBase % 64 ≠ 0 ∨ s.obj K.maintLength % 64 ≠ 0 ∨ s.obj K.maintLength = 0 ∨
      2 ^ 40 < s.obj K.maintBase + s.obj K.maintLength ∨ (15 < s.obj K.maintPart ∧ (s.obj K.maintOp = 3 ∨ s.obj K.maintOp = 4))) :
    s.startJob = ((s.jobSummary 5 0 0 0 0 0).bump K.maintSeq).raiseS 19 ((s.obj K.maintSeq + 1) % 2 ^ 32) :=
  if_pos (.inr (.inr bad))

/-- The pass that SCRUB_START captures (08 R222). -/
def State.passCaptured (s : State) : Scrub :=
  { target := s.obj K.scrubTarget, units := s.scrubSelect (s.obj K.scrubTarget) (s.obj K.scrubUnit), first := s.obj K.scrubFirst,
    row := s.obj K.scrubFirst, last := s.obj K.scrubLast, start := s.deviceTime }

/-- A pass over a target that exists begins where its unit and its rows are in range (08 R222). -/
theorem State.startScrub_begins (target : s.obj K.scrubTarget ≤ 2)
    (unit : s.obj K.scrubUnit = 0xFF ∨ s.obj K.scrubUnit < scrubUnits (s.obj K.scrubTarget)) (rows : s.obj K.scrubFirst ≤ s.obj K.scrubLast) :
    s.startScrub = { s.setObj K.scrubStatus 1 with scrub := some s.passCaptured } :=
  if_neg (by omega)

/-- A pass over a unit that the target has not, or over no rows, ends at once, with status 5, counted and with event 19 (08 R222, R224). -/
theorem State.startScrub_badRange
    (bad : (s.obj K.scrubUnit ≠ 0xFF ∧ scrubUnits (s.obj K.scrubTarget) ≤ s.obj K.scrubUnit) ∨ s.obj K.scrubLast < s.obj K.scrubFirst) :
    s.startScrub = ((s.scrubSummary 5 s.passCaptured 0).bump K.scrubSeq).raiseS 19 ((s.obj K.scrubSeq + 1) % 2 ^ 32) :=
  if_pos (.inr bad)

end

section

variable (s : State) (src : Src) (k v : Nat)

/-- The journal entry of a write leaves what a start captures as it was. -/
@[simp] theorem noted_jobCaptured : (s.noted src k v).jobCaptured = s.jobCaptured := by
  obtain ⟨n, h⟩ := noted_frame s src k v
  rw [h]
  rfl

@[simp] theorem noted_passCaptured : (s.noted src k v).passCaptured = s.passCaptured := by
  obtain ⟨n, h⟩ := noted_frame s src k v
  rw [h]
  rfl

end

section

variable {s t : State} {src : Src} {c : Instr}

/-- The rows of MAINT_START, each with its own MAINT_OP, are one accepted write, whose effect begins the job (06 R179). -/
theorem exec_maintStart (row : (c = .invalL2 src ∧ s.obj K.maintOp = 1) ∨ (c = .recallL1 src ∧ s.obj K.maintOp = 2) ∨
      (c = .preload src ∧ s.obj K.maintOp = 3) ∨ (c = .unlock src ∧ s.obj K.maintOp = 4))
    (accepted : s.accepts src K.maintStart 1) (starts : (s.noted src K.maintStart 1).startJob = t) :
    exec c s = .next (s.after (t.saysOk s src K.maintStart)) := by
  have writes : s.registerWrite c = some (src, K.maintStart, 1, {}) := by
    rcases row with ⟨rfl, op⟩ | ⟨rfl, op⟩ | ⟨rfl, op⟩ | ⟨rfl, op⟩
    all_goals exact if_pos op
  exact exec_eq_of_accepted writes accepted row_maintStart (by decide) (by decide) (by decide) ((effect_maintStart _ src _).trans starts)

/-- The rows of SCRUB_START, each with its own SCRUB_TARGET, are one accepted write, whose effect begins the pass (08 R222). -/
theorem exec_scrubStart (row : (c = .scrubStartDc src ∧ s.obj K.scrubTarget = 0) ∨ (c = .scrubStartTags src ∧ s.obj K.scrubTarget = 1) ∨
      (c = .scrubStartCat src ∧ s.obj K.scrubTarget = 2))
    (accepted : s.accepts src K.scrubStart 1) (starts : (s.noted src K.scrubStart 1).startScrub = t) :
    exec c s = .next (s.after (t.saysOk s src K.scrubStart)) := by
  have writes : s.registerWrite c = some (src, K.scrubStart, 1, {}) := by
    rcases row with ⟨rfl, target⟩ | ⟨rfl, target⟩ | ⟨rfl, target⟩
    all_goals exact if_pos target
  exact exec_eq_of_accepted writes accepted row_scrubStart (by decide) (by decide) (by decide) ((effect_scrubStart _ src _).trans starts)

end

/-- Settles O26: the rows of a start are one write, `exec_maintStart` and `exec_scrubStart`; its effect on the journalled state is the start
in range or with a bad range. A row that the selecting register does not name has the effect of no write (log entry 11). -/
theorem conservatorRowsAct : Obligations.ConservatorRowsAct := by
  unfold Obligations.ConservatorRowsAct
  intro s src
  refine ⟨fun accepted c row => ?maint, fun accepted c row => ?scrub, fun accepted => ?abort, ?idle⟩
  case maint =>
    have op : 1 ≤ s.obj K.maintOp ∧ s.obj K.maintOp ≤ 4 := by omega
    have begins := State.startJob_begins (s := s.noted src K.maintStart 1)
    have endsAtOnce := State.startJob_badRange (s := s.noted src K.maintStart 1)
    simp only [noted_obj, noted_jobCaptured] at begins endsAtOnce
    exact ⟨fun base len lines fits part => exec_maintStart row accepted (begins op base len lines fits part),
      fun bad => exec_maintStart row accepted (endsAtOnce bad)⟩
  case scrub =>
    have target : s.obj K.scrubTarget ≤ 2 := by omega
    have begins := State.startScrub_begins (s := s.noted src K.scrubStart 1)
    have endsAtOnce := State.startScrub_badRange (s := s.noted src K.scrubStart 1)
    simp only [noted_obj, noted_passCaptured] at begins endsAtOnce
    refine ⟨?_, fun unit rows => exec_scrubStart row accepted (begins target unit rows)⟩
    rintro x rfl bad
    exact exec_scrubStart row accepted (endsAtOnce bad)
  case abort =>
    exact exec_eq_of_accepted rfl accepted row_maintAbort (by decide) (by decide) (by decide) (effect_maintAbort _ src _)
  case idle =>
    refine ⟨?_, ?_, ?_, ?_, ?_, ?_, ?_⟩
    all_goals exact fun other => exec_eq_of_effect rfl (if_neg other)

end Sys2Proof.Machine

namespace Sys2Proof.Machine

/-! The ends and the rows of the Conservator (06 R182; 08 R221, R224). -/

section

variable {s t : State}

/-- Raising events leaves every object as it was but LEDGER_DROPPED, whose subindices end in the digit 9 (11 R306). -/
theorem State.eventsOnly_obj (h : s.eventsOnly t) {k : Nat} (hk : k % 16 ≠ 9) : t.obj k = s.obj k := by
  refine h.2 k ?_
  rintro p l rfl
  simp only [K.ledgerDropped, okey] at hk
  omega

/-- The job and the pass are no objects (17 R424). -/
theorem State.obj_withJob (s : State) (j : Option Job) (k : Nat) : ({ s with job := j } : State).obj k = s.obj k := rfl

theorem State.obj_withScrub (s : State) (x : Option Scrub) (k : Nat) : ({ s with scrub := x } : State).obj k = s.obj k := rfl

/-- The state at the end of a job, before its event: its summary, MAINT_SEQ counted and no job (06 R182). -/
def State.jobEnded (s : State) (j : Job) : State :=
  { (s.jobSummary (if j.aborted then 4 else if j.skipped = 0 then 2 else 3) j.visited j.affected j.dirty j.skipped
      (s.deviceTime - j.start)).bump K.maintSeq with job := none }

/-- Beyond its summary the end of a job does what event 19 does (06 R182). -/
theorem State.endJob_ends {j : Job} (hj : s.job = some j) (done : j.last ≤ j.next ∨ j.aborted = true) (quiet : s.jobLines = 0) :
    (s.jobEnded j).eventsOnly s.endJob := by
  have ends : ((decide (j.last ≤ j.next) || j.aborted) && s.jobLines == 0) = true := by simp [done, quiet]
  simp only [State.endJob, hj, ends, if_true]
  split
  · exact State.raisePS_eventsOnly _ _ _ _ _
  · exact State.raiseS_eventsOnly _ _ _ _

theorem State.endJob_none (hj : s.job = none) : s.endJob = s := by
  simp only [State.endJob, hj]

/-- A job with lines to issue or in flight goes on (06 R182). -/
theorem State.endJob_goesOn {j : Job} (hj : s.job = some j) (runs : (j.next < j.last ∧ j.aborted = false) ∨ s.jobLines ≠ 0) :
    s.endJob = s := by
  have goesOn : ¬((decide (j.last ≤ j.next) || j.aborted) && s.jobLines == 0) = true := by
    rcases runs with ⟨left, going⟩ | flying
    · simp [left, going]
    · simp [flying]
  simp only [State.endJob, hj, if_neg goesOn]

/-- What the objects of a job read at its end. -/
theorem State.obj_jobEnded (s : State) (j : Job) :
    (s.jobEnded j).obj K.maintSeq = (s.obj K.maintSeq + 1) % 2 ^ 32 ∧
    (s.jobEnded j).obj K.maintStatus = (if j.aborted then 4 else if j.skipped = 0 then 2 else 3) ∧
    (s.jobEnded j).obj K.linesVisited = j.visited ∧ (s.jobEnded j).obj K.linesAffected = j.affected ∧
    (s.jobEnded j).obj K.dirtyWritten = j.dirty ∧ (s.jobEnded j).obj K.linesSkipped = j.skipped := by
  simp only [State.jobEnded, State.obj_withJob, State.bump, State.addObj_eq, State.jobSummary, State.obj_setObj]
  simp [K.maintSeq, K.maintStatus, K.linesVisited, K.linesAffected, K.dirtyWritten, K.linesSkipped, K.maintElapsed, okey]

/-! Scrub passes. -/

/-- The state at the end of a pass, before its event: its summary, SCRUB_SEQ counted and no pass (08 R224). -/
def State.passEnded (s : State) (x : Scrub) : State :=
  { (s.scrubSummary (if x.aborted then 4 else if x.unread then 3 else 2) x (s.deviceTime - x.start)).bump K.scrubSeq with scrub := none }

/-- Beyond its summary the end of a pass does what event 19 does (08 R224). -/
theorem State.endScrub_ends {x : Scrub} (hx : s.scrub = some x) (done : x.units = [] ∨ x.aborted = true) (rows : s.scrubRuns = false)
    (writes : s.consWrites = false) : (s.passEnded x).eventsOnly s.endScrub := by
  have ends : ((x.units.isEmpty || x.aborted) && !s.scrubRuns && !s.consWrites) = true := by simp [done, rows, writes]
  simp only [State.endScrub, hx, ends, if_true]
  exact State.raiseS_eventsOnly _ _ _ _

theorem State.endScrub_none (hx : s.scrub = none) : s.endScrub = s := by
  simp only [State.endScrub, hx]

/-- A pass with units left, a row under way or a write that waits goes on (08 R224). -/
theorem State.endScrub_goesOn {x : Scrub} (hx : s.scrub = some x)
    (runs : (x.units ≠ [] ∧ x.aborted = false) ∨ s.scrubRuns = true ∨ s.consWrites = true) : s.endScrub = s := by
  have goesOn : ¬((x.units.isEmpty || x.aborted) && !s.scrubRuns && !s.consWrites) = true := by
    rcases runs with ⟨left, going⟩ | row | write
    · simp [left, going]
    · simp [row]
    · simp [write]
  simp only [State.endScrub, hx, if_neg goesOn]

/-- Writes to a list of objects leave every other object. -/
theorem State.obj_foldl_setObj_other (key val : Nat → Nat) {k : Nat} (l : List Nat) (other : ∀ c ∈ l, k ≠ key c) (s : State) :
    (l.foldl (fun s c => s.setObj (key c) (val c)) s).obj k = s.obj k := by
  induction l generalizing s with
  | nil => rfl
  | cons c l ih =>
    obtain ⟨first, rest⟩ := List.forall_mem_cons.1 other
    rw [List.foldl_cons, ih rest, State.obj_setObj_other _ _ first]

/-- The summary of a pass, but for CHIPS_IMPLICATED, which has the highest indices of it. -/
theorem State.obj_scrubSummary (s : State) (status : Nat) (x : Scrub) (elapsed : Nat) {k : Nat} (below : k < K.chipsImplicated 0) :
    (s.scrubSummary status x elapsed).obj k = ((((((s.setObj K.scrubStatus status).setObj K.rowsVisited x.visited).setObj K.scrubCe
      x.ce).setObj K.scrubUeRepaired x.repaired).setObj K.scrubUeUnrepaired x.unrepaired).setObj K.scrubElapsed elapsed).obj k := by
  refine State.obj_foldl_setObj_other K.chipsImplicated (tget 0 x.chips) _ (fun c _ => ?_) _
  simp only [K.chipsImplicated, okey] at below ⊢
  omega

/-- What the objects of a pass read at its end. -/
theorem State.obj_passEnded (s : State) (x : Scrub) :
    (s.passEnded x).obj K.scrubSeq = (s.obj K.scrubSeq + 1) % 2 ^ 32 ∧
    (s.passEnded x).obj K.scrubStatus = (if x.aborted then 4 else if x.unread then 3 else 2) ∧
    (s.passEnded x).obj K.rowsVisited = x.visited := by
  have seq : K.scrubSeq < K.chipsImplicated 0 := by decide
  have status : K.scrubStatus < K.chipsImplicated 0 := by decide
  have rows : K.rowsVisited < K.chipsImplicated 0 := by decide
  simp only [State.passEnded, State.obj_withScrub, State.bump, State.addObj_eq, State.obj_setObj, State.obj_scrubSummary _ _ _ _ seq,
    State.obj_scrubSummary _ _ _ _ status, State.obj_scrubSummary _ _ _ _ rows]
  simp [K.scrubSeq, K.scrubStatus, K.rowsVisited, K.scrubCe, K.scrubUeRepaired, K.scrubUeUnrepaired, K.scrubElapsed, okey]

/-! Patrol. -/

/-- Patrol runs in the serving modes, with an interval that is not 0 (08 R221). -/
theorem State.patrols_iff {k : Nat} : s.patrols k = true ↔ s.mode.serving = true ∧ s.dead = false ∧ s.obj k ≠ 0 := by
  simp [State.patrols, and_assoc]

/-- The rows of patrol, each with its interval and its operation (08 R221). -/
theorem exec_patrol {c : Instr} {k : Nat} {f : State → State}
    (row : (c = .patrolDcRow ∧ k = K.patrolDcInterval ∧ f = State.patrolData) ∨
      (c = .patrolTagRow ∧ k = K.patrolTagInterval ∧ f = State.patrolTags) ∨
      (c = .patrolCatRow ∧ k = K.patrolCatInterval ∧ f = State.patrolCats)) :
    exec c s = .next (s.after (if s.mode.serving = true ∧ s.dead = false ∧ s.obj k ≠ 0 then f s.begin else s.begin)) := by
  simp only [← State.patrols_iff]
  rcases row with ⟨rfl, rfl, rfl⟩ | ⟨rfl, rfl, rfl⟩ | ⟨rfl, rfl, rfl⟩
  all_goals rfl

end

/-- Settles O27: `endJob_ends` and `endScrub_ends` give the state of an end but for its event, which changes no object of a job or a pass;
what goes on, or is not there, is left as it is (log entry 7), and each row of patrol goes by `exec_patrol` (log entry 17). -/
theorem conservatorProgresses : Obligations.ConservatorProgresses := by
  unfold Obligations.ConservatorProgresses
  intro s
  have data := exec_patrol (s := s) (.inl ⟨rfl, rfl, rfl⟩)
  have tags := exec_patrol (s := s) (.inr (.inl ⟨rfl, rfl, rfl⟩))
  have cats := exec_patrol (s := s) (.inr (.inr ⟨rfl, rfl, rfl⟩))
  refine ⟨?jobEnds, ?noJob, ?jobRuns, ?passEnds, ?passWaits, ?unitsLeft, ?patrol, ?idleMode, ?noData, ?noTags, ?noCats⟩
  case jobEnds =>
    intro j hj done quiet
    have ends := State.endJob_ends (s := s.begin) hj done quiet
    have kept {k : Nat} (hk : k % 16 ≠ 9) := State.eventsOnly_obj ends hk
    obtain ⟨seq, status, visited, affected, dirty, skipped⟩ := State.obj_jobEnded s.begin j
    exact ⟨s.begin.endJob, rfl, rfl, State.eventsOnly_job ends, (kept (by decide)).trans seq, (kept (by decide)).trans status,
      (kept (by decide)).trans visited, (kept (by decide)).trans affected, (kept (by decide)).trans dirty,
      (kept (by decide)).trans skipped⟩
  case noJob => exact fun idle => exec_eq_of_effect rfl (State.endJob_none (s := s.begin) idle)
  case jobRuns => exact fun j hj runs => exec_eq_of_effect rfl (State.endJob_goesOn (s := s.begin) hj runs)
  case passEnds =>
    intro x hx done rows writes
    have ends := State.endScrub_ends (s := s.begin) hx done rows writes
    have kept {k : Nat} (hk : k % 16 ≠ 9) := State.eventsOnly_obj ends hk
    obtain ⟨seq, status, visited⟩ := State.obj_passEnded s.begin x
    exact ⟨s.begin.endScrub, rfl, State.eventsOnly_scrub ends, (kept (by decide)).trans seq, (kept (by decide)).trans status,
      (kept (by decide)).trans visited⟩
  case passWaits =>
    intro waits
    cases hx : s.scrub with
    | none => exact exec_eq_of_effect rfl (State.endScrub_none (s := s.begin) hx)
    | some x =>
      have runs : s.scrubRuns = true ∨ s.consWrites = true := waits.resolve_left (by simp [hx])
      exact exec_eq_of_effect rfl (State.endScrub_goesOn (s := s.begin) hx (.inr runs))
  case unitsLeft =>
    exact fun x hx left going => exec_eq_of_effect rfl (State.endScrub_goesOn (s := s.begin) hx (.inl ⟨left, going⟩))
  case patrol =>
    intro serving alive
    exact ⟨fun on => by rw [data, if_pos ⟨serving, alive, on⟩], fun on => by rw [tags, if_pos ⟨serving, alive, on⟩],
      fun on => by rw [cats, if_pos ⟨serving, alive, on⟩]⟩
  case idleMode =>
    intro idle
    have off (k : Nat) : ¬(s.mode.serving = true ∧ s.dead = false ∧ s.obj k ≠ 0) := by
      rcases idle with mode | dead
      · simp [mode]
      · simp [dead]
    rw [data, tags, cats, if_neg (off _), if_neg (off _), if_neg (off _)]
    exact ⟨rfl, rfl, rfl⟩
  case noData => exact fun zero => by rw [data, if_neg fun ⟨_, _, on⟩ => on zero]
  case noTags => exact fun zero => by rw [tags, if_neg fun ⟨_, _, on⟩ => on zero]
  case noCats => exact fun zero => by rw [cats, if_neg fun ⟨_, _, on⟩ => on zero]

end Sys2Proof.Machine

namespace Sys2Proof.Machine

/-! Bursts of the data channels (07 R191, R194, R197, R201, R206, R209; 06 R178). -/

/-- A channel's queues hold neither its marks nor the transactions. -/
@[simp] theorem State.modChan_marks (s : State) (c : Nat) (f : ChanSt → ChanSt) (q : Nat) : (s.modChan c f).marks q = s.marks q := rfl

@[simp] theorem State.modChan_txn (s : State) (c : Nat) (f : ChanSt → ChanSt) (id : Nat) : (s.modChan c f).txn id = s.txn id := rfl

section

variable {s : State} {c ba : Nat} {b : Burst}

/-! The reader of a burst (07 R191, R194). -/

theorem State.burstArrives_unread (unread : (s.chan c).reads.find? (fun r => r.1 == ba) = none) : s.burstArrives c ba b = s := by
  simp only [State.burstArrives, unread]

section

variable {u : State} {r : Nat × ReadWhy} (read : (s.chan c).reads.find? (fun r => r.1 == ba) = some r)
  (hu : u = s.modChan c (fun h => { h with reads := h.reads.erase r }))

include read hu

theorem State.burstArrives_unused (why : r.2 = .unused) : s.burstArrives c ba b = u.calSearch c := by
  simp only [State.burstArrives, read, why, hu]

theorem State.burstArrives_txn {id : Nat} (why : r.2 = .txn id) : s.burstArrives c ba b = (u.burstFor id c ba b).calSearch c := by
  simp only [State.burstArrives, read, why, hu]

theorem State.burstArrives_merge (why : r.2 = .merge) : s.burstArrives c ba b = (u.mergeBurst c ba b).calSearch c := by
  simp only [State.burstArrives, read, why, hu]

end

/-! The burst of a transaction (07 R197, R201; 06 R178; 08 R223). -/

theorem State.burstFor_gone {id : Nat} (gone : s.txn id = none) : s.burstFor id c ba b = s := by
  simp only [State.burstFor, gone]

theorem State.burstFor_row {id : Nat} {t : Txn} (asks : s.txn id = some t) (row : t.kind = .scrubRow ∨ t.kind = .patrolRow) :
    s.burstFor id c ba b = s.scrubBurst t c ba b := by
  simp only [State.burstFor, asks, if_pos row]

theorem State.burstFor_line {id : Nat} {t : Txn} (asks : s.txn id = some t) (scrub : t.kind ≠ .scrubRow) (patrol : t.kind ≠ .patrolRow) :
    s.burstFor id c ba b = s.txnBurst t c ba b := by
  simp only [State.burstFor, asks, if_neg (not_or.2 ⟨scrub, patrol⟩)]

section

variable {v : State} {t : Txn} {d : Line} {fixed : Bool} {chips : List Nat} (decodes : decodeBurst (s.marks c) b = some (d, fixed, chips))
  (hv : v = if fixed then s.lineCorrected c ba chips else s)

include decodes hv

/-- The data of a line that is read ends the read of its transaction (07 R197). -/
theorem State.txnBurst_read (reads : t.phase = .chanRead) : s.txnBurst t c ba b = v.finishRead { t with data := d, way := 16 } := by
  simp only [State.txnBurst, decodes, reads, hv]

/-- The data of a lost line is written back with poison (05 R156). -/
theorem State.txnBurst_poison (poisons : t.phase = .poisonRead) : s.txnBurst t c ba b = v.writePoison t d := by
  simp only [State.txnBurst, decodes, poisons, hv]

end

section

variable {v : State} {t : Txn} (fails : decodeBurst (s.marks c) b = none) (hv : v = s.lineBad c t.line t.way)

include fails hv

/-- An uncorrectable line that was to be read becomes a miss (07 R201, 06 R178). -/
theorem State.txnBurst_missed (reads : t.phase ≠ .poisonRead) : s.txnBurst t c ba b = v.putTxn { t with phase := .missed } := by
  simp only [State.txnBurst, fails, State.badBurst, if_neg reads, hv]

/-- A poison write whose line is uncorrectable takes the value of memory (05 R156, 07 R201). -/
theorem State.txnBurst_poisonMissed (poisons : t.phase = .poisonRead) : s.txnBurst t c ba b = (v.putTxn t).memRead t true := by
  simp only [State.txnBurst, fails, State.badBurst, if_pos poisons, hv]

end

/-! The burst of a merge entry (07 R206). -/

theorem State.mergeBurst_none (gone : (s.chan c).merge.find? (fun m => m.flushing && m.ba == ba) = none) : s.mergeBurst c ba b = s := by
  simp only [State.mergeBurst, gone]

section

variable {m : MergeEntry} (entry : (s.chan c).merge.find? (fun m => m.flushing && m.ba == ba) = some m)

include entry

/-- The touched beats, with the entry's bytes over the line read, go before every queued command of the address. -/
theorem State.mergeBurst_merges {w : State} {d : Line} {chips : List Nat} (decodes : decodeBurst (s.marks c) b = some (d, false, chips))
    (serves : (s.chan c).state ≠ .fenced) (hw : w = if (s.chan c).hold then s.bump (K.calStall c) else s) :
    s.mergeBurst c ba b = w.modChan c (fun h => ({ h with merge := h.merge.filter (fun x => x.ba != ba) } : ChanSt).putFirst
      { ba := ba, op := .write (touchedBeats m.mask) (overlay d m.data m.mask), who := m.who, rmw := true }) := by
  simp only [State.mergeBurst, entry, decodes, Bool.false_eq_true, if_false, if_neg serves, hw]

theorem State.mergeBurst_repairs (fails : decodeBurst (s.marks c) b = none) : s.mergeBurst c ba b = s.repairAt c ba := by
  simp only [State.mergeBurst, entry, fails]

end

end

/-- Settles O51: `burstArrives` hands the burst to the reader found, and each clause is that reader's lemma at the state `u` without the
read. A burst that nobody reads changes nothing, which is the model's choice (log entry 7). -/
theorem burstsAreDecodedForTheirReader : Obligations.BurstsAreDecodedForTheirReader := by
  unfold Obligations.BurstsAreDecodedForTheirReader
  intro s c ba b
  have arrives {t : State} (h : s.begin.burstArrives c ba.toNat b = t) : exec (.dcReadComplete c ba b) s = .next (s.after t) :=
    exec_eq_of_effect rfl h
  refine ⟨fun unread => arrives (State.burstArrives_unread unread), fun r u read hu => ?_⟩
  have read : (s.begin.chan c).reads.find? _ = some r := read
  have marks : u.marks c = s.marks c := by rw [hu, State.modChan_marks]; rfl
  have txns (id : Nat) : u.txn id = s.txn id := by rw [hu, State.modChan_txn]; rfl
  have reader {id : Nat} {t' : State} (why : r.2 = .txn id) (h : u.burstFor id c ba.toNat b = t') :
      exec (.dcReadComplete c ba b) s = .next (s.after (t'.calSearch c)) :=
    h ▸ arrives (State.burstArrives_txn read hu why)
  refine ⟨fun why => arrives (State.burstArrives_unused read hu why),
    fun id why gone => reader why (State.burstFor_gone ((txns id).trans gone)), fun id t why asks => ?txn, fun why => ?merge⟩
  case txn =>
    rw [← txns id] at asks
    refine ⟨fun row => reader why (State.burstFor_row asks row), fun scrub patrol => ?_⟩
    have line := State.burstFor_line (c := c) (ba := ba.toNat) (b := b) asks scrub patrol
    rw [← marks]
    exact ⟨fun d fixed chips v decodes hv => ⟨fun reads => reader why (line.trans (State.txnBurst_read decodes hv reads)),
        fun poisons => reader why (line.trans (State.txnBurst_poison decodes hv poisons))⟩,
      fun fails v hv => ⟨fun reads => reader why (line.trans (State.txnBurst_missed fails hv reads)),
        fun poisons => reader why (line.trans (State.txnBurst_poisonMissed fails hv poisons))⟩⟩
  case merge =>
    have merged {t' : State} (h : u.mergeBurst c ba.toNat b = t') :
        exec (.dcReadComplete c ba b) s = .next (s.after (t'.calSearch c)) :=
      h ▸ arrives (State.burstArrives_merge read hu why)
    have buffer : (u.chan c).merge = (s.chan c).merge := by simp [hu]
    have holds : (u.chan c).hold = (s.chan c).hold := by simp [hu]
    have mode : (u.chan c).state = (s.chan c).state := by simp [hu]
    rw [← marks, ← buffer, ← holds, ← mode]
    exact ⟨fun gone => merged (State.mergeBurst_none gone), fun m entry =>
      ⟨fun d chips w decodes serves hw => merged (State.mergeBurst_merges entry decodes serves hw),
        fun fails => merged (State.mergeBurst_repairs entry fails)⟩⟩

end Sys2Proof.Machine

namespace Sys2Proof.Machine

/-! Calibration (07 R207 to R210; 14 R371). -/

section

variable {s : State} {c : Nat} {r : CalResult}

/-! The start of a background calibration (14 R371; 07 R209). -/

theorem State.calStarts_idle (idle : (s.chan c).calDue = false ∨ (s.chan c).hold = true ∨ s.chanServes c = false) (forced : Bool) :
    s.calStarts c r forced = s := by
  rcases idle with rests | holds | away
  · simp [State.calStarts, rests]
  · simp [State.calStarts, holds]
  · simp [State.calStarts, away]

section

variable (serves : s.chanServes c = true) (due : (s.chan c).calDue = true) (free : (s.chan c).hold = false)

include serves due free

theorem State.calStarts_forced : s.calStarts c r true = (s.bump K.calForced).backgroundCal c r := by
  simp [State.calStarts, serves, due, free]

theorem State.calStarts_slot (reads : (s.chan c).reads = []) (queue : (s.chan c).queue = []) :
    s.calStarts c r false = s.backgroundCal c r := by
  simp [State.calStarts, serves, due, free, reads, queue]

end

/-- A channel with commands queued or in flight has no idle slot. -/
theorem State.calStarts_busy (busy : (s.chan c).reads ≠ [] ∨ (s.chan c).queue ≠ []) : s.calStarts c r false = s := by
  have full : ((s.chan c).reads.isEmpty && (s.chan c).queue.isEmpty) = false := by
    rw [Bool.and_eq_false_iff, List.isEmpty_eq_false_iff, List.isEmpty_eq_false_iff]
    exact busy
  simp [State.calStarts, full]

/-- The search waits for the reads in flight (07 R209 step 1). -/
theorem State.calSearch_waits (reads : (s.chan c).reads ≠ []) : s.calSearch c = s := by
  cases finds : (s.chan c).calFinds with
  | none => simp only [State.calSearch, finds]
  | some r => simp [State.calSearch, finds, reads]

/-! The end of a hold (07 R209 step 6, R210; 14 R371). -/

/-- CAL_LONGEST is the longest hold so far (14 R371). -/
def State.keepLongest (s : State) (c ticks : Nat) : State :=
  if s.obj (K.calLongest c) < ticks then s.setObj (K.calLongest c) ticks else s

/-- The state at the end of a hold, counted and its length kept, before the references are taken. -/
def State.holdCounted (s : State) (c ticks : Nat) : State :=
  ((s.modChan c (fun h => { h with hold := false })).bump (K.calRuns c)).keepLongest c ticks

/-- Once the references are taken, the merge triggers that fell due in the hold are acted on (07 R210). -/
theorem State.holdEnds_counted (hold : (s.chan c).hold = true) (searched : (s.chan c).calFinds = none) (ticks : Nat) :
    s.holdEnds c ticks = ((s.holdCounted c ticks).calReference c).flushDue c := by
  have ends : ¬(!(s.chan c).hold || (s.chan c).calFinds.isSome) = true := by simp [hold, searched]
  rw [State.holdEnds, if_neg ends]
  rfl

/-- Nothing ends on a channel without a hold, or before its search. -/
theorem State.holdEnds_idle (idle : (s.chan c).hold = false ∨ (s.chan c).calFinds ≠ none) (ticks : Nat) : s.holdEnds c ticks = s := by
  refine if_pos ?_
  rcases idle with free | searches
  · simp [free]
  · simp [Option.isSome_iff_ne_none.2 searches]

theorem State.keepLongest_obj_same (s : State) (c ticks : Nat) :
    (s.keepLongest c ticks).obj (K.calLongest c) = max (s.obj (K.calLongest c)) ticks := by
  unfold State.keepLongest
  split
  · rw [State.obj_setObj_same]
    omega
  · omega

theorem State.keepLongest_obj_other (s : State) {c k : Nat} (ticks : Nat) (other : k ≠ K.calLongest c) :
    (s.keepLongest c ticks).obj k = s.obj k := by
  unfold State.keepLongest
  split
  · exact State.obj_setObj_other _ _ other
  · rfl

@[simp] theorem State.keepLongest_chan (s : State) (c ticks q : Nat) : (s.keepLongest c ticks).chan q = s.chan q := by
  unfold State.keepLongest
  split
  · exact State.setObj_chan _ _ _ _
  · rfl

@[simp] theorem State.keepLongest_deviceTime (s : State) (c ticks : Nat) : (s.keepLongest c ticks).deviceTime = s.deviceTime := by
  unfold State.keepLongest
  split
  · exact State.setObj_deviceTime _ _ _
  · rfl

/-- The end of a hold writes CAL_RUNS and CAL_LONGEST of its channel and no other object. -/
theorem State.holdCounted_obj_other (s : State) {c k : Nat} (ticks : Nat) (runs : k ≠ K.calRuns c) (longest : k ≠ K.calLongest c) :
    (s.holdCounted c ticks).obj k = s.obj k := by
  rw [State.holdCounted, State.keepLongest_obj_other _ _ longest, State.bump_eq, State.addObj_eq, State.obj_setObj_other _ _ runs,
    State.modChan_obj]

theorem State.holdCounted_calRuns (s : State) (c ticks : Nat) :
    (s.holdCounted c ticks).obj (K.calRuns c) = (s.obj (K.calRuns c) + 1) % 0x100000000 := by
  have other : K.calRuns c ≠ K.calLongest c := by simp only [K.calRuns, K.calLongest, okey]; omega
  rw [State.holdCounted, State.keepLongest_obj_other _ _ other, State.bump_eq, State.addObj_eq, State.obj_setObj_same, State.modChan_obj]

theorem State.holdCounted_calLongest (s : State) (c ticks : Nat) :
    (s.holdCounted c ticks).obj (K.calLongest c) = max (s.obj (K.calLongest c)) ticks := by
  have other : K.calLongest c ≠ K.calRuns c := by simp only [K.calRuns, K.calLongest, okey]; omega
  rw [State.holdCounted, State.keepLongest_obj_same, State.bump_eq, State.addObj_eq, State.obj_setObj_other _ _ other, State.modChan_obj]

@[simp] theorem State.holdCounted_chan (s : State) (c ticks : Nat) :
    (s.holdCounted c ticks).chan c = { s.chan c with hold := false } := by
  simp [State.holdCounted]

@[simp] theorem State.holdCounted_deviceTime (s : State) (c ticks : Nat) : (s.holdCounted c ticks).deviceTime = s.deviceTime := by
  simp [State.holdCounted]

@[simp] theorem State.calReference_obj (s : State) (c k : Nat) : (s.calReference c).obj k = s.obj k := State.modChan_obj _ _ _ _

/-- The channel is free again, and its references are the time and the sensors' values of now; a trigger of the hold stays due. -/
theorem State.holdCounted_references (s : State) (c : Chan) (ticks : Nat) :
    ((s.holdCounted c ticks).calReference c).chan c = { s.chan c with
      hold := false, refTime := s.deviceTime, refTemp := s.obj (K.temp (8 + c)), refVolt := s.obj (K.volt 7) } := by
  have temp : (s.holdCounted c ticks).obj (K.temp (8 + c)) = s.obj (K.temp (8 + c)) := by
    refine State.holdCounted_obj_other s ticks ?_ ?_
    all_goals
      simp only [K.temp, K.calRuns, K.calLongest, okey]
      omega
  have volt : (s.holdCounted c ticks).obj (K.volt 7) = s.obj (K.volt 7) := by
    refine State.holdCounted_obj_other s ticks ?_ ?_
    all_goals
      simp only [K.volt, K.calRuns, K.calLongest, okey]
      omega
  simp [State.calReference, temp, volt]

/-! The end of a full calibration (07 R208). -/

/-- The state once the settings are found and the failing chips marked; three of them fence the channel as well (07 R200, R208). -/
theorem State.fullCalEnds_done {u v : State} (calibrates : (s.chan c).state = .calibrating) (powered : s.pd 10 = true)
    (hu : u = ((s.setObj (K.dcReadLatency c) r.latency.toNat).chipSettings c r true).modChan c
      (fun h => { h with state := .serving, dllen := true }))
    (hv : v = u.markFailing c (s.failingChips c r true)) :
    s.fullCalEnds c r =
      ((if 3 ≤ (s.failingChips c r true).length then v.fenceChan c else v).calReference c).calSettled := by
  have ends : ¬((s.chan c).state ≠ .calibrating ∨ (!s.pd 10) = true) := by simp [calibrates, powered]
  rw [State.fullCalEnds, if_neg ends, hv, hu]

theorem State.fullCalEnds_idle (idle : (s.chan c).state ≠ .calibrating ∨ s.pd 10 = false) : s.fullCalEnds c r = s :=
  if_pos (idle.imp_right (by simp))

end

/-- Settles O36: each row is its own operation at `s.begin`, by the lemma for its case, the end of a hold by what `holdCounted` makes of the
channel and its objects. That an event without its condition changes nothing is the model's choice (log entry 7), and so are the settings
that a search finds, its restoring write and the moment at which DLLEN rises (log entry 79). -/
theorem calibrationActs : Obligations.CalibrationActs := by
  unfold Obligations.CalibrationActs
  intro s c r
  refine ⟨?due, ?notDue, fun serves due free => ⟨?forced, ?slot, ?busy⟩, ?idle, ?holdEnds, ?noHold, ?full, ?noFull⟩
  case due => exact fun serves => exec_eq_of_effect rfl (if_pos serves)
  case notDue => exact fun away => exec_eq_of_effect rfl (if_neg (ne_true_of_eq_false away))
  case forced =>
    rintro u rfl
    have starts := State.calStarts_forced (s := s.begin) (r := r) serves due free
    refine ⟨fun _ => exec_eq_of_effect rfl starts, fun reads => exec_eq_of_effect rfl (starts.trans (State.calSearch_waits ?_))⟩
    simpa using reads
  case slot => exact fun reads queue => exec_eq_of_effect rfl (State.calStarts_slot (s := s.begin) serves due free reads queue)
  case busy => exact fun busy => exec_eq_of_effect rfl (State.calStarts_busy (s := s.begin) busy)
  case idle =>
    exact fun idle => ⟨exec_eq_of_effect rfl (State.calStarts_idle (s := s.begin) idle true),
      exec_eq_of_effect rfl (State.calStarts_idle (s := s.begin) idle false)⟩
  case holdEnds =>
    intro ticks hold searched
    have chan := State.holdCounted_references s.begin c ticks.toNat
    refine ⟨_, (s.begin.holdCounted c ticks.toNat).calReference c,
      exec_eq_of_effect rfl (State.holdEnds_counted (s := s.begin) hold searched _), rfl, ?_, ?_, ?_, ?_, ?_,
      (State.calReference_obj _ _ _).trans (State.holdCounted_calRuns _ _ _),
      (State.calReference_obj _ _ _).trans (State.holdCounted_calLongest _ _ _)⟩
    all_goals simp only [chan, State.begin_chan, State.begin_obj, State.begin_deviceTime]
  case noHold => exact fun ticks idle => exec_eq_of_effect rfl (State.holdEnds_idle (s := s.begin) idle _)
  case full =>
    intro calibrates powered
    have ends := State.fullCalEnds_done (s := s.begin) (r := r) calibrates powered rfl rfl
    refine ⟨_, _, _, exec_eq_of_effect rfl ends, rfl, rfl, fun few => ?_, fun many => ?_⟩
    · exact congrArg (fun x => (State.calReference x c).calSettled) (if_neg (Nat.not_le.2 few))
    · exact congrArg (fun x => (State.calReference x c).calSettled) (if_pos many)
  case noFull => exact fun idle => exec_eq_of_effect rfl (State.fullCalEnds_idle (s := s.begin) idle)

end Sys2Proof.Machine

namespace Sys2Proof.Machine

/-! The Hsiao code of the internal arrays (08 R214, R215). -/

/-- The columns of the check bits (08 R214). -/
def checkColumns : List (BitVec 7) := [0x01, 0x02, 0x04, 0x08, 0x10, 0x20, 0x40]

/-- Check bit j has the column of weight 1 whose bit j is 1. -/
theorem checkColumns_eq : checkColumns = (List.range 7).map (fun j => BitVec.ofNat 7 (2 ^ j)) := by decide

/-- The columns of the bits of a stored word, data bits first. -/
def wordColumns : List (BitVec 7) := dataColumns ++ checkColumns

theorem wordColumns_data {i : Nat} (hi : i < 32) : wordColumns[i]? = dataColumns[i]? := List.getElem?_append_left hi

theorem wordColumns_check (j : Nat) : wordColumns[32 + j]? = checkColumns[j]? := by
  have length : dataColumns.length = 32 := rfl
  rw [wordColumns, ← length, List.getElem?_append_right (Nat.le_add_right _ j), Nat.add_sub_cancel_left]

/-- Is the weight of a syndrome odd? -/
def oddWeight (x : BitVec 7) : Bool := (List.range 7).foldr (fun i p => x.getLsbD i ^^ p) false

theorem wordColumns_nodup : wordColumns.Nodup := by decide

theorem zero_notMem_wordColumns : 0 ∉ wordColumns := by decide

theorem oddWeight_of_mem_wordColumns {x : BitVec 7} (column : x ∈ wordColumns) : oddWeight x = true := by
  revert x
  decide

theorem oddWeight_xor (x y : BitVec 7) : oddWeight (x ^^^ y) = (oddWeight x ^^ oddWeight y) := by
  unfold oddWeight
  induction List.range 7 with
  | nil => rfl
  | cons i l ih =>
    simp only [List.foldr_cons, ih]
    simp only [BitVec.getLsbD_xor, Bool.xor_assoc, Bool.xor_left_comm]

/-- The position of a column in a list that has it once. -/
theorem positionFrom_of_getElem? {x : BitVec 7} {l : List (BitVec 7)} (once : l.Nodup) {i : Nat} (at_i : l[i]? = some x) (n : Nat) :
    positionFrom x l n = some (n + i) := by
  induction l generalizing i n with
  | nil => simp at at_i
  | cons c l ih =>
    obtain ⟨fresh, rest⟩ := List.nodup_cons.1 once
    cases i with
    | zero => simp_all [positionFrom]
    | succ i =>
      rw [List.getElem?_cons_succ] at at_i
      have later : c ≠ x := fun same => fresh (same ▸ List.mem_of_getElem? at_i)
      rw [positionFrom, if_neg later, ih rest at_i, Nat.add_right_comm, Nat.add_assoc]

theorem positionFrom_eq_none {x : BitVec 7} {l : List (BitVec 7)} (absent : x ∉ l) (n : Nat) : positionFrom x l n = none := by
  induction l generalizing n with
  | nil => rfl
  | cons c l ih =>
    obtain ⟨other, rest⟩ := not_or.1 (List.mem_cons.not.1 absent)
    rw [positionFrom, if_neg (Ne.symm other), ih rest]

section

variable {w : Stored}

theorem decodeWord_of_clean (clean : syndrome w = 0) : decodeWord w = .clean (storedData w) := if_pos clean

theorem decodeWord_of_data {i : Nat} (column : dataColumns[i]? = some (syndrome w)) :
    decodeWord w = .corrected (storedData w ^^^ BitVec.ofNat 32 (2 ^ i)) i := by
  have mem := List.mem_of_getElem? column
  have nonzero : syndrome w ≠ 0 := fun zero => zero_notMem_wordColumns (List.mem_append_left _ (zero ▸ mem))
  have position := positionFrom_of_getElem? (List.nodup_append.1 wordColumns_nodup).1 column 0
  rw [Nat.zero_add] at position
  simp only [decodeWord, if_neg nonzero, position]

theorem decodeWord_of_check {j : Nat} (column : checkColumns[j]? = some (syndrome w)) :
    decodeWord w = .corrected (storedData w) (32 + j) := by
  have mem := List.mem_of_getElem? column
  obtain ⟨-, once, apart⟩ := List.nodup_append.1 wordColumns_nodup
  have nonzero : syndrome w ≠ 0 := fun zero => zero_notMem_wordColumns (List.mem_append_right _ (zero ▸ mem))
  have noData : syndrome w ∉ dataColumns := fun data => apart _ data _ mem rfl
  have position := positionFrom_of_getElem? once column 0
  rw [Nat.zero_add, checkColumns] at position
  simp only [decodeWord, if_neg nonzero, positionFrom_eq_none noData, position]

theorem decodeWord_of_neither (nonzero : syndrome w ≠ 0) (noColumn : syndrome w ∉ wordColumns) : decodeWord w = .uncorrectable := by
  obtain ⟨noData, noCheck⟩ := not_or.1 (List.mem_append.not.1 noColumn)
  rw [checkColumns] at noCheck
  simp only [decodeWord, if_neg nonzero, positionFrom_eq_none noData, positionFrom_eq_none noCheck]

end

/-! The code is linear, so what an error does to a word does not depend on the word. -/

/-- The XOR of columns over the sum of two words. -/
theorem columnSum_xor (cs : List (BitVec 7)) (n : Nat) (d e : Word) :
    columnSum cs n (d ^^^ e) = columnSum cs n d ^^^ columnSum cs n e := by
  induction cs generalizing n with
  | nil => simp [columnSum]
  | cons c cs ih =>
    have column : (if (d ^^^ e).getLsbD n then c else 0) = (if d.getLsbD n then c else 0) ^^^ (if e.getLsbD n then c else 0) := by
      cases hd : d.getLsbD n <;> cases he : e.getLsbD n <;> simp [hd, he]
    simp only [columnSum, ih, column]
    ac_rfl

theorem storedData_xor (v w : Stored) : storedData (v ^^^ w) = storedData v ^^^ storedData w := BitVec.extractLsb'_xor

theorem storedCheck_xor (v w : Stored) : storedCheck (v ^^^ w) = storedCheck v ^^^ storedCheck w := BitVec.extractLsb'_xor

theorem syndrome_xor (v w : Stored) : syndrome (v ^^^ w) = syndrome v ^^^ syndrome w := by
  simp only [syndrome, checkBits, storedData_xor, storedCheck_xor, columnSum_xor]
  ac_rfl

@[simp] theorem storedData_encodeWord (d : Word) : storedData (encodeWord d) = d := BitVec.extractLsb'_append_eq_right

@[simp] theorem storedCheck_encodeWord (d : Word) : storedCheck (encodeWord d) = checkBits d := BitVec.extractLsb'_append_eq_left

@[simp] theorem syndrome_encodeWord (d : Word) : syndrome (encodeWord d) = 0 := by
  simp [syndrome]

/-- A word reads as it was written (08 R214, R215). -/
theorem decodeWord_encodeWord (d : Word) : decodeWord (encodeWord d) = .clean d := by
  rw [decodeWord_of_clean (syndrome_encodeWord d), storedData_encodeWord]

/-- An error of one bit. -/
def bitError (i : Nat) : Stored := BitVec.ofNat 39 (2 ^ i)

/-- The syndrome of a written word with an error is the one of the error. -/
theorem syndrome_error (d : Word) (e : Stored) : syndrome (encodeWord d ^^^ e) = syndrome e := by
  simp [syndrome_xor]

theorem syndrome_bitError {i : Nat} (hi : i < 39) : wordColumns[i]? = some (syndrome (bitError i)) := by
  revert i
  decide

theorem storedData_bitError {i : Nat} (hi : i < 32) : storedData (bitError i) = BitVec.ofNat 32 (2 ^ i) := by
  revert i
  decide

theorem storedData_bitError_check {j : Nat} (hj : j < 7) : storedData (bitError (32 + j)) = 0#32 := by
  revert j
  decide

/-- Every single-bit error of a written word is corrected at its place (08 R215). -/
theorem decodeWord_singleError (d : Word) {i : Nat} (hi : i < 39) : decodeWord (encodeWord d ^^^ bitError i) = .corrected d i := by
  have column := syndrome_bitError hi
  rw [← syndrome_error d] at column
  rcases Nat.lt_or_ge i 32 with data | check
  · rw [wordColumns_data data] at column
    rw [decodeWord_of_data column, storedData_xor, storedData_bitError data, storedData_encodeWord, BitVec.xor_assoc, BitVec.xor_self,
      BitVec.xor_zero]
  · obtain ⟨j, rfl⟩ := Nat.exists_eq_add_of_le check
    rw [wordColumns_check] at column
    rw [decodeWord_of_check column, storedData_xor, storedData_bitError_check (by omega), storedData_encodeWord, BitVec.xor_zero]

/-- Every double-bit error of a written word has a syndrome of even weight that is not 0, and is detected (08 R215). -/
theorem decodeWord_doubleError (d : Word) {i j : Nat} (hij : i < j) (hj : j < 39) :
    decodeWord (encodeWord d ^^^ bitError i ^^^ bitError j) = .uncorrectable := by
  have column_i := syndrome_bitError (Nat.lt_trans hij hj)
  have column_j := syndrome_bitError hj
  have both : syndrome (encodeWord d ^^^ bitError i ^^^ bitError j) = syndrome (bitError i) ^^^ syndrome (bitError j) := by
    rw [syndrome_xor, syndrome_error]
  have inRange : i < wordColumns.length := Nat.lt_trans hij hj
  have differ : syndrome (bitError i) ≠ syndrome (bitError j) := fun same =>
    Nat.ne_of_lt hij ((List.getElem?_inj inRange wordColumns_nodup).1 (column_i.trans (same ▸ column_j.symm)))
  have even : oddWeight (syndrome (bitError i) ^^^ syndrome (bitError j)) = false := by
    have odd_i := oddWeight_of_mem_wordColumns (List.mem_of_getElem? column_i)
    have odd_j := oddWeight_of_mem_wordColumns (List.mem_of_getElem? column_j)
    rw [oddWeight_xor, odd_i, odd_j, Bool.xor_self]
  refine decodeWord_of_neither ?_ ?_
  · rw [both]
    exact fun zero => differ (BitVec.xor_eq_zero_iff.1 zero)
  · rw [both]
    exact fun column => Bool.false_ne_true (even.symm.trans (oddWeight_of_mem_wordColumns column))

/-- Settles O8: the syndrome is looked up in lists of different columns; it is linear, so a written word shows its error alone, and as every
column has odd weight two of them make no column. -/
theorem syndromeDecidesTheOutcome : Obligations.SyndromeDecidesTheOutcome := by
  unfold Obligations.SyndromeDecidesTheOutcome
  refine ⟨fun w => ⟨decodeWord_of_clean, fun i => decodeWord_of_data, fun j hj weightOne => ?_, fun nonzero noData noCheck => ?_⟩,
    fun d => ⟨decodeWord_encodeWord d, fun i => decodeWord_singleError d, fun i j => decodeWord_doubleError d⟩⟩
  · exact decodeWord_of_check (by simp [checkColumns_eq, hj, weightOne])
  · refine decodeWord_of_neither nonzero fun column => ?_
    rcases List.mem_append.1 column with data | check
    · exact noData data
    · obtain ⟨j, hj, weightOne⟩ := List.mem_map.1 (checkColumns_eq ▸ check)
      exact noCheck j (List.mem_range.1 hj) weightOne.symm

end Sys2Proof.Machine

namespace Sys2Proof.Machine

/-! Words of the internal arrays (08 R213). -/

/-- Places of words do not overlap: the unit takes 8 bits and the address 16. -/
theorem akey_inj {a u w a' u' w' : Nat} (hu : u < 256) (hw : w < 65536) (hu' : u' < 256) (hw' : w' < 65536)
    (same : akey a' u' w' = akey a u w) : (a', u', w') = (a, u, w) := by
  simp only [akey] at same
  simp only [Prod.mk.injEq]
  omega

/-- A word read after a write of it or of another. -/
theorem State.word_setRaw (s : State) (a u w : Nat) (v : Stored) (a' u' w' : Nat) :
    (s.setRaw a u w v).word a' u' w' = if akey a' u' w' = akey a u w then v else s.word a' u' w' := by
  simp only [State.word, State.setRaw, tget_tset_any]
  split
  · next same =>
    rw [same]
    split
    · next default => exact default.symm
    · rfl
  · rfl

/-- Settles O9: `word_setRaw` at the word's own place and, as places do not overlap, at every other; the code gives the word back. -/
theorem arrayWordReadsAsWritten : Obligations.ArrayWordReadsAsWritten := by
  unfold Obligations.ArrayWordReadsAsWritten
  intro s a u w d hu hw
  refine ⟨?own, fun a' u' w' hu' hw' other => ?other, arraysWf_setRaw s a u w (encodeWord d)⟩
  case own => rw [State.setWord, State.word_setRaw, if_pos rfl, decodeWord_encodeWord]
  case other => rw [State.setWord, State.word_setRaw, if_neg (mt (akey_inj hu hw hu' hw') other)]

end Sys2Proof.Machine

namespace Sys2Proof.Machine

/-! Direct access to the arrays 0 to 3 (08 R225, R226). -/

/-- The result code of a READ by what the word shows (08 R226). -/
def WordRead.diagCode : WordRead → Nat
  | .clean _ => 0
  | .corrected _ i => if i < 32 then 1 else 2
  | .uncorrectable => 3

/-- The bit that a READ names, where there is one (08 R226). -/
def WordRead.diagBit : WordRead → Option Nat
  | .corrected _ i => some i
  | .clean _ | .uncorrectable => none

section

variable {s : State}

/-- The three fields of a word as DIAG_DATA, DIAG_CHECK and DIAG_SYNDROME show them. -/
def State.wordShown (s : State) (w : Stored) : State :=
  ((s.setObj K.diagData (storedData w).toNat).setObj K.diagCheck (storedCheck w).toNat).setObj K.diagSyndrome (syndrome w).toNat

theorem State.diagWordRead_eq (w : Stored) :
    s.diagWordRead w = (s.wordShown w).diagFinds (decodeWord w).diagCode (decodeWord w).diagBit := by
  unfold State.diagWordRead
  cases decodeWord w <;> rfl

@[simp] theorem State.diagFinds_arrays (r : Nat) (bit : Option Nat) : (s.diagFinds r bit).arrays = s.arrays := by
  cases bit <;> rfl

theorem State.diagFinds_obj_other {k : Nat} (result : k ≠ K.diagResult) (place : k ≠ K.diagBit) (r : Nat) (bit : Option Nat) :
    (s.diagFinds r bit).obj k = s.obj k := by
  cases bit with
  | none => exact State.obj_setObj_other _ _ result
  | some i => exact (State.obj_setObj_other _ _ place).trans (State.obj_setObj_other _ _ result)

@[simp] theorem State.diagFinds_result (r : Nat) (bit : Option Nat) : (s.diagFinds r bit).obj K.diagResult = r := by
  cases bit with
  | none => exact State.obj_setObj_same _ _ _
  | some i => exact (State.obj_setObj_other _ _ (by decide)).trans (State.obj_setObj_same _ _ _)

@[simp] theorem State.diagFinds_bit (r i : Nat) : (s.diagFinds r (some i)).obj K.diagBit = i := State.obj_setObj_same _ _ _

/-- What a READ shows of a word, and that it changes no array. -/
theorem State.diagWordRead_shows (w : Stored) :
    (s.diagWordRead w).obj K.diagData = (storedData w).toNat ∧ (s.diagWordRead w).obj K.diagCheck = (storedCheck w).toNat ∧
    (s.diagWordRead w).obj K.diagSyndrome = (syndrome w).toNat ∧ (s.diagWordRead w).arrays = s.arrays := by
  rw [State.diagWordRead_eq]
  refine ⟨?_, ?_, ?_, State.diagFinds_arrays _ _⟩
  all_goals
    rw [State.diagFinds_obj_other (by decide) (by decide)]
    simp [State.wordShown, State.obj_setObj, K.diagData, K.diagCheck, K.diagSyndrome, okey]

/-- The code and the bit that a READ answers. -/
theorem State.diagWordRead_finds (w : Stored) :
    (s.diagWordRead w).obj K.diagResult = (decodeWord w).diagCode ∧
    (∀ i, (decodeWord w).diagBit = some i → (s.diagWordRead w).obj K.diagBit = i) := by
  rw [State.diagWordRead_eq]
  exact ⟨State.diagFinds_result _ _, fun i names => names ▸ State.diagFinds_bit _ _⟩

@[simp] theorem State.free_obj (s : State) (k : Nat) : s.free.1.obj k = s.obj k := rfl

@[simp] theorem State.free_diagRefused (s : State) (op : Nat) : s.free.1.diagRefused op = s.diagRefused op := rfl

section

variable (internal : s.obj K.diagArray < 4)

include internal

/-- DIAG_GO with a READ of a word. -/
theorem State.diagStart_read (op : s.obj K.diagOp = 1) (granted : s.diagRefused 1 = false) (b : Beat) :
    s.diagStart { beat := some b } = s.diagWordRead (s.word (s.obj K.diagArray) (s.obj K.diagUnit) (s.obj K.diagAddr)) := by
  have noBeat : s.obj K.diagArray ≠ 5 := by omega
  have noMeta : s.obj K.diagArray ≠ 4 := by omega
  simp [State.diagStart, State.diagGo, op, granted, noBeat, noMeta]

/-! A write draws the beat that no operand gives, and leaves it unused (log entry 3). -/

theorem State.diagStart_write (op : s.obj K.diagOp = 2) (granted : s.diagRefused 2 = false) :
    s.diagStart {} =
      s.free.1.setWord (s.obj K.diagArray) (s.obj K.diagUnit) (s.obj K.diagAddr) (BitVec.ofNat 32 (s.obj K.diagData)) := by
  have noBeat : s.obj K.diagArray ≠ 5 := by omega
  simp [State.diagStart, State.freeBeat, State.diagGo, op, granted, noBeat]

theorem State.diagStart_writeRaw (op : s.obj K.diagOp = 3) (granted : s.diagRefused 3 = false) :
    s.diagStart {} = s.free.1.setRaw (s.obj K.diagArray) (s.obj K.diagUnit) (s.obj K.diagAddr)
      (BitVec.ofNat 7 (s.obj K.diagCheck) ++ BitVec.ofNat 32 (s.obj K.diagData)) := by
  have noBeat : s.obj K.diagArray ≠ 5 := by omega
  simp [State.diagStart, State.freeBeat, State.diagGo, op, granted, noBeat]

/-- The journal entry of DIAG_GO does not decide whether an access to the arrays 0 to 3 is refused: their sizes are fixed. -/
theorem noted_diagRefused (src : Src) (k v op : Nat) : (s.noted src k v).diagRefused op = s.diagRefused op := by
  have noBeat : s.obj K.diagArray ≠ 5 := by omega
  have size : (s.noted src k v).diagSize (s.obj K.diagArray) = s.diagSize (s.obj K.diagArray) := by
    generalize s.obj K.diagArray = a at internal
    interval_cases a <;> rfl
  simp only [State.diagRefused, noted_obj, if_neg noBeat, size]

end

/-- A refused access (08 R225). -/
theorem State.diagStart_refused (refused : s.diagRefused (s.obj K.diagOp) = true) :
    s.diagStart {} = s.free.1.setObj K.diagResult 0xFF :=
  if_pos refused

@[simp] theorem noted_word (src : Src) (k v a u w : Nat) : (s.noted src k v).word a u w = s.word a u w := by
  obtain ⟨n, h⟩ := noted_frame s src k v
  rw [h]
  rfl

@[simp] theorem noted_arrays (src : Src) (k v : Nat) : (s.noted src k v).arrays = s.arrays := by
  obtain ⟨n, h⟩ := noted_frame s src k v
  rw [h]

/-- A row of DIAG_GO is one accepted write, whose effect is the operation on the journalled state (08 R225). -/
theorem exec_diagGo {c : Instr} {src : Src} {x : Extras} {t : State} (writes : s.registerWrite c = some (src, K.diagGo, 1, x))
    (accepted : s.accepts src K.diagGo 1) (acts : (s.noted src K.diagGo 1).diagStart x = t) :
    exec c s = .next (s.after (t.saysOk s src K.diagGo)) :=
  exec_eq_of_accepted writes accepted row_diagGo (by decide) (by decide) (by decide) ((effect_diagGo _ src _).trans acts)

end

/-! The clears of the logs (08 R220; 13 R346). -/

/-- A bit that is 1, taken off its number, is 0. -/
theorem testBit_sub_two_pow {v i : Nat} (one : v.testBit i = true) : (v - 2 ^ i).testBit i = false := by
  have whole : 2 ^ i + (v - 2 ^ i) = v := Nat.add_sub_of_le (Nat.ge_two_pow_of_testBit one)
  have flips := Nat.testBit_two_pow_add_eq (v - 2 ^ i) i
  rw [whole, one] at flips
  simpa using flips.symm

theorem State.setObjBit_frame (s : State) (k i : Nat) (b : Bool) : s.setObjBit k i b = { s with objs := (s.setObjBit k i b).objs } := by
  simp only [State.setObjBit]
  split <;> rfl

theorem State.obj_setObjBit_other (s : State) {k j : Nat} (other : j ≠ k) (i : Nat) (b : Bool) : (s.setObjBit k i b).obj j = s.obj j := by
  simp only [State.setObjBit]
  split
  · rfl
  · exact State.obj_setObj_other _ _ other

/-- A bit that is cleared reads 0. -/
theorem State.objBit_setObjBit_clear (s : State) (k i : Nat) : (s.setObjBit k i false).objBit k i = false := by
  simp only [State.setObjBit]
  split
  · next zero => exact zero
  · next one =>
    rw [State.objBit, State.obj_setObj_same]
    exact testBit_sub_two_pow (by simpa using one)

/-- Bit i cleared in the object of every entry of a list, as a log is cleared. -/
def State.clearEntries (s : State) (key : Nat → Nat) (i : Nat) (l : List Nat) : State :=
  l.foldl (fun s e => s.setObjBit (key e) i false) s

section

variable {key : Nat → Nat} {i : Nat} {l : List Nat}

theorem State.clearEntries_frame (s : State) : s.clearEntries key i l = { s with objs := (s.clearEntries key i l).objs } := by
  induction l generalizing s with
  | nil => rfl
  | cons e l ih =>
    calc (s.setObjBit (key e) i false).clearEntries key i l
      _ = { s.setObjBit (key e) i false with objs := ((s.setObjBit (key e) i false).clearEntries key i l).objs } := ih _
      _ = { s with objs := ((s.setObjBit (key e) i false).clearEntries key i l).objs } := by rw [State.setObjBit_frame]

theorem State.obj_clearEntries_other (s : State) {k : Nat} (other : ∀ e ∈ l, k ≠ key e) : (s.clearEntries key i l).obj k = s.obj k := by
  induction l generalizing s with
  | nil => rfl
  | cons e l ih =>
    obtain ⟨first, rest⟩ := List.forall_mem_cons.1 other
    exact (ih _ rest).trans (State.obj_setObjBit_other s first i false)

/-- A bit that is 0 stays 0 while entries are cleared. -/
theorem State.clearEntries_keeps (s : State) {k : Nat} (zero : s.objBit k i = false) : (s.clearEntries key i l).objBit k i = false := by
  induction l generalizing s with
  | nil => exact zero
  | cons e l ih =>
    refine ih _ ?_
    by_cases same : k = key e
    · rw [same]
      exact State.objBit_setObjBit_clear s (key e) i
    · rwa [State.objBit, State.obj_setObjBit_other s same]

/-- Every entry of the list is cleared. -/
theorem State.clearEntries_clears (s : State) {e : Nat} (he : e ∈ l) : (s.clearEntries key i l).objBit (key e) i = false := by
  induction l generalizing s with
  | nil => cases he
  | cons f l ih =>
    rcases List.mem_cons.1 he with rfl | later
    · exact State.clearEntries_keeps (s.setObjBit (key e) i false) (State.objBit_setObjBit_clear s (key e) i)
    · exact ih _ later

end

/-- A log is cleared: its entries by bit i of their objects, then two registers that count them. -/
def State.clearLog (s : State) (key : Nat → Nat) (i c1 c2 : Nat) : State :=
  ((s.clearEntries key i (List.range 32)).setObj c1 0).setObj c2 0

/-- What a cleared log reads, and what its clear leaves, where the registers are no entries' objects. -/
theorem State.clearLog_reads (s : State) {key : Nat → Nat} {i c1 c2 : Nat} (apart : c1 ≠ c2) (h1 : ∀ e, e < 32 → key e ≠ c1)
    (h2 : ∀ e, e < 32 → key e ≠ c2) :
    (∀ e, e < 32 → (s.clearLog key i c1 c2).objBit (key e) i = false) ∧ (s.clearLog key i c1 c2).obj c1 = 0 ∧
    (s.clearLog key i c1 c2).obj c2 = 0 ∧
    (∀ k, (∀ e, e < 32 → k ≠ key e) → k ≠ c1 → k ≠ c2 → (s.clearLog key i c1 c2).obj k = s.obj k) := by
  have others {k : Nat} (k1 : k ≠ c1) (k2 : k ≠ c2) :
      (s.clearLog key i c1 c2).obj k = (s.clearEntries key i (List.range 32)).obj k :=
    (State.obj_setObj_other _ _ k2).trans (State.obj_setObj_other _ _ k1)
  refine ⟨fun e he => ?entries, ?first, State.obj_setObj_same _ _ _, fun k noEntry k1 k2 => ?rest⟩
  case entries =>
    rw [State.objBit, others (h1 e he) (h2 e he)]
    exact State.clearEntries_clears s (List.mem_range.2 he)
  case first => exact (State.obj_setObj_other _ _ apart).trans (State.obj_setObj_same _ _ _)
  case rest =>
    rw [others k1 k2]
    exact State.obj_clearEntries_other s fun e he => noEntry e (List.mem_range.1 he)

theorem State.clearLog_frame (s : State) (key : Nat → Nat) (i c1 c2 : Nat) :
    s.clearLog key i c1 c2 = { s with objs := (s.clearLog key i c1 c2).objs } := by
  conv_lhs => rw [State.clearLog, State.clearEntries_frame]
  rfl

theorem State.ceClear_eq (s : State) :
    s.ceClear = { s.clearLog K.ceWhere 0 K.ceLogUsed K.ceUnlogged with ceArm := true, ceUnlogArm := true } := rfl

theorem State.llClear_eq (s : State) : s.llClear = s.clearLog K.llInfo 31 K.llNext K.llTotal := rfl

/-- The registers that count the correctable-error log are no entries of it. -/
theorem K.ceWhere_apart {e : Nat} (he : e < 32) : K.ceWhere e ≠ K.ceLogUsed ∧ K.ceWhere e ≠ K.ceUnlogged := by
  simp only [K.ceWhere, K.ceLogUsed, K.ceUnlogged, okey]
  omega

/-- The registers that count the line-loss log are no entries of it. -/
theorem K.llInfo_apart {e : Nat} (he : e < 32) : K.llInfo e ≠ K.llNext ∧ K.llInfo e ≠ K.llTotal := by
  simp only [K.llInfo, K.llNext, K.llTotal, okey]
  omega

section

variable {s : State} {src : Src}

/-- CE_LOG_CLEAR (08 R220). -/
theorem ceLogClear_acts (accepted : s.accepts src K.ceLogClear 1) :
    ∃ t : State, exec (.ceLogClear src) s = .next (s.after (t.saysOk s src K.ceLogClear)) ∧
      t = { s.noted src K.ceLogClear 1 with objs := t.objs, ceArm := true, ceUnlogArm := true } ∧
      (∀ e, e < 32 → t.objBit (K.ceWhere e) 0 = false) ∧ t.obj K.ceLogUsed = 0 ∧ t.obj K.ceUnlogged = 0 ∧
      (∀ k, (∀ e, e < 32 → k ≠ K.ceWhere e) → k ≠ K.ceLogUsed → k ≠ K.ceUnlogged → t.obj k = s.obj k) := by
  have reads := (s.noted src K.ceLogClear 1).clearLog_reads (i := 0) (show K.ceLogUsed ≠ K.ceUnlogged by decide)
    (fun e he => (K.ceWhere_apart he).1) (fun e he => (K.ceWhere_apart he).2)
  simp only [noted_obj] at reads
  refine ⟨(s.noted src K.ceLogClear 1).ceClear, ?_, ?_, reads⟩
  · exact exec_eq_of_accepted rfl accepted row_ceLogClear (by decide) (by decide) (by decide) (effect_ceLogClear _ src _)
  · rw [State.ceClear_eq, State.clearLog_frame]

/-- LL_CLEAR (13 R346). -/
theorem llClear_acts (accepted : s.accepts src K.llClear 1) :
    ∃ t : State, exec (.llClear src) s = .next (s.after (t.saysOk s src K.llClear)) ∧
      t = { s.noted src K.llClear 1 with objs := t.objs } ∧
      (∀ e, e < 32 → t.objBit (K.llInfo e) 31 = false) ∧ t.obj K.llNext = 0 ∧ t.obj K.llTotal = 0 ∧
      (∀ k, (∀ e, e < 32 → k ≠ K.llInfo e) → k ≠ K.llNext → k ≠ K.llTotal → t.obj k = s.obj k) := by
  have reads := (s.noted src K.llClear 1).clearLog_reads (i := 31) (show K.llNext ≠ K.llTotal by decide)
    (fun e he => (K.llInfo_apart he).1) (fun e he => (K.llInfo_apart he).2)
  simp only [noted_obj] at reads
  refine ⟨(s.noted src K.llClear 1).llClear, ?_, ?_, reads⟩
  · exact exec_eq_of_accepted rfl accepted row_llClear (by decide) (by decide) (by decide) (effect_llClear _ src _)
  · rw [State.llClear_eq]
    exact State.clearLog_frame _ _ _ _ _

/-- STAGE_DISCARD (16 R412). -/
theorem stageDiscard_acts (accepted : s.accepts src K.stageDiscard 1) :
    exec (.stageDiscard src) s = .next (s.after (({ s.noted src K.stageDiscard 1 with staged := [] }).saysOk s src K.stageDiscard)) := by
  rw [registerWrite_exec (src := src) (k := K.stageDiscard) (v := 1) (x := {}) rfl,
    flow_cmdWrite_ok 1 _ {} accepted row_stageDiscard (by decide) (by decide) (by decide) (.inr (by decide)) (.inl (by decide)),
    effect_stageDiscard]
  rfl

end

/-- Settles O28: the rows of DIAG_GO are one write, `exec_diagGo`, whose operation on the journalled state is the one that DIAG_OP names,
or refused; CE_LOG_CLEAR and LL_CLEAR are each the clear of a log. That only the valid bits of the entries fall is the model's reading (log
entry 58). -/
theorem directAccessAndLogClearsAct : Obligations.DirectAccessAndLogClearsAct := by
  unfold Obligations.DirectAccessAndLogClearsAct
  refine ⟨fun s src b a u w accepted ha hu hw internal => ?direct, fun s src => ⟨ceLogClear_acts, llClear_acts, stageDiscard_acts⟩⟩
  case direct =>
    subst ha hu hw
    have reads := State.diagStart_read (s := s.noted src K.diagGo 1) (by simpa using internal)
    have writes := State.diagStart_write (s := s.noted src K.diagGo 1) (by simpa using internal)
    have writesRaw := State.diagStart_writeRaw (s := s.noted src K.diagGo 1) (by simpa using internal)
    have refuses := State.diagStart_refused (s := s.noted src K.diagGo 1)
    simp only [noted_obj, noted_word, noted_diagRefused internal] at reads writes writesRaw refuses
    refine ⟨fun op granted => ⟨_, exec_diagGo (if_pos op) accepted (reads op granted b), ?shown⟩,
      fun op granted => exec_diagGo (if_pos op) accepted (writes op granted),
      fun op granted => exec_diagGo (if_pos op) accepted (writesRaw op granted),
      fun op refused => exec_diagGo (if_pos op) accepted (refuses (by rwa [op]))⟩
    generalize s.word (s.obj K.diagArray) (s.obj K.diagUnit) (s.obj K.diagAddr) = w
    obtain ⟨data, check, syn, arrays⟩ := (s.noted src K.diagGo 1).diagWordRead_shows w
    obtain ⟨code, bit⟩ := (s.noted src K.diagGo 1).diagWordRead_finds w
    refine ⟨data, check, syn, arrays.trans (noted_arrays _ _ _), fun d clean => ?_, fun d i corrected => ⟨?_, bit i ?_⟩, fun lost => ?_⟩
    · rw [code, clean, WordRead.diagCode]
    · rw [code, corrected, WordRead.diagCode]
    · rw [corrected, WordRead.diagBit]
    · rw [code, lost, WordRead.diagCode]

end Sys2Proof.Machine

namespace Sys2Proof.Machine

/-! Packets on an Archive link that hears (09 R235 to R238). -/

/-- A good packet on an Archive link that hears is delivered and acted on (03 R80, R86; 09 R234). -/
theorem State.recv32_hears {s : State} {k : Link} {body : List Word} {rx : Rx} {syms : List Nat} (hears : s.hears (.arch k))
    (good : msg32 k body rx = some (.arch k, .good, syms)) (f : State → State) :
    s.begin.recv32 (.arch k) body rx f = f (s.took (.arch k) syms) := by
  obtain ⟨hup, hsync⟩ := hears
  simp only [msg32, Option.some.injEq, Prod.mk.injEq, true_and] at good
  obtain ⟨hrx, rfl⟩ := good
  simp [State.recv32, State.receive, State.took, hup, hsync, hrx]

/-- Only the ends of links and what the hub sends differ. -/
def State.linksOnly (s t : State) : Prop := t = { s with links := t.links, sent := t.sent }

theorem State.linksOnly_then {s t u : State} (first : s.linksOnly t) (later : t.linksOnly u) : s.linksOnly u := by
  unfold State.linksOnly at first later ⊢
  rw [first] at later
  exact later

section

variable (s : State) (l : LinkId)

theorem State.setLink_linksOnly (e : LinkEnd) : s.linksOnly (s.setLink l e) := rfl

/-- LINK_ACK is launched on its link and sent (03 R86). -/
theorem State.sendAck_linksOnly : s.linksOnly (s.sendAck l) :=
  State.linksOnly_then (State.linksOnly_then (State.setLink_linksOnly s l _) (State.setLink_linksOnly _ l _)) rfl

variable (syms : List Nat)

/-- Delivery changes the link's end and what the hub sends, and nothing else (03 R58, R86). -/
theorem State.took_linksOnly : s.linksOnly (s.took l syms) := by
  have captured : s.linksOnly (s.begin.capture l syms) :=
    State.linksOnly_then (t := s.begin) rfl (State.setLink_linksOnly _ l _)
  refine State.linksOnly_then captured ?_
  unfold State.took State.delivered
  dsimp only
  split
  · exact State.linksOnly_then (State.setLink_linksOnly _ l _) (State.sendAck_linksOnly _ l)
  · exact State.setLink_linksOnly _ l _

@[simp] theorem State.took_ml (k : Nat) : (s.took l syms).ml k = s.ml k := congrArg (·.ml k) (s.took_linksOnly l syms)
@[simp] theorem State.took_mlServes (k : Nat) : (s.took l syms).mlServes k = s.mlServes k :=
  congrArg (·.mlServes k) (s.took_linksOnly l syms)
@[simp] theorem State.took_partner (k : Nat) : (s.took l syms).partner k = s.partner k :=
  congrArg (·.partner k) (s.took_linksOnly l syms)
@[simp] theorem State.took_txn (id : Nat) : (s.took l syms).txn id = s.txn id := congrArg (·.txn id) (s.took_linksOnly l syms)
@[simp] theorem State.took_route (epoch a : Nat) : (s.took l syms).route epoch a = s.route epoch a :=
  congrArg (·.route epoch a) (s.took_linksOnly l syms)
@[simp] theorem State.took_epoch : (s.took l syms).epoch = s.epoch := congrArg (·.epoch) (s.took_linksOnly l syms)
@[simp] theorem State.took_homeNow : (s.took l syms).homeNow = s.homeNow := congrArg (·.homeNow) (s.took_linksOnly l syms)
@[simp] theorem State.took_inForce : (s.took l syms).inForce = s.inForce := congrArg (·.inForce) (s.took_linksOnly l syms)
@[simp] theorem State.took_sliceOf (line : Nat) : (s.took l syms).sliceOf line = s.sliceOf line :=
  congrArg (·.sliceOf line) (s.took_linksOnly l syms)

end

/-! RD_RESP and WR_ACK (09 R244, R246 to R248). -/

section

variable {s : State} {k tag status : Nat}

/-- To free a tag leaves every transaction as it was (09 R244). -/
@[simp] theorem State.answered_txn (s : State) (k tag : Nat) (bad : Bool) (id : Nat) : (s.answered k tag bad).txn id = s.txn id := by
  unfold State.answered
  dsimp only
  split
  · rfl
  · rfl

/-- RD_RESP whose tag names no read fails the link (09 R244). -/
theorem State.readAnswer_stray (stray : ∀ r, (s.ml k).tagged tag = some r → r.isRead = false) (p : Bool) (d : Line) :
    s.readAnswer k tag status p d = s.mlFails k := by
  unfold State.readAnswer
  split
  · rfl
  · next r named => rw [stray r named, Bool.not_false, if_pos rfl]

/-- WR_ACK whose tag names no write fails the link (09 R244). -/
theorem State.writeAnswer_stray (stray : ∀ r, (s.ml k).tagged tag = some r → r.isRead = true) :
    s.writeAnswer k tag status = s.mlFails k := by
  unfold State.writeAnswer
  split
  · rfl
  · next r named => rw [if_pos (stray r named)]

section

variable {r : ArchReq} (named : (s.ml k).tagged tag = some r)

include named

/-- RD_RESP for a read of a transaction that is over frees the tag and no more. -/
theorem State.readAnswer_gone (read : r.isRead = true) {id : Nat} (who : r.who = .txn id) (gone : s.txn id = none) (p : Bool) (d : Line) :
    s.readAnswer k tag status p d = s.answered k tag (status != 0 || p) := by
  simp [State.readAnswer, named, read, who, gone]

/-- RD_RESP for a read of a transaction: it goes on with the data, with poison, or with an error, whose data is none (09 R238, R244). -/
theorem State.readAnswer_txn (read : r.isRead = true) {id : Nat} {t : Txn} (who : r.who = .txn id) (waits : s.txn id = some t) (p : Bool)
    (d : Line) :
    s.readAnswer k tag status p d = (s.answered k tag (status != 0 || p)).txnRead t (status == 0 && !p) (status == 0 && p)
      (if status = 0 then d else 0) := by
  simp only [State.readAnswer, named, read, who, State.answered_txn, waits, Bool.not_true, Bool.false_eq_true, if_false]

/-- RD_RESP for a device read (09 R246). -/
theorem State.readAnswer_dev (read : r.isRead = true) {n tid id : Nat} (who : r.who = .dev n tid id) (p : Bool) (d : Line) :
    s.readAnswer k tag status p d = (s.answered k tag (status != 0 || p)).devReadAnswer k r n tid id status p d := by
  simp [State.readAnswer, named, read, who]

/-- WR_ACK for a write of a transaction that is over frees the tag and no more. -/
theorem State.writeAnswer_gone (write : r.isRead = false) {id : Nat} (who : r.who = .txn id) (gone : s.txn id = none) :
    s.writeAnswer k tag status = s.answered k tag (status != 0) := by
  simp [State.writeAnswer, named, write, who, gone]

/-- WR_ACK for a write of a transaction (09 R244, R248). -/
theorem State.writeAnswer_txn (write : r.isRead = false) {id : Nat} {t : Txn} (who : r.who = .txn id) (waits : s.txn id = some t) :
    s.writeAnswer k tag status = (s.answered k tag (status != 0)).txnWrote t (status == 0) .refused := by
  simp [State.writeAnswer, named, write, who, waits]

/-- WR_ACK for a device write (09 R247). -/
theorem State.writeAnswer_dev (write : r.isRead = false) {n tid id : Nat} (who : r.who = .dev n tid id) :
    s.writeAnswer k tag status = (s.answered k tag (status != 0)).devWriteAnswer k r n tid id status := by
  simp [State.writeAnswer, named, write, who]

end

end

/-! SNOOP_IN (09 R252; 05 R155). -/

section

variable {s : State} {k tag addr : Nat} {kind : TxnKind} {m : Mask64} {d : Line}

/-- SNOOP_IN that its master may not send now is ignored (assumption 27). -/
theorem State.snoopIn_ignored (ignored : s.dead = true ∨ s.mlServes k = false ∨ 16 ≤ tag ∨ (s.ml k).si.contains tag = true) :
    s.snoopIn k kind tag addr m d = s := by
  have may : (s.dead || !s.mlServes k || decide (16 ≤ tag) || (s.ml k).si.contains tag) = true := by
    simpa [or_assoc] using ignored
  exact if_pos may

/-- SNOOP_IN with a tag that its master may use: refused where it is not of Normal memory or writes nothing, redirected where the bucket is
not this hub's, and otherwise a transaction (09 R252; 05 R155). -/
theorem State.snoopIn_served (alive : s.dead = false) (serves : s.mlServes k = true) (small : tag < 16)
    (unused : (s.ml k).si.contains tag = false) :
    s.snoopIn k kind tag addr m d =
      if s.route s.epoch addr ≠ .normal ∨ (kind = .siWrite ∧ m = 0) then s.siRefuse k tag 1 (kind == .siWrite)
      else if s.homeNow.getLsbD (bucketOf (addr / 64)) = false then s.siRefuse k tag 3 (kind == .siWrite)
      else (s.modMl k (fun m => { m with si := m.si ++ [tag] })).newTxn
        { id := 0, kind := kind, line := addr / 64, slice := s.sliceOf (addr / 64), part := s.inForce.supervisor, entry := .waiting
          mask := m, data := d, aux := k * 256 + tag } := by
  unfold State.snoopIn
  dsimp only
  rw [if_neg (by simpa [alive, serves, small] using unused)]
  simp only [beq_iff_eq, Bool.not_eq_true']

end

/-- The three rows of SNOOP_IN are one operation of their link. -/
theorem effect_snoopIn {s : State} {k : Link} {tag : Byte} {a : BitVec 40} {rx : Rx} {c : Instr} {kind : TxnKind} {m : Mask64} {d : Line}
    {syms : List Nat} (hears : s.hears (.arch k))
    (hc : (c = .siRead k tag a rx ∧ kind = .siRead ∧ m = 0 ∧ d = 0) ∨ (c = .siReadInval k tag a rx ∧ kind = .siReadInval ∧ m = 0 ∧ d = 0) ∨
      (c = .siWrite k tag a m d rx ∧ kind = .siWrite)) (good : s.message c = some (.arch k, .good, syms)) :
    s.begin.effect c = (s.took (.arch k) syms).snoopIn k kind tag.toNat a.toNat m d := by
  rcases hc with ⟨rfl, rfl, rfl, rfl⟩ | ⟨rfl, rfl, rfl, rfl⟩ | ⟨rfl, rfl⟩
  · exact State.recv32_hears hears good _
  · exact State.recv32_hears hears good _
  · exact State.recv32_hears hears good _

/-- Settles O52: each packet is delivered by `recv32_hears`; an answer is a stray or names its requester, and the three rows of SNOOP_IN are
one operation, by its conditions. That a SNOOP_IN its master may not send now is ignored is the model's choice (log entry 27). -/
theorem archivePacketsAct : Obligations.ArchivePacketsAct := by
  unfold Obligations.ArchivePacketsAct
  intro s k tag rx syms u hears hu
  subst hu
  refine ⟨fun st p d good => ?rdResp, fun st good => ?wrAck, fun a c kind m d hc good => ?snoopIn⟩
  case rdResp =>
    have arrives := State.recv32_hears hears good (fun s => s.readAnswer k tag.toNat st.toNat p d)
    refine ⟨fun stray => ?_, fun r v named read hv => ?_⟩
    · exact exec_eq_of_effect rfl (arrives.trans (State.readAnswer_stray (by simpa using stray) p d))
    · subst hv
      rw [← State.took_ml s (.arch k) syms] at named
      refine ⟨fun id who gone => ?_, fun id t who waits => ?_, fun n tid id who => ?_⟩
      · exact exec_eq_of_effect rfl (arrives.trans (State.readAnswer_gone named read who (by simpa using gone) p d))
      · exact exec_eq_of_effect rfl (arrives.trans (State.readAnswer_txn named read who (by simpa using waits) p d))
      · exact exec_eq_of_effect rfl (arrives.trans (State.readAnswer_dev named read who p d))
  case wrAck =>
    have arrives := State.recv32_hears hears good (fun s => s.writeAnswer k tag.toNat st.toNat)
    refine ⟨fun stray => ?_, fun r v named write hv => ?_⟩
    · exact exec_eq_of_effect rfl (arrives.trans (State.writeAnswer_stray (by simpa using stray)))
    · subst hv
      rw [← State.took_ml s (.arch k) syms] at named
      refine ⟨fun id who gone => ?_, fun id t who waits => ?_, fun n tid id who => ?_⟩
      · exact exec_eq_of_effect rfl (arrives.trans (State.writeAnswer_gone named write who (by simpa using gone)))
      · exact exec_eq_of_effect rfl (arrives.trans (State.writeAnswer_txn named write who (by simpa using waits)))
      · exact exec_eq_of_effect rfl (arrives.trans (State.writeAnswer_dev named write who))
  case snoopIn =>
    have arrives := effect_snoopIn hears hc good
    have hwf := wellFormed_of_message good
    refine ⟨fun ignored => ?_, fun alive serves small unused => ?_⟩
    · exact exec_eq_of_effect hwf (arrives.trans (State.snoopIn_ignored (by simpa using ignored)))
    · have acts := arrives.trans
        (State.snoopIn_served (by simpa using alive) (by simpa using serves) small (by simpa using unused))
      simp only [State.took_route, State.took_epoch, State.took_homeNow, State.took_sliceOf, State.took_inForce] at acts
      refine ⟨fun refused => ?_, fun normal writes away => ?_, fun normal writes home => ?_⟩
      · exact exec_eq_of_effect hwf (acts.trans (if_pos refused))
      · exact exec_eq_of_effect hwf (acts.trans ((if_neg (not_or.2 ⟨not_not.2 normal, writes⟩)).trans (if_pos away)))
      · exact exec_eq_of_effect hwf (acts.trans ((if_neg (not_or.2 ⟨not_not.2 normal, writes⟩)).trans (if_neg (by simp [home]))))

end Sys2Proof.Machine

namespace Sys2Proof.Machine

/-! Archive links come up and go (09 R232, R233, R250, R251). -/

/-- The link of an Archive link is named by the link itself. -/
theorem archLink_eq (k : Link) : archLink k = .arch k := by
  simp [archLink]

section

variable {s : State}

/-- A change of an Archive link's state is in its own state (09 R259). -/
theorem State.mlTo_ml (s : State) (k : Nat) (st : MlState) : (s.mlTo k st).ml k = { s.ml k with state := st } := by
  unfold State.mlTo
  split
  · next same => rw [← same]
  · simp

/-- A change of an Archive link's state writes no object but LEDGER_DROPPED, by its event (11 R288, R306). -/
theorem State.mlTo_obj (s : State) (k : Nat) (st : MlState) {j : Nat} (hj : j % 16 ≠ 9) : (s.mlTo k st).obj j = s.obj j := by
  unfold State.mlTo
  split
  · rfl
  · rw [State.eventsOnly_obj (State.raiseS_eventsOnly _ _ _ _) hj, State.modMl_obj]

/-- MLn_RDYO rises where it may (09 R232). -/
theorem State.mlRises_may {k : Link} (may : s.mlMayRise k = true) :
    s.mlRises k = (s.modLink (archLink k) (fun e =>
      { e with phase := .hello, near := s.obj (K.mlReach k) % 2 == 1 })).mlTo k .bringup := by
  have reach : s.ownReach (archLink k) = (s.obj (K.mlReach k) % 2 == 1) := by rw [archLink_eq]; rfl
  unfold State.mlRises
  rw [if_pos may, reach]
  rfl

variable {k : Nat}

/-- Both ready wires high: LINK_HELLO goes out, once (09 R232). -/
theorem State.mlBothReady_eq :
    s.mlBothReady k =
      if ((s.link (archLink k)).phase = .hello ∨ (s.link (archLink k)).phase = .refused) ∧ (s.link (archLink k)).helloSent = false then
        ((s.modMl k (fun m => { m with rdyi := true })).sendHello (archLink k)).helloEnds (archLink k)
      else s := by
  simp only [State.mlBothReady, Bool.and_eq_true, Bool.or_eq_true, beq_iff_eq, Bool.not_eq_true']

/-- ML_DESCRIBE while one is awaited: an illegal one fails the bring-up (09 R232, R233). -/
theorem State.mlDescribed_awaited (awaited : (s.ml k).describable = true) (tags siMax : Nat) (dual : Bool) :
    s.mlDescribed k tags siMax dual =
      if 16 < siMax ∨ (dual = false ∧ s.partner k ≠ none) then s.mlBringupFails k
      else ((s.modMl k (fun m => { m with
        describable := false, tags := tags, siMax := siMax, dual := dual, expired := false, away := false })).setObj
          (K.mlTags k) tags).mlTo k .serving := by
  simp [State.mlDescribed, awaited, Option.isSome_iff_ne_none]

/-- A later ML_DESCRIBE (09 R232). -/
theorem State.mlDescribed_again (again : (s.ml k).describable = false) (tags siMax : Nat) (dual : Bool) :
    s.mlDescribed k tags siMax dual = s := by
  simp [State.mlDescribed, again]

/-- ML_TAGS is no LEDGER_DROPPED. -/
theorem K.mlTags_apart (k : Link) : K.mlTags k % 16 ≠ 9 := by
  simp only [K.mlTags, okey]
  omega

/-- ML_DOWN_LIMIT marks a link once, where it is down with no serving partner (09 R251). -/
theorem State.mlExpires_eq :
    s.mlExpires k =
      if s.mlMode = true ∧ s.dead = false ∧ ((s.ml k).state = .down ∨ (s.ml k).state = .bringup) ∧ s.partnerServes k = false ∧
        (s.ml k).expired = false then
        (s.modMl k (fun m => { m with expired := true })).bump (K.mlDownExpiries k)
      else s := by
  simp [State.mlExpires, and_assoc]

section

variable {u : State} (hu : u = s.modMl k (fun m => { m with rdyi := false }))

include hu

/-- MLn_RDYI falls on a link that serves: the link fails (09 R250). -/
theorem State.mlRdyiFalls_serving (serves : s.mlServes k = true) :
    s.mlRdyiFalls k = (u.mlFails k).modLink (archLink k) (fun e => { e with barred := false }) := by
  have same : u.mlServes k = true := by simpa [hu, State.mlServes] using serves
  simp only [State.mlRdyiFalls, ← hu, same, if_true]

variable (idle : s.mlServes k = false)

include idle

/-- MLn_RDYI falls on a link that does not serve, by the phase of its bring-up (09 R232). -/
theorem State.mlRdyiFalls_idle :
    ((s.link (archLink k)).phase = .down ∨ ((s.link (archLink k)).phase = .hello ∧ (s.link (archLink k)).helloSent = false) →
      s.mlRdyiFalls k = u.modLink (archLink k) (fun e => { e with barred := false })) ∧
    ((s.link (archLink k)).ended = true ∨ ((s.link (archLink k)).phase = .hello ∧ (s.link (archLink k)).helloSent = true) →
      s.mlRdyiFalls k = (u.mlBringupFails k).modLink (archLink k) (fun e => { e with barred := false })) ∧
    ((s.link (archLink k)).phase = .refused →
      s.mlRdyiFalls k = ((u.mlLower k).mlTo k .down).modLink (archLink k) (fun e => { e with barred := false })) := by
  have same : u.mlServes k = false := by simpa [hu, State.mlServes] using idle
  have link : u.link (archLink k) = s.link (archLink k) := by simp [hu]
  rw [LinkEnd.ended_iff]
  unfold State.mlRdyiFalls
  simp only [← hu, same, link, Bool.false_eq_true, if_false]
  refine ⟨?_, ?_, fun refused => ?_⟩
  · rintro (down | ⟨hello, unsent⟩)
    · rw [down]
    · simp [hello, unsent]
  · rintro ((up | leaving) | ⟨hello, sent⟩)
    · rw [up]
    · rw [leaving]
    · simp [hello, sent]
  · rw [refused]

end

end

/-- Settles O53: each row is its own operation at `s.begin` by its condition, and ML_DESCRIBE is delivered first. When MLn_RDYI may fall and
ML_DOWN_LIMIT may act, and what a repeated ML_DESCRIBE does, are the model's reading (log entries 7, 45, 46). -/
theorem archiveLinksComeUpAndGo : Obligations.ArchiveLinksComeUpAndGo := by
  unfold Obligations.ArchiveLinksComeUpAndGo
  intro s k
  have ready := State.mlBothReady_eq (s := s.begin) (k := k)
  have limit := State.mlExpires_eq (s := s.begin) (k := k)
  refine ⟨fun may => ?rises, fun mayNot => ?stays, fun greets unsent => ?hello, fun other => ?noHello,
    fun t si d rx syms u hears good hu => ?describe, fun serves => ?serving, fun u hu idle => ?idle,
    fun mode alive down alone first => ?expires, fun other => ?noExpiry⟩
  case rises => exact exec_eq_of_effect rfl (State.mlRises_may (s := s.begin) may)
  case stays => exact exec_eq_of_effect rfl (if_neg (ne_true_of_eq_false mayNot))
  case hello => exact exec_eq_of_effect rfl (ready.trans (if_pos ⟨greets, unsent⟩))
  case noHello =>
    refine exec_eq_of_effect rfl (ready.trans (if_neg ?_))
    rintro ⟨greets, unsent⟩
    rcases other with ⟨notHello, notRefused⟩ | sent
    · exact greets.elim notHello notRefused
    · exact nomatch sent.symm.trans unsent
  case describe =>
    subst hu
    have arrives := State.recv32_hears hears good (fun s => s.mlDescribed k (t.toNat + 1) si.toNat d)
    refine ⟨fun again => ?_, fun awaited => ?_⟩
    · exact exec_eq_of_effect rfl (arrives.trans (State.mlDescribed_again (by simpa using again) _ _ _))
    · have acts := arrives.trans (State.mlDescribed_awaited (by simpa using awaited) _ _ _)
      rw [State.took_partner] at acts
      refine ⟨fun illegal => exec_eq_of_effect rfl (acts.trans (if_pos illegal)), fun few dual => ?_⟩
      have legal : ¬(16 < si.toNat ∨ (d = false ∧ s.partner k ≠ none)) := by
        rintro (many | ⟨single, partnered⟩)
        · exact absurd few (Nat.not_le.2 many)
        · exact dual.elim (fun isDual => nomatch isDual.symm.trans single) partnered
      refine ⟨_, exec_eq_of_effect rfl (acts.trans (if_neg legal)), ?_⟩
      rw [State.mlTo_ml, State.mlTo_obj _ _ _ (K.mlTags_apart k)]
      simp
  case serving => exact exec_eq_of_effect rfl (State.mlRdyiFalls_serving (s := s.begin) rfl serves)
  case idle =>
    obtain ⟨waits, fails, refused⟩ := State.mlRdyiFalls_idle (s := s.begin) hu idle
    exact ⟨fun h => exec_eq_of_effect rfl (waits h), fun h => exec_eq_of_effect rfl (fails h), fun h => exec_eq_of_effect rfl (refused h)⟩
  case expires => exact exec_eq_of_effect rfl (limit.trans (if_pos ⟨mode, alive, down, alone, first⟩))
  case noExpiry =>
    refine exec_eq_of_effect rfl (limit.trans (if_neg ?_))
    rintro ⟨mode, alive, down, alone, first⟩
    rcases other with ⟨notDown, notBringup⟩ | partnered | off | dead | expired
    · exact down.elim notDown notBringup
    · exact nomatch partnered.symm.trans alone
    · exact nomatch mode.symm.trans off
    · exact nomatch dead.symm.trans alive
    · exact nomatch expired.symm.trans first

end Sys2Proof.Machine

namespace Sys2Proof.Machine

/-! Partition reset (10 R273, R274). -/

section

variable {s : State} {r : PartReset} {p : Part}

/-- Accepted PART_RESET v begins a reset, IMMEDIATE for 2 (10 R273). -/
theorem exec_partReset {c : Instr} {src : Src} {v : Nat} (writes : s.registerWrite c = some (src, K.partReset p, v, {})) (small : v < 256)
    (accepted : s.accepts src (K.partReset p) v) :
    exec c s = .next (s.after (((s.noted src (K.partReset p) v).startReset p (v == 2)).saysOk s src (K.partReset p))) := by
  rw [registerWrite_exec writes, flow_cmdWrite_ok v _ {} accepted (row_partReset p) (by decide) small (and_allOnes64 v (by omega))
    (.inl (by decide)) (.inr (by decide)), effect_partReset]

/-- A reset that is found is the partition's own. -/
theorem State.resetOf_part (running : s.resetOf p = some r) : r.part = p := by
  simpa using List.find?_some running

/-- The stores of a running reset drain once its recalls are done (10 R274 step 3). -/
theorem State.recallsDone_running (running : s.resetOf p = some r) :
    s.recallsDone p = if r.stores = false ∧ s.resetRecalled r = true then s.resetStores p else s := by
  simp only [State.recallsDone, running, Bool.and_eq_true, Bool.not_eq_true']

/-- A running reset ends once its stores are done (10 R274 steps 4 to 6). -/
theorem State.storesDone_running (running : s.resetOf p = some r) :
    s.storesDone p = if r.stores = true ∧ s.resetClean r = true ∧ ∀ n ∈ s.membersOf p, s.resetQuiet n = true then s.resetEnd r else s := by
  simp only [State.storesDone, running, Bool.and_eq_true, List.all_eq_true, and_assoc]

theorem State.reset_idle (idle : s.resetOf p = none) : s.recallsDone p = s ∧ s.storesDone p = s := by
  simp only [State.recallsDone, State.storesDone, idle, and_self]

/-- The resets that run are no object (17 R424). -/
theorem State.obj_withResets (s : State) (rs : List PartReset) (k : Nat) : ({ s with resets := rs } : State).obj k = s.obj k := rfl

/-- RESET_STATE reads 0 once the reset has ended: only the count of resets and event 20 come after (10 R274 step 6). -/
theorem State.resetEnd_resetState (own : r.part = p) : (s.resetEnd r).obj (K.resetState p) = 0 := by
  have noDropped : ∀ q l, K.resetState p ≠ K.ledgerDropped q l := by
    intro q l
    simp only [K.resetState, K.ledgerDropped, okey]
    omega
  have noCount : K.resetState p ≠ K.resetsDone p := by simp [K.resetState, K.resetsDone, okey]
  simp only [State.resetEnd, own]
  rw [(State.raiseS_eventsOnly _ _ _ _).2 _ noDropped, State.obj_withResets, State.bump_eq, State.addObj_eq,
    State.obj_setObj_other _ _ noCount, State.obj_setObj_same]

end

/-! TC_INVAL (10 R271). -/

/-- TC_INVAL ends when it is busy and no walk of it is left (10 R271). -/
theorem State.tcInvalOver_eq (s : State) (p : Nat) :
    s.tcInvalOver p = if s.tcInval.contains p = true ∧ s.tcWalks p = false then s.tcInvalEnd p else s := by
  simp only [State.tcInvalOver, Bool.and_eq_true, Bool.not_eq_true']

/-- TC_INVAL at one member port: its entries are invalid, and its walk ends without installing (10 R271). -/
def State.tcInvalPort (s : State) (n : Nat) : State :=
  (s.tcClear n).modPort n (fun q => { q with walk := q.walk.map (fun w => { w with install := false }) })

/-- The translation cache of a port holds nothing (10 R271). -/
def State.tcEmpty (s : State) (n : Nat) : Prop :=
  (s.port n).tcOrder = [] ∧ ∀ w, w < 65536 → s.word 3 n w = arrayDefault (akey 3 n w)

/-- A read of a table some of whose keys are dropped. -/
theorem tget_filter {α : Type} (d : α) (t : Tab α) (f : Nat → Bool) (k : Nat) :
    tget d (t.filter (fun x => f x.1)) k = if f k = true then tget d t k else d := by
  induction t with
  | nil => simp [tget]
  | cons x t ih =>
    obtain ⟨a, b⟩ := x
    by_cases same : k = a <;> by_cases kept : f a = true <;> simp_all [tget]

section

variable {s : State} {n : Nat} {ns : List Nat}

/-- A word of any array after TC_INVAL at a port: it has its default in that port's cache, and is as before elsewhere. -/
theorem State.tcInvalPort_word (a u w : Nat) :
    (s.tcInvalPort n).word a u w =
      if akey a u w / 2 ^ 16 = 0x300 + n then arrayDefault (akey a u w) else s.word a u w := by
  have read := tget_filter (arrayDefault (akey a u w)) s.arrays (fun k => k / 2 ^ 16 != 0x300 + n) (akey a u w)
  simp only [bne_iff_ne, ne_eq, ite_not] at read
  exact read

theorem State.tcInvalPort_order (m : Nat) : ((s.tcInvalPort n).port m).tcOrder = if m = n then [] else (s.port m).tcOrder := by
  simp only [State.tcInvalPort, State.modPort, State.tcClear, State.port_setPort]
  split <;> rfl

theorem State.tcInvalPort_empties : (s.tcInvalPort n).tcEmpty n := by
  refine ⟨by rw [State.tcInvalPort_order, if_pos rfl], fun w hw => ?_⟩
  rw [State.tcInvalPort_word, if_pos]
  simp only [akey]
  omega

/-- An empty cache stays empty while other ports' caches are cleared. -/
theorem State.tcInvalPort_keeps {m : Nat} (empty : s.tcEmpty m) : (s.tcInvalPort n).tcEmpty m := by
  obtain ⟨order, words⟩ := empty
  refine ⟨?_, fun w hw => ?_⟩
  · rw [State.tcInvalPort_order, order, ite_self]
  · rw [State.tcInvalPort_word, words w hw, ite_self]

theorem State.foldl_tcInvalPort_keeps (empty : s.tcEmpty n) : (ns.foldl State.tcInvalPort s).tcEmpty n := by
  induction ns generalizing s with
  | nil => exact empty
  | cons m ns ih => exact ih (State.tcInvalPort_keeps empty)

/-- Every port of the list is left with an empty cache. -/
theorem State.foldl_tcInvalPort_empties (hn : n ∈ ns) : (ns.foldl State.tcInvalPort s).tcEmpty n := by
  induction ns generalizing s with
  | nil => cases hn
  | cons m ns ih =>
    rcases List.mem_cons.1 hn with rfl | later
    · exact State.foldl_tcInvalPort_keeps (s := s.tcInvalPort n) State.tcInvalPort_empties
    · exact ih later

variable (s ns)

/-- Clearing caches changes arrays and ports alone. -/
theorem State.foldl_tcInvalPort_frame :
    ns.foldl State.tcInvalPort s =
      { s with arrays := (ns.foldl State.tcInvalPort s).arrays, ports := (ns.foldl State.tcInvalPort s).ports } := by
  induction ns generalizing s with
  | nil => rfl
  | cons m ns ih => exact ih (s.tcInvalPort m)

/-- TC_INVAL invalidates the cache of every member port and is busy (10 R271). -/
theorem State.tcInvalOp_eq (p : Nat) :
    s.tcInvalOp p = { (s.membersOf p).foldl State.tcInvalPort s with
      tcInval := if s.tcInval.contains p = true then s.tcInval else s.tcInval ++ [p] } := by
  have caches : (s.membersOf p).foldl (fun s n => (s.tcClear n).modPort n (fun q =>
      { q with walk := q.walk.map (fun w => { w with install := false }) })) s = (s.membersOf p).foldl State.tcInvalPort s := rfl
  have busy : ((s.membersOf p).foldl State.tcInvalPort s).tcInval = s.tcInval := by rw [State.foldl_tcInvalPort_frame]
  simp only [State.tcInvalOp, caches, busy]
  split
  · rw [← busy]
  · rfl

/-- TC_INVAL 1 is busy, and has emptied the cache of every member port. -/
theorem State.tcInvalOp_acts (p : Nat) :
    s.tcInvalOp p = { s with arrays := (s.tcInvalOp p).arrays, ports := (s.tcInvalOp p).ports, tcInval := (s.tcInvalOp p).tcInval } ∧
    (s.tcInvalOp p).tcInval.contains p = true ∧ ∀ n ∈ s.membersOf p, (s.tcInvalOp p).tcEmpty n := by
  rw [State.tcInvalOp_eq]
  refine ⟨?_, ?_, fun n member => State.foldl_tcInvalPort_empties member⟩
  · conv_lhs => rw [State.foldl_tcInvalPort_frame]
  · dsimp only
    split
    · assumption
    · simp

end

section

variable {s : State} {src : Src} {p : Part}

/-- The answer of TC_INVAL 1 waits until TC_INVAL_BUSY is 0 (10 R271). -/
theorem State.answerWrite_tcInval {t : State} (busy : t.tcInval.contains p.val = true) :
    t.answerWrite s src (K.tcInval p) 0 1 = { t with due := t.due ++ [(.status src (K.tcInval p), .tc p)] } := by
  have index : K.tcInval p / 256 = 0x2100 + p := okey_index _ _ (by decide)
  have sub : K.tcInval p % 256 = 6 := okey_sub _ _ (by decide)
  have partition : 0x2100 + p.val < 0x2110 := Nat.add_lt_add_left p.isLt _
  have wait : t.writeWait s (K.tcInval p) 0 1 = .tc p := by
    simp [State.writeWait, index, sub, partition, List.elem_iff.1 busy]
  simp only [State.answerWrite, wait]

/-- Accepted TC_INVAL 1 is journalled, has its effect, and its answer waits (10 R271). -/
theorem exec_tcInval (accepted : s.accepts src (K.tcInval p) 1) :
    exec (.tcInval src p) s = .next (s.after { (s.noted src (K.tcInval p) 1).tcInvalOp p with
      due := ((s.noted src (K.tcInval p) 1).tcInvalOp p).due ++ [(.status src (K.tcInval p), .tc p)] }) := by
  obtain ⟨present, passes⟩ := accepted
  have width : objWidth (K.tcInval p) = 1 := by simp [objWidth, row_tcInval, OType.bytes]
  rw [width] at passes
  have value : bytesNat (natBytes 1 1) = 1 := by decide
  have notCommit : K.tcInval p ≠ K.commitObj := not_commit (row_tcInval p) (.inl (by decide))
  obtain ⟨-, busy, -⟩ := (s.noted src (K.tcInval p) 1).tcInvalOp_acts p
  have write : s.begin.objWrite src (K.tcInval p) (natBytes 1 1) false {} = ((s.noted src (K.tcInval p) 1).tcInvalOp p, 0) := by
    rw [← effect_tcInval _ src p {}]
    simp [State.objWrite, begin_writeStatus, passes, row_tcInval, value, State.accept, notCommit, State.noted, begin_journalSrc, allOnes64]
  refine exec_eq_of_effect rfl (Eq.trans ?_ (State.answerWrite_tcInval (s := s.begin) busy))
  change s.begin.cmdWrite src (K.tcInval p) 1 = _
  rw [State.cmdWrite, State.regWrite, State.bytesWrite, begin_srcPresent, present, width, write, value]
  rfl

end

/-- Settles O54: PART_RESET and TC_INVAL are accepted writes whose effects are `startReset` and `tcInvalOp`; the three ends are each their own
operation at `s.begin` by its condition. That the answer of TC_INVAL waits for TC_INVAL_BUSY 0 and that an end out of place changes nothing
are the model's reading (log entries 56, 7). -/
theorem partitionsAreResetAndInvalidated : Obligations.PartitionsAreResetAndInvalidated := by
  unfold Obligations.PartitionsAreResetAndInvalidated
  refine ⟨fun s src p => ⟨?graceful, ?immediate, ?tcInval⟩, fun s p => ⟨fun r running => ?reset, fun idle => ?noReset, ?walked, ?walks⟩⟩
  case graceful => exact exec_partReset rfl (by decide)
  case immediate => exact exec_partReset rfl (by decide)
  case tcInval =>
    intro accepted
    obtain ⟨frame, busy, empty⟩ := (s.noted src (K.tcInval p) 1).tcInvalOp_acts p
    have members : (s.noted src (K.tcInval p) 1).membersOf p = s.membersOf p := by
      obtain ⟨n, h⟩ := noted_frame s src (K.tcInval p) 1
      rw [h]
      rfl
    rw [members] at empty
    exact ⟨_, exec_tcInval accepted, frame, busy, empty⟩
  case reset =>
    have recalls := State.recallsDone_running (s := s.begin) running
    have stores := State.storesDone_running (s := s.begin) running
    refine ⟨fun early recalled => ?_, fun waits => ?_, fun late clean quiet => ?_, fun waits => ?_⟩
    · exact exec_eq_of_effect rfl (recalls.trans (if_pos ⟨early, recalled⟩))
    · refine exec_eq_of_effect rfl (recalls.trans (if_neg ?_))
      rintro ⟨early, recalled⟩
      exact waits.elim (fun late => nomatch late.symm.trans early) (fun left => nomatch left.symm.trans recalled)
    · exact ⟨_, exec_eq_of_effect rfl (stores.trans (if_pos ⟨late, clean, quiet⟩)), rfl, State.resetEnd_resetState (State.resetOf_part running)⟩
    · refine exec_eq_of_effect rfl (stores.trans (if_neg ?_))
      rintro ⟨late, clean, quiet⟩
      rcases waits with early | left | ⟨n, member, loud⟩
      · exact nomatch early.symm.trans late
      · exact nomatch left.symm.trans clean
      · exact nomatch loud.symm.trans (quiet n member)
  case noReset =>
    obtain ⟨recalls, stores⟩ := State.reset_idle (s := s.begin) idle
    exact ⟨exec_eq_of_effect rfl recalls, exec_eq_of_effect rfl stores⟩
  case walked => exact fun busy left => exec_eq_of_effect rfl ((State.tcInvalOver_eq _ _).trans (if_pos ⟨busy, left⟩))
  case walks =>
    refine fun waits => exec_eq_of_effect rfl ((State.tcInvalOver_eq _ _).trans (if_neg ?_))
    rintro ⟨busy, left⟩
    exact waits.elim (fun idle => nomatch idle.symm.trans busy) (fun walking => nomatch walking.symm.trans left)

end Sys2Proof.Machine

namespace Sys2Proof.Machine

/-! The console window's own commands (10 R276 to R278; 16 R406). -/

section

variable {s w : State} {n q st : Nat} {v : List Byte}

/-- OBJ_CTRL 1 on an object that may be read (10 R278). -/
theorem State.conObjRead_ok (read : s.objRead (conSrc n q) ((s.con n q).sel % 2 ^ 24) false = (w, 0, v)) :
    s.conObjRead n q = w.modCon n q (fun c => { c with
      status := 0, data0 := bytesNat v % 2 ^ 32, data1 := bytesNat v / 2 ^ 32 % 2 ^ 32 }) := by
  simp only [State.conObjRead, read]

/-- OBJ_CTRL 1 on one that may not shows the status alone (10 R278). -/
theorem State.conObjRead_refused (read : s.objRead (conSrc n q) ((s.con n q).sel % 2 ^ 24) false = (w, st, v)) (refused : st ≠ 0) :
    s.conObjRead n q = w.modCon n q (fun c => { c with status := st }) := by
  simp only [State.conObjRead, read]

/-- OBJ_CTRL 2 shows the status of the write (10 R278). -/
theorem State.conObjWrite_status (write : s.objWrite (conSrc n q) ((s.con n q).sel % 2 ^ 24)
      (natBytes (min 9 (s.con n q).len) ((s.con n q).data0 + (s.con n q).data1 * 2 ^ 32)) false {} = (w, st)) :
    (s.conObjWrite n q).1 = w.modCon n q (fun c => { c with status := st }) := by
  simp only [State.conObjWrite, write]

end

/-- Settles O55: each row is its operation at `s.begin` where the port may use the page, and nothing elsewhere. The record of TIME_LO with
object 0x0008 and that a port out of Run does nothing are the model's reading (log entries 24, 11). -/
theorem consoleCommandsAct : Obligations.ConsoleCommandsAct := by
  unfold Obligations.ConsoleCommandsAct
  intro s n q
  refine ⟨fun may => ⟨fun w v read => ?_, fun w st v read refused => ?_, fun w st write => ?_, ?_⟩, fun mayNot => ⟨?_, ?_, ?_⟩⟩
  · exact exec_eq_of_effect rfl ((if_pos may).trans (State.conObjRead_ok read))
  · exact exec_eq_of_effect rfl ((if_pos may).trans (State.conObjRead_refused read refused))
  · exact exec_eq_of_effect rfl ((if_pos may).trans (State.conObjWrite_status write))
  · exact exec_eq_of_effect rfl (if_pos may)
  all_goals exact exec_eq_of_effect rfl (if_neg (ne_true_of_eq_false mayNot))

end Sys2Proof.Machine

namespace Sys2Proof.Machine

/-! Levels (11 R295, R300, R301). -/

/-- A step that completes, with a command or without, is the hub's own work after it, and the queue has lost its front (log entries 1, 2). -/
theorem step_next {s t : State} (steps : step s = .next t) : ∃ v u : State, v.pending = s.pending.tail ∧ t = v.after u := by
  cases queue : s.pending with
  | nil =>
    have idle : step s = idleTick s := by simp only [step, queue]
    rw [idle] at steps
    cases steps
    exact ⟨s, _, queue, rfl⟩
  | cons c rest =>
    rw [step_of_pending_cons queue] at steps
    obtain ⟨u, hu⟩ := exec_next _ steps
    exact ⟨_, u, rfl, hu⟩

/-- Settles O4: every step ends in `State.after`, whose last act is to make the levels exact, and whose queue is that of its command. -/
theorem everyStepLeavesExactPins : Obligations.EveryStepLeavesExactPins := by
  unfold Obligations.EveryStepLeavesExactPins
  intro s t steps
  obtain ⟨v, u, queue, rfl⟩ := step_next steps
  exact ⟨State.after_pinsExact v u, (State.after_pending v u).trans queue⟩

/-- Without PD2 no partition presents (14 R352). -/
theorem State.presents_unpowered {s : State} (off : s.pd 2 = false) (p : Nat) : s.presents p = false := by
  simp [State.presents, off]

/-- Settles O5: at reset PD2 is off, so that no partition presents, and the hub is in Off, with no presence fault. -/
theorem resetPinsAreExact : Obligations.ResetPinsAreExact := by
  unfold Obligations.ResetPinsAreExact
  have silent := State.presents_unpowered (s := State.reset) rfl
  have irq : State.reset.irqPins = 0 := rfl
  refine ⟨fun n _ => ?_, ?_, ?_⟩
  · simp [silent, irq]
  · exact iff_of_false Bool.false_ne_true (fun ⟨park, _⟩ => nomatch park)
  · exact iff_of_false Bool.false_ne_true (fun ⟨low, _⟩ => by simp [State.reset] at low)

end Sys2Proof.Machine

namespace Sys2Proof.Machine

/-! The candidate (11 R295). -/

/-- The best pending and enabled INTID of partition p below n, with its priority (11 R295). -/
structure State.BestBelow (s : State) (p n i q : Nat) : Prop where
  below : i < n
  pends : (s.ctl p).pending.getLsbD i = true
  enabled : s.intEnabled p i = true
  pri : q = s.intPri p i
  best : ∀ j, j < n → (s.ctl p).pending.getLsbD j = true → s.intEnabled p j = true → q < s.intPri p j ∨ (q = s.intPri p j ∧ i ≤ j)

/-- What the search for the candidate holds after the INTIDs below n: the best of them, or none where none is pending and enabled. -/
def State.searchHolds (s : State) (p n : Nat) : Option (Nat × Nat) → Prop
  | some (i, q) => s.BestBelow p n i q
  | none => ∀ j, j < n → (s.ctl p).pending.getLsbD j = true → s.intEnabled p j = false

/-- One INTID of the search for the candidate. -/
def State.searchStep (s : State) (p : Nat) (best : Option (Nat × Nat)) (i : Nat) : Option (Nat × Nat) :=
  if (s.ctl p).pending.getLsbD i && s.intEnabled p i then better best i (s.intPri p i) else best

section

variable {s : State} {p n : Nat}

theorem State.candidate_eq : s.candidate p = if (s.ctl p).pending = 0 then none else (List.range 256).foldl (s.searchStep p) none := rfl

/-- An INTID that is not both pending and enabled leaves the search as it is. -/
theorem State.searchStep_passes (passes : ((s.ctl p).pending.getLsbD n && s.intEnabled p n) = false) {b : Option (Nat × Nat)}
    (holds : s.searchHolds p n b) : s.searchHolds p (n + 1) (s.searchStep p b n) := by
  have skip : s.searchStep p b n = b := if_neg (by simp [passes])
  rw [skip]
  have earlier : ∀ j, j < n + 1 → (s.ctl p).pending.getLsbD j = true → s.intEnabled p j = true → j < n := by
    intro j hj pends enabled
    rcases Nat.lt_succ_iff_lt_or_eq.1 hj with before | rfl
    · exact before
    · simp [pends, enabled] at passes
  cases b with
  | none =>
    intro j hj pends
    cases enabled : s.intEnabled p j with
    | false => rfl
    | true => exact enabled.symm.trans (holds j (earlier j hj pends enabled) pends)
  | some x =>
    obtain ⟨below, pends, enabled, pri, best⟩ := holds
    exact ⟨by omega, pends, enabled, pri, fun j hj pj ej => best j (earlier j hj pj ej) pj ej⟩

/-- A pending and enabled INTID takes the place of the best so far where its priority value is lower. -/
theorem State.searchStep_offers (pends : (s.ctl p).pending.getLsbD n = true) (enabled : s.intEnabled p n = true) {b : Option (Nat × Nat)}
    (holds : s.searchHolds p n b) : s.searchHolds p (n + 1) (s.searchStep p b n) := by
  have offer : s.searchStep p b n = better b n (s.intPri p n) := if_pos (by simp [pends, enabled])
  rw [offer]
  cases b with
  | none =>
    refine ⟨by omega, pends, enabled, rfl, fun j hj pj ej => ?_⟩
    rcases Nat.lt_succ_iff_lt_or_eq.1 hj with before | rfl
    · exact nomatch ej.symm.trans (holds j before pj)
    · exact .inr ⟨rfl, le_rfl⟩
  | some x =>
    obtain ⟨i, q⟩ := x
    obtain ⟨below, pendsI, enabledI, pri, best⟩ := holds
    by_cases lower : s.intPri p n < q
    · rw [show better (some (i, q)) n (s.intPri p n) = some (n, s.intPri p n) from if_pos lower]
      refine ⟨by omega, pends, enabled, rfl, fun j hj pj ej => ?_⟩
      rcases Nat.lt_succ_iff_lt_or_eq.1 hj with before | rfl
      · have := best j before pj ej
        omega
      · exact .inr ⟨rfl, le_rfl⟩
    · rw [show better (some (i, q)) n (s.intPri p n) = some (i, q) from if_neg lower]
      refine ⟨by omega, pendsI, enabledI, pri, fun j hj pj ej => ?_⟩
      rcases Nat.lt_succ_iff_lt_or_eq.1 hj with before | rfl
      · exact best j before pj ej
      · omega

variable (s p)

/-- The search over the INTIDs below n. -/
theorem State.search_holds (n : Nat) : s.searchHolds p n ((List.range n).foldl (s.searchStep p) none) := by
  induction n with
  | zero => exact fun j hj => absurd hj (Nat.not_lt_zero j)
  | succ n ih =>
    rw [List.range_succ, List.foldl_append, List.foldl_cons, List.foldl_nil]
    cases eligible : (s.ctl p).pending.getLsbD n && s.intEnabled p n with
    | false => exact State.searchStep_passes eligible ih
    | true =>
      obtain ⟨pends, enabled⟩ := Bool.and_eq_true_iff.1 eligible
      exact State.searchStep_offers pends enabled ih

/-- The candidate is what the search over all INTIDs holds (11 R295). -/
theorem State.candidate_holds : s.searchHolds p 256 (s.candidate p) := by
  rw [State.candidate_eq]
  split
  case isTrue idle =>
    intro j _ pends
    simp [idle] at pends
  case isFalse => exact s.search_holds p 256

theorem State.linePresents_iff : s.linePresents p = true ↔ ∃ i q, s.candidate p = some (i, q) ∧ q < (s.ctl p).running := by
  unfold State.linePresents
  cases s.candidate p with
  | none => simp
  | some x =>
    obtain ⟨i, q⟩ := x
    simp

end

/-- Settles O17: the search for the candidate holds, after each INTID, the best of those it has seen. -/
theorem candidateIsTheBestPendingIntid : Obligations.CandidateIsTheBestPendingIntid := by
  unfold Obligations.CandidateIsTheBestPendingIntid
  intro s p
  have holds := s.candidate_holds p
  refine ⟨fun i q found => ?_, fun absent => ?_, fun empty => ?_, fun i q rest stacked => ?_, s.linePresents_iff p⟩
  · rw [found] at holds
    obtain ⟨below, pends, enabled, pri, best⟩ := holds
    exact ⟨below, pends, enabled, pri, best⟩
  · rwa [absent] at holds
  · simp only [CtlSt.running, empty]
  · simp only [CtlSt.running, stacked]

end Sys2Proof.Machine

namespace Sys2Proof.Machine

/-! CLAIM (11 R296). -/

section

variable {s : State} {p : Nat}

/-- A claim with a candidate below the running priority takes it. -/
theorem State.claimOp_takes {i q : Nat} (line : s.ledgerMode p = false) (on : s.pd 2 = true) (found : s.candidate p = some (i, q))
    (below : q < (s.ctl p).running) :
    s.claimOp p = ((s.modCtl p (fun c => { c with
      pending := c.pending &&& ~~~ (bit256 i), active := c.active ||| bit256 i, stack := (i, q) :: c.stack })).bump (K.claims p),
      i + q * 2 ^ 16) := by
  simp only [State.claimOp, line, on, found, if_pos below]
  rfl

/-- A claim in LEDGER mode, without PD2, or with no candidate below the running priority changes nothing and reads 1023. -/
theorem State.claimOp_none (nothing : s.ledgerMode p = true ∨ s.pd 2 = false ∨ s.linePresents p = false) : s.claimOp p = (s, 1023) := by
  unfold State.claimOp
  split
  case isTrue => rfl
  case isFalse claims =>
    have silent : s.linePresents p = false := by
      rcases nothing with ledger | off | silent
      · simp [ledger] at claims
      · simp [off] at claims
      · exact silent
    cases found : s.candidate p with
    | none => rfl
    | some x =>
      have notBelow : ¬ x.2 < (s.ctl p).running := by simpa [State.linePresents, found] using silent
      exact if_neg notBelow

end

/-- Outside Bring-up and Fault-hold no read is refused for the mode (16 R407). -/
theorem State.readMode_zero {s : State} (awake : s.mode ≠ .bringup) (unheld : s.mode ≠ .faultHold) (k : Nat) : s.readMode k = 0 := by
  unfold State.readMode
  split
  case h_1 mode => exact absurd mode awake
  case h_2 mode => exact absurd mode unheld
  all_goals rfl

/-- The read of CLAIM has the claim's effect and returns its value (11 R296; 17 R425). -/
theorem State.readEffect_claim (s : State) (p : Part) (r : ORow) :
    s.readEffect (K.claim p) r false = ((s.claimOp p).1, natBytes 4 (s.claimOp p).2) := by
  have index : K.claim p / 256 = 0x2110 + p := okey_index _ _ (by decide)
  have sub : K.claim p % 256 = 4 := okey_sub _ _ (by decide)
  have partition : 0x2110 + p.val < 0x2120 := Nat.add_lt_add_left p.isLt _
  simp only [State.readEffect, index, sub, Nat.le_add_right, partition, Nat.add_sub_cancel_left, and_self, if_true]

section

variable {s t : State} {src : Src} {p : Part} {v : Nat} (present : s.srcPresent src = true) (awake : s.mode ≠ .bringup)
  (unheld : s.mode ≠ .faultHold) (permitted : s.permits src (K.claim p) .u32 false = true)

include present awake unheld permitted

/-- CLAIM read by a source that may answers what the claim gives. -/
theorem exec_claim (claim : s.begin.claimOp p = (t, v)) :
    exec (.claim src p) s = .next (s.after (t.emit (.objStatus src (K.claim p) 0 (natBytes 4 v)))) := by
  have mode : s.begin.readMode (K.claim p) = 0 := State.readMode_zero (s := s.begin) awake unheld _
  have may : s.begin.permits src (K.claim p) .u32 false = true := permitted
  have read : s.begin.objRead src (K.claim p) false = (t, 0, natBytes 4 v) := by
    simp [State.objRead, mode, row_claim, may, State.readEffect_claim, claim]
  refine exec_eq_of_effect rfl ?_
  change s.begin.regRead src (K.claim p) = _
  simp only [State.regRead, begin_srcPresent, present, read]
  rfl

end

/-- Settles O18: CLAIM is a read whose effect is `claimOp`, which takes the candidate or does nothing. -/
theorem claimTakesTheCandidate : Obligations.ClaimTakesTheCandidate := by
  unfold Obligations.ClaimTakesTheCandidate
  intro s src p present awake unheld permitted
  refine ⟨fun i q line on found below => ?_, fun nothing => ?_⟩
  · exact exec_claim present awake unheld permitted (State.claimOp_takes (s := s.begin) line on found below)
  · exact exec_claim present awake unheld permitted (State.claimOp_none (s := s.begin) nothing)

end Sys2Proof.Machine

namespace Sys2Proof.Machine

/-! Registers of the interrupt controllers and the ledgers (11 R293, R294, R298, R305, R307). -/

section

variable {s : State} {src : Src} {k v : Nat}

@[simp] theorem noted_ledger (p l : Nat) : (s.noted src k v).ledger p l = s.ledger p l := by
  obtain ⟨n, h⟩ := noted_frame s src k v
  rw [h]
  rfl

@[simp] theorem noted_levelAsserted (p i : Nat) : (s.noted src k v).levelAsserted p i = s.levelAsserted p i := by
  obtain ⟨n, h⟩ := noted_frame s src k v
  rw [h]
  rfl

end

/-! EOI (11 R298). -/

section

variable {s : State} {p v port : Nat}

theorem State.eoiOp_ignored (ignored : s.ledgerMode p = true ∨ v % 1024 = 1023) : s.eoiOp p v port = s :=
  if_pos (by simpa using ignored)

/-- EOI of the INTID at the top of the stack pops it. -/
theorem State.eoiOp_pops {j q : Nat} {rest : List (Nat × Nat)} (line : s.ledgerMode p = false) (intid : v % 1024 ≠ 1023)
    (stack : (s.ctl p).stack = (j, q) :: rest) (top : v % 1024 = j) :
    s.eoiOp p v port = s.modCtl p (fun c => { c with
      stack := rest, active := c.active &&& ~~~ (bit256 j),
      pending := if s.levelAsserted p j then c.pending ||| bit256 j else c.pending }) := by
  subst top
  simp [State.eoiOp, line, intid, stack]

/-- EOI of another INTID is a mismatch. -/
theorem State.eoiOp_mismatch (line : s.ledgerMode p = false) (intid : v % 1024 ≠ 1023) (other : (s.ctl p).top ≠ v % 1024) :
    s.eoiOp p v port = s.eoiMismatch p (v % 1024) port := by
  cases stack : (s.ctl p).stack with
  | nil => simp [State.eoiOp, line, intid, stack]
  | cons x rest =>
    obtain ⟨j, q⟩ := x
    have notTop : v % 1024 ≠ j := fun h => other (by simp only [CtlSt.top, stack, h])
    simp [State.eoiOp, line, intid, stack, notTop]

end

/-- An accepted write of EOI keeps the ten bits of the INTID. -/
theorem exec_eoi {s t : State} {src : Src} {p : Part} {v : Word} (accepted : s.accepts src (K.eoi p) v.toNat)
    (acts : (s.noted src (K.eoi p) (v.toNat % 1024)).eoiOp p (v.toNat % 1024) (srcPort src) = t) :
    exec (.eoi src p v) s = .next (s.after (t.saysOk s src (K.eoi p))) := by
  have keep : v.toNat &&& 0x3FF = v.toNat % 1024 := Nat.and_two_pow_sub_one_eq_mod v.toNat 10
  exact exec_eq_of_accepted rfl accepted (row_eoi p) (by decide) v.isLt keep ((effect_eoi _ src p _ _).trans acts)

/-! PENDING (11 R294). -/

theorem getLsbD_bit256 {i j : Nat} (hi : i < 256) : (bit256 j).getLsbD i = decide (i = j) := by
  rw [bit256, BitVec.getLsbD_shiftLeft, BitVec.getLsbD_one]
  rw [Bool.eq_iff_iff]
  simp only [Bool.and_eq_true, Bool.not_eq_true', decide_eq_true_eq, decide_eq_false_iff_not]
  omega

/-- The map of the numbers f j with a property. -/
theorem getLsbD_foldl_bit256 (c : Nat → Bool) (f : Nat → Nat) {i : Nat} (hi : i < 256) (l : List Nat) (m : BitVec 256) :
    (l.foldl (fun m j => if c j then m ||| bit256 (f j) else m) m).getLsbD i = (m.getLsbD i || l.any (fun j => c j && decide (i = f j))) := by
  induction l generalizing m with
  | nil => simp
  | cons j l ih =>
    rw [List.foldl_cons, ih, List.any_cons]
    cases c j with
    | false => simp
    | true => simp [getLsbD_bit256 hi, Bool.or_assoc]

/-- What a write of word w of PENDING clears: the bits written 1, but not those of asserted level pins. -/
theorem State.pendingClearOp_pending (s : State) (p : Nat) {w i : Nat} (bits : Nat) (hi : i < 256) :
    ((s.pendingClearOp p w bits).ctl p).pending.getLsbD i =
      ((s.ctl p).pending.getLsbD i && !(decide (i / 32 = w) && bits.testBit (i % 32) && !s.levelAsserted p i)) := by
  have clears : (List.range 32).any (fun j => (bits.testBit j && !s.levelAsserted p (32 * w + j)) && decide (i = 32 * w + j)) =
      (decide (i / 32 = w) && bits.testBit (i % 32) && !s.levelAsserted p i) := by
    rw [Bool.eq_iff_iff]
    simp only [List.any_eq_true, List.mem_range, Bool.and_eq_true, decide_eq_true_eq]
    constructor
    · rintro ⟨j, hj, ⟨written, clear⟩, rfl⟩
      have word : (32 * w + j) / 32 = w := by omega
      have place : (32 * w + j) % 32 = j := by omega
      exact ⟨⟨word, place.symm ▸ written⟩, clear⟩
    · rintro ⟨⟨rfl, written⟩, clear⟩
      have place : 32 * (i / 32) + i % 32 = i := Nat.div_add_mod i 32
      exact ⟨i % 32, Nat.mod_lt _ (by decide), ⟨written, place.symm ▸ clear⟩, place.symm⟩
  simp only [State.pendingClearOp, State.ctl_modCtl_same, BitVec.getLsbD_and, BitVec.getLsbD_not, hi, decide_true, Bool.true_and]
  rw [getLsbD_foldl_bit256 (fun j => bits.testBit j && !s.levelAsserted p (32 * w + j)) _ hi, clears]
  simp

/-! LEDGER_TAIL (11 R305, R307). -/

section

variable (s : State) (p l v : Nat)

theorem State.tailOp_frame : s.tailOp p l v = { s with objs := (s.tailOp p l v).objs, ledgers := (s.tailOp p l v).ledgers } := by
  unfold State.tailOp
  dsimp only
  split
  · rfl
  · rfl

theorem State.tailOp_obj (k : Nat) : (s.tailOp p l v).obj k = (s.setObj (K.ledgerTail p l) v).obj k := by
  unfold State.tailOp
  dsimp only
  split
  · simp only [State.modLedger_obj]
  · simp only [State.modLedger_obj]

theorem State.tailOp_held : (s.tailOp p l v).ledgerHeld p l = (s.setObj (K.ledgerTail p l) v).ledgerHeld p l := by
  simp only [State.ledgerHeld, State.tailOp_obj]

/-- A ledger that holds no record is empty; one that was empty and holds some signals (11 R307). -/
theorem State.tailOp_state : ((s.tailOp p l v).ledger p l).state =
    if (s.tailOp p l v).ledgerHeld p l = 0 then 1 else if (s.ledger p l).state = 1 then 3 else (s.ledger p l).state := by
  have held (f : LedgerSt → LedgerSt) :
      ((s.setObj (K.ledgerTail p l) v).modLedger p l f).ledgerHeld p l = (s.setObj (K.ledgerTail p l) v).ledgerHeld p l := by
    simp only [State.ledgerHeld, State.modLedger_obj]
  rw [State.tailOp_held]
  simp only [State.tailOp, held]
  split
  · simp only [State.ledger_modLedger_same]
  · simp only [State.ledger_modLedger_same, State.setObj_ledger]
    split
    · rfl
    · rfl

end

/-- Settles O19: each row is its register's accepted write; EOI goes by the case of its INTID, and a write of PENDING and of LEDGER_TAIL
by what its operation leaves in the controller and the ledger. -/
theorem interruptRegistersAct : Obligations.InterruptRegistersAct := by
  unfold Obligations.InterruptRegistersAct
  intro s src p
  refine ⟨fun v accepted => ⟨fun ignored => ?_, fun j q rest line intid stack top => ?_, fun line intid other => ?_⟩, fun v accepted => ?_,
    fun w v accepted => ?_, fun l v accepted => ?_⟩
  · refine exec_eoi accepted (State.eoiOp_ignored ?_)
    rwa [noted_ledgerMode, Nat.mod_mod]
  · refine exec_eoi accepted ((State.eoiOp_pops (j := j) (q := q) (rest := rest) ?_ ?_ ?_ ?_).trans ?_)
    · rwa [noted_ledgerMode]
    · rwa [Nat.mod_mod]
    · rwa [noted_ctl]
    · rwa [Nat.mod_mod]
    · simp only [noted_levelAsserted]
  · refine exec_eoi accepted ((State.eoiOp_mismatch ?_ ?_ ?_).trans ?_)
    · rwa [noted_ledgerMode]
    · rwa [Nat.mod_mod]
    · rwa [noted_ctl, Nat.mod_mod]
    · simp only [State.eoiMismatch, noted_ctl, Nat.mod_mod]
  · exact exec_eq_of_accepted rfl accepted (row_doorbell p) (by decide) v.isLt (and_allOnes64 _ (by omega)) (effect_doorbell _ src p _ _)
  · refine ⟨_, exec_eq_of_accepted rfl accepted (row_pending p w) (by decide) v.isLt (and_allOnes64 _ (by omega))
      (effect_pending _ src p w _ _), rfl, fun q other => ?_, ?_, ?_, fun i hi => ?_⟩
    · rw [State.pendingClearOp, State.ctl_modCtl, if_neg other, noted_ctl]
    · rw [State.pendingClearOp, State.ctl_modCtl_same, noted_ctl]
    · rw [State.pendingClearOp, State.ctl_modCtl_same, noted_ctl]
    · rw [State.pendingClearOp_pending _ _ _ hi, noted_ctl, noted_levelAsserted, BitVec.testBit_toNat]
  · refine ⟨_, exec_eq_of_accepted rfl accepted (row_ledgerTail p l) (by simp) v.isLt (and_allOnes64 _ (by omega))
      (effect_ledgerTail _ src p l _ _), State.tailOp_frame _ _ _ _, ?_, fun k other => ?_, fun empty => ?_, fun holds => ?_⟩
    · rw [State.tailOp_obj, State.obj_setObj_same]
    · rw [State.tailOp_obj, State.obj_setObj_other _ _ other, noted_obj]
    · rw [State.tailOp_state, if_pos empty]
    · rw [State.tailOp_state, if_neg holds, noted_ledger]

end Sys2Proof.Machine

namespace Sys2Proof.Machine

/-! One occurrence of an INTID (11 R289, R294, R302, R306). -/

section

variable {s : State} {p i pri detail port time : Nat}

theorem State.occurOnly_unpowered (off : s.pd 2 = false) : s.occurOnly p i pri detail port time = (s, false) := by
  simp only [State.occurOnly, off]
  rfl

/-- In LINE mode the INTID pends (11 R294). -/
theorem State.occurOnly_line (on : s.pd 2 = true) (line : s.ledgerMode p = false) :
    s.occurOnly p i pri detail port time = (s.modCtl p (fun c => { c with
      pending := c.pending ||| BitVec.ofNat 256 (2 ^ i)
      info := if c.pending.getLsbD i then c.info else tput (detail, port, time) i c.info }), false) := by
  simp only [State.occurOnly, on, line]
  rfl

theorem State.occurOnly_disabled (on : s.pd 2 = true) (ledger : s.ledgerMode p = true) (disabled : s.intEnabled p i = false) :
    s.occurOnly p i pri detail port time = (s, false) := by
  simp only [State.occurOnly, on, ledger, disabled]
  rfl

theorem State.occurOnly_record (on : s.pd 2 = true) (ledger : s.ledgerMode p = true) (enabled : s.intEnabled p i = true) :
    s.occurOnly p i pri detail port time = s.formRecord p i pri detail port time := by
  simp only [State.occurOnly, on, ledger, enabled]
  rfl

/-- An occurrence that owes no event 14 ends there (11 R306). -/
theorem State.occurPri_alone {t : State} (only : s.occurOnly p i pri detail port time = (t, false)) :
    s.occurPri p i pri detail port time = t := by
  simp only [State.occurPri, only]

/-- The first drop of an episode is event 14 in the supervisor (11 R306). -/
theorem State.occurPri_drops {u : State} (only : s.occurOnly p i pri detail port time = (u, true)) :
    s.occurPri p i pri detail port time =
      (u.occurOnly u.inForce.supervisor 14 (u.intPri u.inForce.supervisor 14) (p + 16 * s.recordLedger p i) 63).1 := by
  simp only [State.occurPri, only]

variable {l held : Nat} (hl : l = s.recordLedger p i)
  (hheld : held = ((s.ledger p l).next + 2 ^ 32 - s.obj (K.ledgerTail p l)) % 2 ^ 32)

include hl hheld

/-- A ring with room takes the record (11 R305). -/
theorem State.formRecord_forms (room : held < s.ledgerSize p l) {r : LedgerRec}
    (hr : r = {
      index := (s.ledger p l).next, pri := pri
      data := ledgerRecord i pri (s.ledger p l).overflow ((s.ledger p l).next / s.ledgerSize p l % 2 == 0) l port detail time }) :
    s.formRecord p i pri detail port time = (s.modLedger p l (fun g =>
      { g with overflow := false, full := false, next := (g.next + 1) % 2 ^ 32, recs := g.recs ++ [r] }), false) := by
  subst hl hheld hr
  exact if_neg (Nat.not_le.2 room)

/-- A full ring drops it (11 R306). -/
theorem State.formRecord_drops (full : s.ledgerSize p l ≤ held) :
    s.formRecord p i pri detail port time =
      ((s.bump (K.ledgerDropped p l)).modLedger p l (fun g => { g with overflow := true, full := true }), !(s.ledger p l).full) := by
  subst hl hheld
  exact if_pos full

end

/-- Settles O20: an occurrence by the mode of its controller, and in LEDGER mode by the room of its ledger. That detail, port and time stay
those of the occurrence that made the INTID pending is the model's reading (log entry 89). -/
theorem anOccurrencePendsOrIsRecorded : Obligations.AnOccurrencePendsOrIsRecorded := by
  unfold Obligations.AnOccurrencePendsOrIsRecorded
  intro s p i detail port
  refine ⟨State.occurPri_eventsOnly s _ _ _ _ _ _, fun off => ?_, fun on line => ?_, fun on ledger disabled => ?_,
    fun on ledger enabled l held hl hheld => ⟨fun room => ?_, fun full u hu => ?_⟩⟩
  · exact State.occurPri_alone (State.occurOnly_unpowered off)
  · exact State.occurPri_alone (State.occurOnly_line on line)
  · exact State.occurPri_alone (State.occurOnly_disabled on ledger disabled)
  · have forms := State.formRecord_forms (pri := s.intPri p i) (detail := detail) (port := port) (time := s.deviceTime) hl hheld room rfl
    exact ⟨_, rfl, rfl, rfl, rfl, State.occurPri_alone ((State.occurOnly_record on ledger enabled).trans forms)⟩
  · subst hl hu
    have drops := (State.occurOnly_record (pri := s.intPri p i) (detail := detail) (port := port) (time := s.deviceTime) on ledger
      enabled).trans (State.formRecord_drops rfl hheld full)
    refine ⟨fun again => ?_, fun first => ?_⟩
    · rw [again] at drops
      exact State.occurPri_alone drops
    · rw [first] at drops
      exact State.occurPri_drops drops

end Sys2Proof.Machine

namespace Sys2Proof.Machine

/-! Events of the ledgers and the pins (11 R291, R292, R307, R309). -/

section

variable {s : State} {p : Nat}

/-- ALLWAIT_GRACE out of place does nothing (11 R309). -/
theorem State.graceOver_idle (idle : s.dead = true ∨ s.pd 2 = false ∨ s.obj (K.allwaitGrace p) = 0 ∨ s.allWait p = false) :
    s.graceOver p = s :=
  if_pos (by simpa [or_assoc] using idle)

section

variable (alive : s.dead = false) (on : s.pd 2 = true) (grace : s.obj (K.allwaitGrace p) ≠ 0) (waits : s.allWait p = true)

include alive on grace waits

/-- ALLWAIT_GRACE with every port waiting wakes the presenting port (11 R309). -/
theorem State.graceOver_wakes {n : Nat} (presents : (s.occurPri p 7 0 0 63).presenter p = some n) :
    s.graceOver p = (s.occurPri p 7 0 0 63).wakePort n := by
  simp [State.graceOver, alive, on, grace, waits, presents]

/-- With no presenting port it is event 7 alone (11 R309). -/
theorem State.graceOver_alone (presents : (s.occurPri p 7 0 0 63).presenter p = none) : s.graceOver p = s.occurPri p 7 0 0 63 := by
  simp [State.graceOver, alive, on, grace, waits, presents]

end

variable {i : Nat} {b : Bool}

/-- The level already accepted, or one that comes without PD2, is no event (11 R291). -/
theorem State.pinAccepts_same (same : s.evinLevel.getLsbD i = b ∨ s.pd 2 = false) : s.pinAccepts i b = s :=
  if_pos (by simpa [or_comm] using same)

/-- A new level of a pin in mode 5 is one occurrence (11 R291, R292). -/
theorem State.pinAccepts_edge (on : s.pd 2 = true) (new : s.evinLevel.getLsbD i ≠ b) (mode : s.obj (K.evinMode i) = 5)
    (low : s.evinAsserted.getLsbD i = false) :
    s.pinAccepts i b = ({ s with
      evinLevel := if b then s.evinLevel ||| 1#64 <<< i else s.evinLevel &&& ~~~ (1#64 <<< i) } : State).pinOccurs i false := by
  have mode' (e : BitVec 64) : ({ s with evinLevel := e } : State).obj (K.evinMode i) = 5 := mode
  simp [State.pinAccepts, on, new, low, mode']

end

/-- Settles O21: each row is its own operation at `s.begin`, by its condition. That event 7 has priority 0 and wakes the presenting port,
that ALLWAIT_GRACE 0 is off, and that an event out of place changes nothing, are the model's reading (log entries 25, 7). -/
theorem ledgerAndPinEventsAct : Obligations.LedgerAndPinEventsAct := by
  unfold Obligations.LedgerAndPinEventsAct
  intro s p
  refine ⟨fun l visible => ?_, fun l hidden => ?_, fun l moderates => ?_, fun l idle => ?_, fun idle => ?_,
    fun n alive on grace waits presents => ?_, fun alive on grace waits presents => ?_, fun i b viom on new mode low => ?_, fun i b same => ?_⟩
  · exact exec_eq_of_effect rfl (if_pos (show s.begin.recordVisible p l = true from visible))
  · exact exec_eq_of_effect rfl (if_neg (ne_true_of_eq_false (show s.begin.recordVisible p l = false from hidden)))
  · exact exec_eq_of_effect rfl (if_pos (show (s.begin.ledger p l).state = 2 from moderates))
  · exact exec_eq_of_effect rfl (if_neg (show (s.begin.ledger p l).state ≠ 2 from idle))
  · exact exec_eq_of_effect rfl (State.graceOver_idle (s := s.begin) idle)
  · exact exec_eq_of_effect rfl (State.graceOver_wakes (s := s.begin) alive on grace waits presents)
  · exact exec_eq_of_effect rfl (State.graceOver_alone (s := s.begin) alive on grace waits presents)
  · exact exec_eq_of_effect rfl ((if_pos (show s.begin.viom = true from viom)).trans (State.pinAccepts_edge (s := s.begin) on new mode low))
  · cases driven : s.viom with
    | false => exact exec_eq_of_effect rfl (if_neg (ne_true_of_eq_false (show s.begin.viom = false from driven)))
    | true =>
      refine exec_eq_of_effect rfl ((if_pos (show s.begin.viom = true from driven)).trans (State.pinAccepts_same (s := s.begin) ?_))
      exact same.imp_right fun off => off.resolve_left (by simp [driven])

end Sys2Proof.Machine

namespace Sys2Proof.Machine

/-! Registers of an accession channel (12 R317, R323, R324, R333). -/

section

variable {s : State} {src : Src} {c : Acc}

/-- An accepted ACC_CMD does what its value names (12 R323, R324). -/
theorem exec_accCmd {i : Instr} {v : Nat} {t : State} (writes : s.registerWrite i = some (src, K.accCmd c, v, {})) (small : v < 256)
    (accepted : s.accepts src (K.accCmd c) v) (acts : (s.noted src (K.accCmd c) v).accCommand c v = t) :
    exec i s = .next (s.after (t.saysOk s src (K.accCmd c))) :=
  exec_eq_of_accepted writes accepted (row_accCmd c) (by decide) small (and_allOnes64 v (by omega)) ((effect_accCmd _ src c v _).trans acts)

/-- An accepted ACC_ENABLE is the write of the enable (12 R317, R333). -/
theorem exec_accEnable {v : Byte} {n : Nat} {t : State} (value : v.toNat = n) (accepted : s.accepts src (K.accEnable c) n)
    (acts : (s.noted src (K.accEnable c) n).accEnableWrite c n = t) :
    exec (.accEnable src c v) s = .next (s.after (t.saysOk s src (K.accEnable c))) := by
  subst value
  exact exec_eq_of_accepted rfl accepted (row_accEnable c) (by decide) v.isLt (and_allOnes64 _ (by omega))
    ((effect_accEnable _ src c _ _).trans acts)

/-- What each value of ACC_CMD names (12 R323, R324). -/
theorem State.accCommand_mark (s : State) (c : Nat) : s.accCommand c 1 = s.accMark c := by simp only [State.accCommand, if_true]

theorem State.accCommand_rewind (s : State) (c : Nat) : s.accCommand c 2 = s.accRewind c := by simp [State.accCommand]

theorem State.accCommand_release (s : State) (c : Nat) : s.accCommand c 3 = s.accRelease c := by simp [State.accCommand]

theorem State.accCommand_flush (s : State) (c : Nat) : s.accCommand c 4 = s.accFlush c := by simp [State.accCommand]

/-- FLUSH waits for the end of a packet in progress (12 R324). -/
theorem State.accFlush_busy (packet : (s.acc c).inPacket = true) :
    s.accFlush c = s.modAcc c (fun a => { a with flushPending := true }) := if_pos packet

/-- FLUSH with no packet in progress takes effect at once (12 R324). -/
theorem State.accFlush_idle (idle : (s.acc c).inPacket = false) : s.accFlush c = s.accFlushNow c := if_neg (ne_true_of_eq_false idle)

/-- ACC_ENABLE 1 only reads as written: the write side starts of itself (12 R317). -/
theorem State.accEnableWrite_one : s.accEnableWrite c 1 = s.setObj (K.accEnable c) 1 := if_neg (fun h => absurd h.2 (by decide))

/-- A fall of ACC_ENABLE stops and empties the channel (12 R317, R333). -/
theorem State.accEnableWrite_falls (enabled : s.obj (K.accEnable c) = 1) :
    s.accEnableWrite c 0 = ((s.setObj (K.accEnable c) 0).accStop c).accEmpty c := if_pos ⟨enabled, rfl⟩

end

/-- Settles O22: each row of ACC_CMD is its own operation on the journalled state, FLUSH by whether a packet is in progress, and ACC_ENABLE
by whether the write is a fall. -/
theorem accessionRegistersAct : Obligations.AccessionRegistersAct := by
  unfold Obligations.AccessionRegistersAct
  intro s src c
  refine ⟨fun accepted => ?_, fun m accepted _ => ?_, fun accepted => ?_, fun accepted => ⟨fun busy => ?_, fun idle => ?_⟩, fun accepted => ?_,
    fun accepted enabled => ?_⟩
  · exact exec_accCmd rfl (by decide) accepted (State.accCommand_mark _ _)
  · exact exec_accCmd rfl (by decide) accepted (State.accCommand_rewind _ _)
  · exact exec_accCmd rfl (by decide) accepted (State.accCommand_release _ _)
  · exact exec_accCmd rfl (by decide) accepted ((State.accCommand_flush _ _).trans (State.accFlush_busy (by rwa [noted_acc])))
  · exact exec_accCmd rfl (by decide) accepted ((State.accCommand_flush _ _).trans (State.accFlush_idle (by rwa [noted_acc])))
  · exact exec_accEnable rfl accepted State.accEnableWrite_one
  · exact exec_accEnable rfl accepted (State.accEnableWrite_falls (by rwa [noted_obj]))

/-! Reads of an accession channel (12 R325). -/

section

variable {s t : State} {src : Src} {c : Acc}

theorem State.accRead_reads {p : PktRec} (found : (s.acc c).atR = some p) (mode : (s.acc c).cfg.mode = 0)
    (readable : p.readable (s.acc c).r = true) :
    s.accRead c = (s.modAcc c (fun a => { a with wstat := wordStatus p a.r, r := a.r + 1 }), (tget 0 (s.acc c).buf (s.acc c).r).toNat) := by
  simp only [State.accRead, found, mode, readable, and_self, if_true]

/-- Where no word is readable ACC_DATA reads 0 and R stays. -/
theorem State.accRead_none (none : ∀ p, (s.acc c).atR = some p → (s.acc c).cfg.mode ≠ 0 ∨ p.readable (s.acc c).r = false) :
    s.accRead c = (s.modAcc c (fun a => { a with wstat := 64 }), 0) := by
  cases found : (s.acc c).atR with
  | none => simp only [State.accRead, found]
  | some p =>
    have unreadable : ¬((s.acc c).cfg.mode = 0 ∧ p.readable (s.acc c).r = true) := by
      rintro ⟨mode, readable⟩
      exact (none p found).elim (absurd mode) (fun h => absurd (h.symm.trans readable) (by decide))
    simp only [State.accRead, found, if_neg unreadable]

theorem State.accReadBlock_reads {p : PktRec} {n : Nat} (found : (s.acc c).atR = some p) (mode : (s.acc c).cfg.mode = 0)
    (words : readableWords p (s.acc c).r 256 = n) (some : n ≠ 0) :
    s.accReadBlock c = (s.modAcc c (fun a => { a with wstat := wordStatus p (a.r + n - 1), r := a.r + n }),
      (List.range n).flatMap (fun i => natBytes 4 (tget 0 (s.acc c).buf ((s.acc c).r + i)).toNat)) := by
  simp only [State.accReadBlock, found, mode, words, some, if_true, if_false]

theorem State.accReadBlock_none (none : ∀ p, (s.acc c).atR = some p → (s.acc c).cfg.mode ≠ 0 ∨ readableWords p (s.acc c).r 256 = 0) :
    s.accReadBlock c = (s.modAcc c (fun a => { a with wstat := 64 }), []) := by
  cases found : (s.acc c).atR with
  | none => simp only [State.accReadBlock, found]
  | some p =>
    have unread : (if (s.acc c).cfg.mode = 0 then readableWords p (s.acc c).r 256 else 0) = 0 :=
      (none p found).elim (fun drain => if_neg drain) (fun noWord => by rw [noWord, ite_self])
    simp only [State.accReadBlock, found, unread, if_true]

/-- The reads of ACC_DATA and ACC_BLOCK have the effects of their rules (17 R425). -/
theorem State.readEffect_accData (s : State) (c : Acc) (r : ORow) :
    s.readEffect (K.accData c) r false = ((s.accRead c).1, natBytes 4 (s.accRead c).2) := by
  have index : K.accData c / 256 = 0x2700 + c := okey_index _ _ (by decide)
  have sub : K.accData c % 256 = 7 := okey_sub _ _ (by decide)
  have notClaim : ¬(0x2110 ≤ 0x2700 + c.val ∧ 0x2700 + c.val < 0x2120 ∧ 7 = 4) := by omega
  have channel : 0x2700 + c.val < 0x270C := Nat.add_lt_add_left c.isLt _
  simp only [State.readEffect, index, sub, if_neg notClaim, Nat.le_add_right, channel, Nat.add_sub_cancel_left, and_self, if_true]

theorem State.readEffect_accBlock (s : State) (c : Acc) (r : ORow) : s.readEffect (K.accBlock c) r false = s.accReadBlock c := by
  have index : K.accBlock c / 256 = 0x2700 + c := okey_index _ _ (by decide)
  have sub : K.accBlock c % 256 = 0x0C := okey_sub _ _ (by decide)
  have notClaim : ¬(0x2110 ≤ 0x2700 + c.val ∧ 0x2700 + c.val < 0x2120 ∧ 0x0C = 4) := by omega
  have notData : (0x0C = 7) = False := by decide
  have channel : 0x2700 + c.val < 0x270C := Nat.add_lt_add_left c.isLt _
  simp only [State.readEffect, index, sub, if_neg notClaim, notData, Nat.le_add_right, channel, Nat.add_sub_cancel_left, and_false,
    and_self, if_true, if_false]

section

variable {k : Nat} {r : ORow} {v : List Byte} (present : s.srcPresent src = true) (awake : s.mode ≠ .bringup) (unheld : s.mode ≠ .faultHold)

include present awake unheld

/-- A read command whose checks all pass has the effect of its object's read and answers its value (16 R406; 17 R425). -/
theorem State.regRead_reads (row : lookupRow (k / 256) (k % 256) = some r) (permitted : s.permits src k r.ty false = true)
    (readable : r.acc ≠ .wo) (read : s.begin.readEffect k r false = (t, v)) :
    s.begin.regRead src k = t.emit (.objStatus src k 0 v) := by
  have mode : s.begin.readMode k = 0 := State.readMode_zero (s := s.begin) awake unheld _
  have may : s.begin.permits src k r.ty false = true := permitted
  have reads : s.begin.objRead src k false = (t, 0, v) := by
    simp [State.objRead, mode, row, may, readable, read]
  simp only [State.regRead, begin_srcPresent, present, reads]
  rfl

theorem exec_accData {n : Nat} (permitted : s.permits src (K.accData c) .u32 false = true) (read : s.begin.accRead c = (t, n)) :
    exec (.accData src c) s = .next (s.after (t.emit (.objStatus src (K.accData c) 0 (natBytes 4 n)))) := by
  refine exec_eq_of_effect rfl (State.regRead_reads present awake unheld (row_accData c) permitted (by decide) ?_)
  rw [State.readEffect_accData, read]

end

/-- The field network may read ACC_BLOCK; no console can (10 R279). -/
theorem exec_accBlock {m : BitVec 48} {v : List Byte} (present : s.srcPresent (.net m) = true) (awake : s.mode ≠ .bringup)
    (unheld : s.mode ≠ .faultHold) (read : s.begin.accReadBlock c = (t, v)) :
    exec (.accBlock (.net m) c) s = .next (s.after (t.emit (.objStatus (.net m) (K.accBlock c) 0 v))) :=
  exec_eq_of_effect rfl (State.regRead_reads present awake unheld (row_accBlock c) rfl (by decide)
    ((State.readEffect_accBlock s.begin c _).trans read))

end

/-- Settles O24: both reads have the effect of `accRead` and `accReadBlock`, each by whether a word at R is readable. -/
theorem accessionReadsAdvance : Obligations.AccessionReadsAdvance := by
  unfold Obligations.AccessionReadsAdvance
  intro s src c present awake unheld
  refine ⟨fun permitted => ⟨fun p found mode readable => ?_, fun none => ?_⟩, fun m p n net found mode words some => ?_, fun m net none => ?_⟩
  · exact exec_accData present awake unheld permitted (State.accRead_reads (s := s.begin) found mode readable)
  · exact exec_accData present awake unheld permitted (State.accRead_none (s := s.begin) none)
  · subst net
    exact exec_accBlock present awake unheld (State.accReadBlock_reads (s := s.begin) found mode words some)
  · subst net
    exact exec_accBlock present awake unheld (State.accReadBlock_none (s := s.begin) none)

/-! The wires of an accession channel (12 R314, R316, R328, R330). -/

section

variable {s : State} {c : Nat} {d : Byte} {f : Bool}

/-- ACn_REQ already high does not rise (12 R314). -/
theorem State.accReqHigh_high (high : (s.acc c).req = true) : s.accReqHigh c d f = s := if_pos high

section

variable (low : (s.acc c).req = false) (frame : (s.acc c).frame = false) (active : (s.acc c).active = true)
  (sampled : (s.acc c).sampled = true)

include low frame active sampled

/-- A handshake of an active channel, no packet's frame being open: with ACn_FRAME high its byte is taken by the capture rules, otherwise it
is a stray byte (12 R316). -/
theorem State.accReqHigh_rises :
    s.accReqHigh c d f =
      if f then (s.modAcc c (fun a => { a with req := true, frame := f })).accByte c d
      else ((s.modAcc c (fun a => { a with req := true, frame := f })).bump (K.strayBytes c)).accAck c := by
  simp [State.accReqHigh, low, frame, active, sampled]

end

/-- A fall of ACn_FRAME within a handshake, or of one that is low, is none (12 R316). -/
theorem State.accFrameFalls_none (none : (s.acc c).frame = false ∨ (s.acc c).req = true ∨ (s.acc c).ack = true) : s.accFrameFalls c = s := by
  refine if_neg ?_
  rcases none with frame | req | ack
  · simp [frame]
  · simp [req]
  · simp [ack]

/-- A fall of ACn_FRAME between two handshakes ends the packet in progress (12 R316). -/
theorem State.accFrameFalls_ends (frame : (s.acc c).frame = true) (req : (s.acc c).req = false) (ack : (s.acc c).ack = false)
    (packet : (s.acc c).inPacket = true) :
    s.accFrameFalls c = (s.modAcc c (fun a => { a with frame := false, discarding := false })).accPacketEnds c false := by
  simp only [State.accFrameFalls, frame, req, ack, State.accFrameLow, State.acc_modAcc_same, packet]
  rfl

/-- The control line is read again where it was read and room still lacks (12 R330). -/
theorem State.ctrlPoll_reads {t : State} (polling : (s.acc c).polling = true) (lacks : s.accLacksRoom c = true) (moves : s.accMoves = true)
    (quiet : s.accHas .ctrlRead c = false) (read : s.accCtrlRead c = some t) : s.ctrlPoll c = t := by
  simp only [State.ctrlPoll, polling, lacks, moves, quiet, read]
  rfl

theorem State.ctrlPoll_none
    (none : (s.acc c).polling = false ∨ s.accLacksRoom c = false ∨ s.accMoves = false ∨ s.accHas .ctrlRead c = true ∨ s.accCtrlRead c = none) :
    s.ctrlPoll c = s := by
  unfold State.ctrlPoll
  rcases none with polling | lacks | moves | busy | refused
  · simp [polling]
  · simp [lacks]
  · simp [moves]
  · simp [busy]
  · rw [refused, Option.getD_none, ite_self]

end

/-- Settles O25: each row is its own operation at `s.begin`, by its condition. That a descriptor or a poll that comes without its condition
changes nothing is the model's choice (log entry 7). -/
theorem accessionWiresAct : Obligations.AccessionWiresAct := by
  unfold Obligations.AccessionWiresAct
  intro s c
  refine ⟨fun d low frame active sampled => ⟨?_, ?_⟩, fun d f high => ?_, ?_, fun frame req ack packet => ?_, fun visible => ?_,
    fun t polling lacks moves quiet read => ?_, fun none => ?_, fun hidden => ?_, fun none => ?_⟩
  · exact exec_eq_of_effect rfl (State.accReqHigh_rises (s := s.begin) low frame active sampled)
  · exact exec_eq_of_effect rfl (State.accReqHigh_rises (s := s.begin) low frame active sampled)
  · exact exec_eq_of_effect rfl (State.accReqHigh_high (s := s.begin) high)
  · exact exec_eq_of_effect rfl rfl
  · exact exec_eq_of_effect rfl (State.accFrameFalls_ends (s := s.begin) frame req ack packet)
  · exact exec_eq_of_effect rfl (if_pos (show s.begin.descVisible c = true from visible))
  · exact exec_eq_of_effect rfl (State.ctrlPoll_reads (s := s.begin) polling lacks moves quiet read)
  · exact exec_eq_of_effect rfl (State.accFrameFalls_none (s := s.begin) none)
  · exact exec_eq_of_effect rfl (if_neg (ne_true_of_eq_false (show s.begin.descVisible c = false from hidden)))
  · exact exec_eq_of_effect rfl (State.ctrlPoll_none (s := s.begin) none)

end Sys2Proof.Machine

namespace Sys2Proof.Machine

/-! Writes that the state or another register forbids (07 R202; 11 R293, R305; 12 R323, R326; 13 R341; 14 R356, R357). -/

theorem natBytes_length (n v : Nat) : (natBytes n v).length = n := by
  induction n generalizing v with
  | zero => rfl
  | succ n ih => simp only [natBytes, List.length_cons, ih]

section

variable {s : State} {m : BitVec 48} {k w : Nat} {value : List Byte} {r : ORow}

section

variable (mode : s.writeMode k false = 0) (row : lookupRow (k / 256) (k % 256) = some r) (writable : r.acc ≠ .const ∧ r.acc ≠ .ro)
  (width : value.length = r.ty.bytes) (kept : bytesNat value &&& r.keep = w)

include mode row writable width kept

/-- A field-network write of the right width to an object that takes writes is judged by the range, then by the state (16 R406). -/
theorem State.writeStatus_judged :
    s.writeStatus (.net m) k value false =
      if ((r.ty == .bool && decide (1 < w)) || !r.rng.ok w || s.rangeBad k w) = true then 6
      else if (!(r.acc == .wo && r.ty == .bool && w == 0) && s.stateBad (.net m) k w) = true then 7 else 0 := by
  have short : ¬ 1024 < r.ty.bytes := by cases r.ty <;> decide
  subst kept
  simp [State.writeStatus, mode, row, State.permits, writable, width, short]

theorem State.writeStatus_range (bad : s.rangeBad k w = true) : s.writeStatus (.net m) k value false = 6 := by
  rw [State.writeStatus_judged mode row writable width kept, if_pos (by simp [bad])]

variable (inside : r.rng.ok w = true) (narrow : r.ty = .bool → w ≤ 1) (good : s.rangeBad k w = false)

include inside narrow good

/-- A value in range is refused only by the state (16 R406). -/
theorem State.writeStatus_state (acts : r.acc = .wo → r.ty = .bool → w ≠ 0) :
    s.writeStatus (.net m) k value false = if s.stateBad (.net m) k w = true then 7 else 0 := by
  have inRange : ((r.ty == .bool && decide (1 < w)) || !r.rng.ok w || s.rangeBad k w) = false := by
    simp only [inside, good, Bool.not_true, Bool.or_false, Bool.and_eq_false_iff, beq_eq_false_iff_ne, decide_eq_false_iff_not, Nat.not_lt]
    exact or_iff_not_imp_left.2 (fun h => narrow (not_not.1 h))
  have command : (r.acc == .wo && r.ty == .bool && w == 0) = false := by
    simp only [Bool.and_eq_false_iff, beq_eq_false_iff_ne]
    by_cases wo : r.acc = .wo
    · by_cases bool : r.ty = .bool
      · exact .inr (acts wo bool)
      · exact .inl (.inr bool)
    · exact .inl (.inl wo)
  rw [State.writeStatus_judged mode row writable width kept, inRange, command]
  rfl

end

/-- Outside Bring-up and Fault-hold no write is refused for the mode (16 R407). -/
theorem State.writeMode_zero (awake : s.mode ≠ .bringup) (unheld : s.mode ≠ .faultHold) (k : Nat) : s.writeMode k false = 0 := by
  unfold State.writeMode
  split
  case h_1 mode => exact absurd mode awake
  case h_2 mode => exact absurd mode unheld
  all_goals rfl

/-- MODE_REQ may be written in Fault-hold too (13 R349). -/
theorem State.writeMode_modeReq (awake : s.mode ≠ .bringup) : s.writeMode K.modeReq false = 0 := by
  by_cases held : s.mode = .faultHold
  · simp [State.writeMode, held]
  · exact State.writeMode_zero awake held _

/-- The registers that the state's rules name one by one: a register of another index is none of them. -/
theorem not_named {i : Nat} (index : k / 256 = i) (other : i ≠ 0x1100 ∧ i ≠ 0x1401 ∧ i ≠ 0x2310 ∧ i ≠ 0x2480 ∧ i ≠ 0x2F00) :
    k ≠ K.modeReq ∧ k ≠ K.pairEnable ∧ k ≠ K.pairRole ∧ k ≠ K.pairMask ∧ k ≠ K.maintStart ∧ k ≠ K.scrubStart ∧ k ≠ K.diagGo := by
  simp only [K.modeReq, K.pairEnable, K.pairRole, K.pairMask, K.maintStart, K.scrubStart, K.diagGo, okey]
  omega

/-- Nor is it a fence register. -/
theorem not_fence {i : Nat} (index : k / 256 = i) (other : i ≠ 0x1402) : k ≠ K.fenceSlice ∧ k ≠ K.fenceMl := by
  simp only [K.fenceSlice, K.fenceMl, okey]
  omega

end

section

variable (s : State) (src : Src) (v : Nat)

theorem State.rangeBad_heldAck (n : Port) : s.rangeBad (K.heldAck n) v = false := by
  have index : K.heldAck n / 256 = 0x2801 := okey_index _ _ (by omega)
  have named := not_named index (by decide)
  have fence := not_fence index (by decide)
  simp [State.rangeBad, index, named, fence]

/-- HELD_ACK needs a fence-held port whose domain is on (13 R341). -/
theorem State.stateBad_heldAck (n : Port) :
    s.stateBad src (K.heldAck n) v = (!s.pd (portDomain n) || (s.port n).fence != .held) := by
  have index : K.heldAck n / 256 = 0x2801 := okey_index _ _ (by omega)
  have sub : K.heldAck n % 256 = 1 + n := okey_sub _ _ (by omega)
  simp [State.stateBad, index, sub, not_named index (by decide)]

/-- A mark may not name the chip of the channel's other mark (07 R202). -/
theorem State.rangeBad_dcMarkA (c : Chan) : s.rangeBad (K.dcMarkA c) v = (v != 0xFF && s.obj (K.dcMarkB c) == v) := by
  have index : K.dcMarkA c / 256 = 0x2403 := okey_index _ _ (by omega)
  have sub : K.dcMarkA c % 256 = 1 + c := okey_sub _ _ (by omega)
  simp [State.rangeBad, index, sub]

/-- A TAIL may show no more records than the ledger holds (11 R305). -/
theorem State.rangeBad_ledgerTail (p : Part) (l : Fin 4) : s.rangeBad (K.ledgerTail p l) v = !s.tailOk p l v := by
  have index : K.ledgerTail p l / 256 = 0x2120 + p := okey_index _ _ (by omega)
  have sub : K.ledgerTail p l % 256 = 0x10 * l + 5 := okey_sub _ _ (by omega)
  have place : (0x10 * l.val + 5) % 16 = 5 ∧ (0x10 * l.val + 5) / 16 = l := by omega
  have block : 0x2120 + p.val < 0x2130 := by omega
  simp [State.rangeBad, index, sub, place, block]

/-- A DOORBELL may not make a device INTID occur (11 R293). -/
theorem State.rangeBad_doorbell (p : Part) : s.rangeBad (K.doorbell p) v = decide (v % 256 < 96) := by
  have index : K.doorbell p / 256 = 0x2110 + p := okey_index _ _ (by decide)
  have sub : K.doorbell p % 256 = 6 := okey_sub _ _ (by decide)
  have block : 0x2110 + p.val < 0x2120 := by omega
  simp [State.rangeBad, index, sub, block]

theorem State.rangeBad_eoi (p : Part) : s.rangeBad (K.eoi p) v = false := by
  have index : K.eoi p / 256 = 0x2110 + p := okey_index _ _ (by decide)
  have sub : K.eoi p % 256 = 5 := okey_sub _ _ (by decide)
  have named := not_named index (by omega)
  have fence := not_fence index (by omega)
  have mark : 0x2110 + p.val ≠ 0x2403 ∧ 0x2110 + p.val ≠ 0x2404 := by omega
  have noTail : ¬ 0x2120 ≤ 0x2110 + p.val := by omega
  simp [State.rangeBad, index, sub, named, fence, mark, noTail]

/-- EOI needs PD2 (14 R352). -/
theorem State.stateBad_eoi (p : Part) : s.stateBad src (K.eoi p) v = !s.pd 2 := by
  have index : K.eoi p / 256 = 0x2110 + p := okey_index _ _ (by decide)
  have sub : K.eoi p % 256 = 5 := okey_sub _ _ (by decide)
  have block : 0x2110 + p.val < 0x2120 := by omega
  simp [State.stateBad, index, sub, not_named index (by omega), block]

theorem State.rangeBad_accCmd (c : Acc) : s.rangeBad (K.accCmd c) v = false := by
  have index : K.accCmd c / 256 = 0x2700 + c := okey_index _ _ (by decide)
  have sub : K.accCmd c % 256 = 0x0B := okey_sub _ _ (by decide)
  have named := not_named index (by omega)
  have fence := not_fence index (by omega)
  have mark : 0x2700 + c.val ≠ 0x2403 ∧ 0x2700 + c.val ≠ 0x2404 := by omega
  simp [State.rangeBad, index, sub, named, fence, mark]

/-- ACC_CMD needs PD2, and MARK, REWIND and RELEASE the read mode (12 R323, R326). -/
theorem State.stateBad_accCmd (c : Acc) : s.stateBad src (K.accCmd c) v = (!s.pd 2 || s.accCmdForbidden c v) := by
  have index : K.accCmd c / 256 = 0x2700 + c := okey_index _ _ (by decide)
  have sub : K.accCmd c % 256 = 0x0B := okey_sub _ _ (by decide)
  have block : 0x2700 + c.val < 0x270C := by omega
  simp [State.stateBad, index, sub, not_named index (by omega), block]

theorem State.accCmdForbidden_iff (c : Nat) :
    s.accCmdForbidden c v = true ↔ ((s.acc c).cfg.mode = 1 ∧ v < 4) ∨ (v = 2 ∧ (s.acc c).m = none) := by
  simp [State.accCmdForbidden]

theorem State.rangeBad_modeReq : s.rangeBad K.modeReq v = modeReqBad v := by
  have index : K.modeReq / 256 = 0x1100 := okey_index _ _ (by decide)
  simp [State.rangeBad, index]

theorem State.stateBad_modeReq : s.stateBad src K.modeReq v = s.modeReqForbidden v := by
  simp only [State.stateBad, if_true]

theorem modeReqBad_iff : modeReqBad v = true ↔ v = 0 ∨ v = 5 ∨ v = 9 ∨ 11 ≤ v := by
  simp [modeReqBad, or_assoc]

theorem State.modeReqForbidden_iff :
    s.modeReqForbidden v = true ↔ s.modeReqNamed v = false ∨ s.trans ≠ .none ∨ (s.nstby = false ∧ s.mode ≠ .faultHold) := by
  simp [State.modeReqForbidden, or_assoc]

/-- MODE_REQ 4 leaves Park, Retain, and Configure where 09 R242 allows the working mode (14 R356). -/
theorem State.modeReqNamed_run :
    s.modeReqNamed 4 = true ↔ s.mode = .park ∨ s.mode = .retain ∨ (s.mode = .configure ∧ s.linksLegal = true) := by
  unfold State.modeReqNamed
  cases mode : s.mode <;> simp

end

theorem bytesNat_byte (v : Byte) : bytesNat [v] &&& allOnes64 = v.toNat := by
  rw [show bytesNat [v] = v.toNat by simp [bytesNat]]
  exact and_allOnes64 _ (by omega)

theorem bytesNat_word (v : Word) : bytesNat (natBytes 4 v.toNat) &&& allOnes64 = v.toNat := by
  rw [bytesNat_natBytes, Nat.mod_eq_of_lt (by omega)]
  exact and_allOnes64 _ (by omega)

/-- Settles O23: a field-network write of the right width is judged by its register's range rule, then by its state rule. That MODE_REQ is
refused while nSTBY is low, but in Fault-hold, is the model's reading (log entry 18). -/
theorem writesThatTheStateForbids : Obligations.WritesThatTheStateForbids := by
  unfold Obligations.WritesThatTheStateForbids
  refine ⟨fun s m awake unheld => ⟨fun n unfenced => ?held, fun c v chip same => ?mark, fun p v => ⟨fun l shown => ?tail, fun low => ?doorbell,
    fun off => ?eoi⟩, fun c v first last on => ?acc⟩, fun s m v awake => ⟨fun bad => ?range, fun good => ⟨fun forbidden => ?forbidden,
    fun named idle up => ?accepted⟩, s.modeReqNamed_run⟩⟩
  case held =>
    rw [State.writeStatus_state (State.writeMode_zero awake unheld _) (row_heldAck n) (by decide) rfl (bytesNat_byte 1) rfl (fun _ => le_rfl)
      (s.rangeBad_heldAck _ n) (fun _ _ => by decide), if_pos (by simp [State.stateBad_heldAck, unfenced])]
  case mark =>
    refine State.writeStatus_range (State.writeMode_zero awake unheld _) (row_dcMarkA c) (by decide) rfl (bytesNat_byte v) ?_
    have named : v.toNat ≠ 0xFF := fun h => chip (BitVec.eq_of_toNat_eq h)
    simp [State.rangeBad_dcMarkA, named, same]
  case tail =>
    refine State.writeStatus_range (State.writeMode_zero awake unheld _) (row_ledgerTail p l) (by simp) (natBytes_length 4 _) (bytesNat_word v) ?_
    rw [State.rangeBad_ledgerTail, State.tailOk, Bool.not_eq_true', decide_eq_false_iff_not]
    exact Nat.not_le.2 shown
  case doorbell =>
    refine State.writeStatus_range (State.writeMode_zero awake unheld _) (row_doorbell p) (by decide) (natBytes_length 4 _) (bytesNat_word v) ?_
    rw [State.rangeBad_doorbell, decide_eq_true low]
  case eoi =>
    rw [State.writeStatus_state (State.writeMode_zero awake unheld _) (row_eoi p) (by decide) (natBytes_length 4 _) rfl rfl (fun h => nomatch h)
      (s.rangeBad_eoi _ p) (fun _ h => nomatch h), if_pos (by rw [State.stateBad_eoi, off]; rfl)]
  case acc =>
    have inside : Rng.ok (.range 1 4) v.toNat = true := by simp [Rng.ok, first, last]
    rw [State.writeStatus_state (State.writeMode_zero awake unheld _) (row_accCmd c) (by decide) rfl (bytesNat_byte v) inside (fun h => nomatch h)
      (s.rangeBad_accCmd _ c) (fun _ h => nomatch h), State.stateBad_accCmd, on, ite_eq_right_iff, ← not_or, ← State.accCmdForbidden_iff]
    simp
  case range =>
    refine State.writeStatus_range (State.writeMode_modeReq awake) row_modeReq (by decide) rfl (bytesNat_byte v) ?_
    rw [State.rangeBad_modeReq, modeReqBad_iff]
    exact bad
  all_goals
    have inRange : s.rangeBad K.modeReq v.toNat = false := by
      rw [State.rangeBad_modeReq, ← Bool.not_eq_true, modeReqBad_iff]
      exact good
    rw [State.writeStatus_state (State.writeMode_modeReq awake) row_modeReq (by decide) rfl (bytesNat_byte v) rfl (fun h => nomatch h) inRange
      (fun h => nomatch h), State.stateBad_modeReq]
  case forbidden => rw [if_pos ((State.modeReqForbidden_iff _ _).2 forbidden)]
  case accepted =>
    refine if_neg (fun refused => ?_)
    rcases (State.modeReqForbidden_iff _ _).1 refused with unnamed | busy | ⟨low, unheld⟩
    · exact nomatch named.symm.trans unnamed
    · exact busy idle
    · exact up.elim (fun high => nomatch low.symm.trans high) unheld

end Sys2Proof.Machine

namespace Sys2Proof.Machine

/-! The step with no command waiting, the reset state, and what every command answers. -/

theorem State.step_idle {s : State} (empty : s.pending = []) : step s = .next (s.after s.begin.tick) := by
  simp only [step, empty]
  rfl

/-- Settles O2: the tick counts exactly while the oscillator runs. -/
theorem idleStepCountsOneTick : Obligations.IdleStepCountsOneTick := by
  unfold Obligations.IdleStepCountsOneTick
  intro s empty
  rw [State.step_idle empty]
  constructor
  · intro powered awake
    have clocked : s.begin.clocked = true := by simp [State.clocked, powered, awake]
    rw [State.tick, if_pos clocked]
    rfl
  · intro stopped
    have unclocked : ¬ s.begin.clocked = true := by rcases stopped with off | standby <;> simp [State.clocked, *]
    rw [State.tick, if_neg unclocked]

/-- Settles O3: the reset state holds the default of every field, so each read of it evaluates (assumption 4 for the pins and device time). -/
theorem resetStateIsOff : Obligations.ResetStateIsOff :=
  ⟨rfl, rfl, rfl, rfl, fun _ => rfl, fun _ => rfl, fun _ => rfl, fun _ => rfl, fun _ => rfl, fun _ _ _ => rfl, rfl, rfl, rfl, rfl, rfl⟩

/-- Settles O7: a well-formed command runs its own effect and the hub's work follows. That a TELEMETRY_UPDATE without one value for each sensor
and monitor stops by name is the model's choice (assumption 60). -/
theorem wellFormedCommandsComplete : Obligations.WellFormedCommandsComplete := by
  unfold Obligations.WellFormedCommandsComplete
  refine ⟨fun c s wellFormed => ⟨exec_eq_of_effect wellFormed rfl, State.after_pending _ _⟩, fun x s illFormed => ?_⟩
  show execTelemetryUpdate x s = _
  rw [execTelemetryUpdate, if_neg (ne_true_of_eq_false illFormed)]

/-! Register writes that are refused. -/

/-- Settles O11: every row that writes a register is one `cmdWrite`, OBJECT_WRITE is `anyWrite`, and each stops at the check that fails.
That a source with no access now does nothing is the model's choice (assumption 11). -/
theorem refusedWritesChangeNothing : Obligations.RefusedWritesChangeNothing := by
  unfold Obligations.RefusedWritesChangeNothing
  refine ⟨fun s c src k v x writes => ?_, fun s src i b v => ⟨fun absent => ?_, ?_⟩⟩
  · rw [registerWrite_exec writes]
    refine ⟨fun absent => ?_, ?_⟩
    · rw [flow, cmdWrite_absent _ _ k v x absent]
    · rintro st present rfl refused
      rw [flow, cmdWrite_refused _ _ k v x present refused]
  · exact exec_eq_of_effect rfl (anyWrite_absent _ _ _ v absent)
  · rintro st present rfl refused
    exact exec_eq_of_effect rfl (anyWrite_refused _ _ _ v present refused)

/-! OBJECT_WRITE accepted: the staged copy of a STAGED object. -/

section

variable {s : State} {src : Src} {k v : Nat} {r : ORow}

/-- What the copies read after one of them is written: the value at its own object, and every other as it was (16 R412). -/
theorem State.stageOp_reads (j : Nat) : (s.stageOp k v).stagedOf j = if j = k then v else s.stagedOf j := by
  show tget (s.obj j) (if v = s.obj k then tdel k s.staged else tput v k s.staged) j = if j = k then v else tget (s.obj j) s.staged j
  by_cases back : v = s.obj k
  · rw [if_pos back, tget_tdel]
    split_ifs with same
    · rw [same, back]
    · rfl
  · rw [if_neg back, tget_tput]

theorem State.writeEffect_staged (x : Extras) : s.writeEffect src k v .staged x = s.stageOp k v := by simp [State.writeEffect]

/-- No STAGED object is a TC_INVAL, which is write only. -/
theorem noTcInval_of_acc (row : lookupRow (k / 256) (k % 256) = some r) (acc : r.acc ≠ .wo) : noTcInval k := by
  rintro ⟨low, high, sub⟩
  obtain ⟨p, hp⟩ : ∃ p : Fin 16, k / 256 = 0x2100 + p := ⟨⟨k / 256 - 0x2100, by omega⟩, by simp; omega⟩
  have writeOnly : ∀ p : Fin 16, ∃ r, lookupRow (0x2100 + p) 6 = some r ∧ r.acc = .wo := by decide
  obtain ⟨r', row', acc'⟩ := writeOnly p
  rw [hp, sub, row'] at row
  cases row
  exact acc acc'

/-- COMMIT is write only. -/
theorem ne_commit_of_acc (row : lookupRow (k / 256) (k % 256) = some r) (acc : r.acc ≠ .wo) : k ≠ K.commitObj := by
  rintro rfl
  have writeOnly : ∃ r, lookupRow (K.commitObj / 256) (K.commitObj % 256) = some r ∧ r.acc = .wo := by decide
  obtain ⟨r', row', acc'⟩ := writeOnly
  rw [row'] at row
  cases row
  exact acc acc'

/-- An accepted OBJECT_WRITE of an object that is not COMMIT and not TC_INVAL is journalled, takes effect and is answered OK. -/
theorem exec_objectWrite_ok {i : BitVec 16} {b : Byte} {bytes : List Byte} (object : k = okey i.toNat b.toNat)
    (present : s.srcPresent src = true) (ok : s.writeStatus src k bytes false = 0) (row : lookupRow i.toNat b.toNat = some r)
    (notCommit : k ≠ K.commitObj) (notTc : noTcInval k) :
    exec (.objectWrite src i b bytes) s = .next (s.after
      (((s.begin.journal k (if r.acc = .staged then 2 else 1) (s.journalSrc src) false r.ty.bytes (s.begin.oldValue k r.acc)
        (bytesNat bytes &&& r.keep)).writeEffect src k (bytesNat bytes &&& r.keep) r.acc {}).saysOk s src k)) := by
  have row' : lookupRow (k / 256) (k % 256) = some r := by rw [object, okey_index _ _ b.isLt, okey_sub _ _ b.isLt, row]
  rw [← anyWrite_ok s src present ok row' notCommit notTc, object]
  exact exec_eq_of_effect rfl rfl

end

/-- Settles O12: of an accepted write of a STAGED object only `stageOp` and the journal entry remain. KIND 2 and the answer held for the full
queue are the model's choices (assumptions 13 and 82). -/
theorem stagedWritesChangeTheCopyAlone : Obligations.StagedWritesChangeTheCopyAlone := by
  unfold Obligations.StagedWritesChangeTheCopyAlone
  intro s src i b v r k object present ok row staged
  have row' : lookupRow (k / 256) (k % 256) = some r := by rw [object, okey_index _ _ b.isLt, okey_sub _ _ b.isLt, row]
  have notWo : r.acc ≠ .wo := by rw [staged]; decide
  have written := exec_objectWrite_ok object present ok row (ne_commit_of_acc row' notWo) (noTcInval_of_acc row' notWo)
  rw [if_pos staged, staged, State.writeEffect_staged] at written
  refine ⟨_, written, rfl, ?_, fun j other => ?_, rfl, rfl⟩
  · rw [State.stageOp_reads, if_pos rfl]
  · rw [State.stageOp_reads, if_neg other]
    rfl

/-! OBJECT_WRITE accepted: the registers that hold a setting and nothing more. -/

/-- The rows of those registers: telemetry and calibration (14), the home slices (05), the L2 (06) and the data channels (07). -/
def settingRows : List ORow :=
  (dict12 ++ dict22.filter (fun r => r.i0 == 0x2211) ++ dict23.filter (fun r => r.i0 == 0x2300) ++ dict24.filter (fun r => r.i0 == 0x2400)).filter
    (fun r => r.acc == .rw)

/-- Each of those rows is one object, whose value is kept. -/
theorem settingRows_single : ∀ r ∈ settingRows, r.i0 = r.i1 ∧ r.s0 = r.s1 ∧ r.s0 ≠ 0 ∧ r.s0 < 256 ∧
    r.i0 ∈ [0x1200, 0x1206, 0x1210, 0x1211, 0x2211, 0x2300, 0x2400] ∧ (aloneObjs.lookup (okey r.i0 r.s0)).isNone = true ∧
    (unitObjs.lookup r.i0).isNone = true := by decide

/-- An index of a plain setting: telemetry and calibration, the home slices, the L2, the data channels. -/
def settingIndex (i : Nat) : Prop := 0x1200 ≤ i ∧ i < 0x1300 ∨ i = 0x2211 ∨ i = 0x2300 ∨ i = 0x2400

/-- The row that an object's number finds is in its block and spans the object. -/
theorem findRow_spans {i b : Nat} {r : ORow} (row : findRow i b = some r) :
    r ∈ dictBlock i ∧ r.i0 ≤ i ∧ i ≤ r.i1 ∧ r.s0 ≤ b ∧ b ≤ r.s1 := by
  have spans := List.find?_some row
  simp only [Bool.and_eq_true, decide_eq_true_eq] at spans
  obtain ⟨⟨⟨low, high⟩, first⟩, last⟩ := spans
  exact ⟨List.mem_of_find?_eq_some row, low, high, first, last⟩

/-- In the blocks of the home slices, the L2 and the data channels a row of such an index is of that index alone. -/
theorem single22 : ∀ r ∈ dict22, r.i0 ≤ 0x2211 → 0x2211 ≤ r.i1 → r.i0 = 0x2211 := by decide

theorem single23 : ∀ r ∈ dict23, r.i0 ≤ 0x2300 → 0x2300 ≤ r.i1 → r.i0 = 0x2300 := by decide

theorem single24 : ∀ r ∈ dict24, r.i0 ≤ 0x2400 → 0x2400 ≤ r.i1 → r.i0 = 0x2400 := by decide

/-- A RW object of such an index has one of those rows. -/
theorem mem_settingRows {i b : Nat} {r : ORow} (row : lookupRow i b = some r) (rw : r.acc = .rw) (setting : settingIndex i) :
    r ∈ settingRows ∧ r.i0 ≤ i ∧ i ≤ r.i1 ∧ r.s0 ≤ b ∧ b ≤ r.s1 := by
  have notZero : b ≠ 0 := by
    rintro rfl
    simp only [lookupRow, if_true] at row
    split_ifs at row
    cases row
    cases rw
  rw [lookupRow, if_neg notZero] at row
  obtain ⟨mem, low, high, first, last⟩ := findRow_spans row
  refine ⟨?_, low, high, first, last⟩
  simp only [settingRows, List.mem_filter, List.mem_append, rw, beq_self_eq_true, and_true, beq_iff_eq]
  rcases setting with inBlock | rfl | rfl | rfl
  · have block : i / 256 = 0x12 := by omega
    rw [dictBlock, block] at mem
    exact .inl (.inl (.inl mem))
  · exact .inl (.inl (.inr ⟨mem, single22 r mem low high⟩))
  · exact .inl (.inr ⟨mem, single23 r mem low high⟩)
  · exact .inr ⟨mem, single24 r mem low high⟩

section

variable {s : State} {src : Src} {k v i b : Nat} {r : ORow}

/-- A plain setting is one of those objects, and its value is the one kept. -/
theorem setting_spec (object : k = okey i b) (row : lookupRow i b = some r) (rw : r.acc = .rw) (setting : settingIndex i) :
    k / 256 ∈ [0x1200, 0x1206, 0x1210, 0x1211, 0x2211, 0x2300, 0x2400] ∧ s.decided k = none := by
  obtain ⟨mem, low, high, first, last⟩ := mem_settingRows row rw setting
  obtain ⟨oneIndex, oneSub, notZero, small, index, alone, unit⟩ := settingRows_single r mem
  have hi : i = r.i0 := by omega
  have hb : b = r.s0 := by omega
  have hk : k / 256 = r.i0 := by rw [object, hi, hb, okey_index _ _ small]
  have hs : k % 256 = r.s0 := by rw [object, hi, hb, okey_sub _ _ small]
  refine ⟨hk ▸ index, ?_⟩
  have alone' : aloneObjs.lookup k = none := by rw [object, hi, hb]; exact Option.isNone_iff_eq_none.mp alone
  have unit' : unitObjs.lookup (k / 256) = none := by rw [hk]; exact Option.isNone_iff_eq_none.mp unit
  simp only [List.mem_cons, List.not_mem_nil, or_false] at index
  simp only [State.decided, alone', unit', hs, if_neg notZero]
  rw [if_neg (by omega), if_neg (by omega), if_neg (by omega), if_neg (by omega), if_neg (by omega)]

/-- A register of blocks 0x1000 to 0x1FFF at an index that has no effect of its own is only set. -/
theorem effect1_plain (x : Extras) (low : k / 256 ≠ 0x1100 ∧ k / 256 ≠ 0x1300 ∧ k / 256 ≠ 0x1401 ∧ k / 256 ≠ 0x1402) :
    s.effect1 k v x = s.setObj k v := by
  have named : ∀ j, j / 256 = 0x1100 ∨ j / 256 = 0x1300 ∨ j / 256 = 0x1401 ∨ j / 256 = 0x1402 → k ≠ j := by
    rintro j index rfl
    omega
  simp only [State.effect1, named K.modeReq (by decide), named K.pairEnable (by decide), named K.pairRole (by decide),
    named K.pairMask (by decide), named K.fenceSlice (by decide), named K.fenceDc (by decide), named K.fenceMl (by decide),
    named K.fencePort (by decide), named K.fenceAcc (by decide), named K.stageDiscard (by decide), or_self, if_false]

/-- A register of the home slices, the L2 or the data channels at index 0x2211, 0x2300 or 0x2400 is only set. -/
theorem effect2_plain (x : Extras) (index : k / 256 = 0x2211 ∨ k / 256 = 0x2300 ∨ k / 256 = 0x2400) :
    s.effect2 k v x = s.setObj k v := by
  have named : ∀ j, j / 256 ≠ 0x2211 → j / 256 ≠ 0x2300 → j / 256 ≠ 0x2400 → k ≠ j := by
    rintro j slices l2 chans rfl
    omega
  simp only [State.effect2, named K.maintStart (by decide) (by decide) (by decide), named K.scrubStart (by decide) (by decide) (by decide),
    named K.maintAbort (by decide) (by decide) (by decide), named K.diagGo (by decide) (by decide) (by decide),
    named K.ceLogClear (by decide) (by decide) (by decide), named K.llClear (by decide) (by decide) (by decide),
    named K.fatalValid (by decide) (by decide) (by decide), if_false]
  iterate 9 rw [if_neg (by omega)]

/-- A write of a plain setting sets its value and does nothing else. -/
theorem writeEffect_setting (x : Extras) (setting : k / 256 ∈ [0x1200, 0x1206, 0x1210, 0x1211, 0x2211, 0x2300, 0x2400]) :
    s.writeEffect src k v .rw x = s.setObj k v := by
  simp only [List.mem_cons, List.not_mem_nil, or_false] at setting
  rw [State.writeEffect, if_neg (by decide)]
  by_cases block1 : k / 256 < 0x2000
  · rw [if_pos block1]
    exact effect1_plain x (by omega)
  · rw [if_neg block1, if_neg (by omega)]
    exact effect2_plain x (by omega)

/-- What a journalled state is once the row of its object is known. -/
theorem noted_of_row (object : k = okey i b) (small : b < 256) (row : lookupRow i b = some r) (w : Nat) :
    s.noted src k w = s.begin.journal k 1 (s.journalSrc src) false r.ty.bytes (s.begin.oldValue k r.acc) w := by
  rw [State.noted, object, okey_index _ _ small, okey_sub _ _ small, row]

end

/-- Settles O13: an accepted write that is not STAGED is the effect on the journalled state; for a plain setting that effect is `setObj`, and the
value that the journal shows as OLD is the one kept. -/
theorem settingsReadAsWritten : Obligations.SettingsReadAsWritten := by
  unfold Obligations.SettingsReadAsWritten
  intro s src i b v r k w object value present ok row
  subst value
  have noted := noted_of_row (s := s) (src := src) object b.isLt row (bytesNat v &&& r.keep)
  have row' : lookupRow (k / 256) (k % 256) = some r := by rw [object, okey_index _ _ b.isLt, okey_sub _ _ b.isLt, row]
  refine ⟨fun plain notCommit notTc => ⟨?_, by rw [noted]; rfl⟩, fun rw setting => ?_⟩
  · have noTc : noTcInval k := fun ⟨low, high, sub⟩ => notTc (k / 256 - 0x2100) (by omega) (by simp only [K.tcInval, okey]; omega)
    rw [exec_objectWrite_ok object present ok row notCommit noTc, if_neg plain, noted]
  · have notWo : r.acc ≠ .wo := by rw [rw]; decide
    obtain ⟨index, kept⟩ := setting_spec (s := s.begin) object row rw setting
    have written := exec_objectWrite_ok object present ok row (ne_commit_of_acc row' notWo) (noTcInval_of_acc row' notWo)
    rw [rw, if_neg (by decide), writeEffect_setting _ index] at written
    refine ⟨_, written, rfl, State.obj_setObj_same .., fun j other => ?_, ?_⟩
    · rw [State.obj_setObj_other _ _ other]
      rfl
    · have old : s.begin.oldValue k .rw = s.obj k := by
        show (s.begin.decided k).getD (s.obj k) = s.obj k
        rw [kept]
        rfl
      rw [← old]
      rfl

end Sys2Proof.Machine

namespace Sys2Proof.Machine

/-! What a change of mode and a return to the reset state leave in the state (14 R352, R355, R357, R358). -/

section

variable (s : State)

theorem State.hubReset_resetCause (c : Nat) : (s.hubReset c).obj K.resetCause = c := State.obj_setObj_same ..

theorem State.hubReset_obj {k : Nat} (c : Nat) (other : k ≠ K.resetCause) : (s.hubReset c).obj k = defaultOf k :=
  State.obj_setObj_other _ _ other

theorem State.toStandby_modePrev : s.toStandby.obj K.modePrev = s.mode.code := State.obj_setObj_same ..

/-- Events do not reach an object whose number does not end in the digit 9. -/
theorem State.raiseS_obj {k : Nat} (i d p : Nat) (counts : k % 16 ≠ 9) : (s.raiseS i d p).obj k = s.obj k :=
  State.eventsOnly_obj (State.raiseS_eventsOnly s i d p) counts

/-- A change of mode writes MODE_PREV, TRANSITION_TIME and MODE_RESULT and no other object but the ledgers' counts of what they dropped. -/
theorem State.enterMode_obj {k : Nat} (m : Mode) (r : Nat) (counts : k % 16 ≠ 9) (prev : k ≠ K.modePrev) (time : k ≠ K.transitionTime)
    (result : k ≠ K.modeResult) : (s.enterMode m r).obj k = s.obj k := by
  simp only [State.enterMode]
  rw [State.raiseS_obj _ _ _ _ counts, State.switchGroups_obj]
  show State.obj (State.setObj _ _ _) k = _
  rw [State.obj_setObj_other _ _ result, State.obj_setObj_other _ _ time, State.obj_setObj_other _ _ prev]

theorem State.enterMode_modePrev (m : Mode) (r : Nat) : (s.enterMode m r).obj K.modePrev = s.mode.code := by
  simp only [State.enterMode]
  rw [State.raiseS_obj _ _ _ _ (by decide), State.switchGroups_obj]
  show State.obj (State.setObj _ _ _) _ = _
  rw [State.obj_setObj_other _ _ (by decide), State.obj_setObj_other _ _ (by decide), State.obj_setObj_same]

end

/-! Presence in Bring-up (15 R376, R377). -/

section

variable {s t : State} {a b : Bool}

theorem State.judging_iff : s.judging = true ↔ s.mode = .bringup ∧ s.presLatched = false ∧ s.dead = false := by
  simp [State.judging, and_assoc]

/-- Nothing is judged with a discrepancy latched, in Fault-hold or outside Bring-up. -/
theorem State.judging_false (quiet : s.mode ≠ .bringup ∨ s.presLatched = true ∨ s.dead = true) : s.judging = false := by
  rw [← Bool.not_eq_true, State.judging_iff]
  rintro ⟨mode, latched, dead⟩
  simp_all

/-- A bounce is counted where PRES_STATE shows one. -/
theorem State.bounceEnds_presBounces : s.bounceEnds.obj K.presBounces =
    if s.obj K.presState = 1 then (s.obj K.presBounces + 1) % 2 ^ 32 else s.obj K.presBounces := by
  unfold State.bounceEnds
  split_ifs
  · exact State.obj_setObj_same ..
  · rfl

@[simp] theorem State.bounceEnds_mode : s.bounceEnds.mode = s.mode := by
  unfold State.bounceEnds
  split_ifs <;> rfl

/-- The state in which agreed presence enters Configure, its Archive links not yet judged (14 R359 step 8). -/
def State.configured (s : State) : State :=
  ({ ({ s.bounceEnds with presA := true, presB := true, transStart := s.deviceTime } : State).setObj K.presState 2 with
    domains := 0x807 } : State).enterMode .configure

theorem State.presAgree_judged (judged : s.judging = true) : s.presAgree = s.configured.mlJudge := if_pos judged

theorem State.presAgree_unjudged (unjudged : s.judging = false) : s.presAgree = s := if_neg (ne_true_of_eq_false unjudged)

theorem State.configured_obj {k : Nat} (counts : k % 16 ≠ 9) (prev : k ≠ K.modePrev) (time : k ≠ K.transitionTime)
    (result : k ≠ K.modeResult) : s.configured.obj k = (s.bounceEnds.setObj K.presState 2).obj k :=
  State.enterMode_obj _ _ _ counts prev time result

theorem State.configured_presState : s.configured.obj K.presState = 2 :=
  (State.configured_obj (by decide) (by decide) (by decide) (by decide)).trans (State.obj_setObj_same ..)

theorem State.configured_presBounces : s.configured.obj K.presBounces =
    if s.obj K.presState = 1 then (s.obj K.presBounces + 1) % 2 ^ 32 else s.obj K.presBounces := by
  rw [State.configured_obj (by decide) (by decide) (by decide) (by decide), State.obj_setObj_other _ _ (by decide),
    State.bounceEnds_presBounces]

theorem State.presDiffer_unjudged (unjudged : s.judging = false) : s.presDiffer a b = s := by simp [State.presDiffer, unjudged]

theorem State.presDiffer_high : s.presDiffer true true = s := by simp [State.presDiffer]

theorem State.presDiffer_starts (judged : s.judging = true) (differ : a ≠ b) :
    s.presDiffer a b = ({ s with presA := a, presB := b } : State).setObj K.presState 1 := by
  have notBoth : (a && b) = false := by cases a <;> simp_all
  simp [State.presDiffer, judged, notBoth, differ]

theorem State.presDiffer_ends (judged : s.judging = true) :
    s.presDiffer false false = (({ s with presA := false, presB := false } : State).bounceEnds).setObj K.presState 0 := by
  simp [State.presDiffer, judged]

/-- Both inputs low end a bounce that PRES_STATE shows, and count it (15 R376). -/
theorem State.presDiffer_counts (judged : s.judging = true) (bounce : s.obj K.presState = 1) :
    s.presDiffer false false = (({ s with presA := false, presB := false } : State).bump K.presBounces).setObj K.presState 0 := by
  rw [State.presDiffer_ends judged, State.bounceEnds, if_pos (show State.obj { s with presA := false, presB := false } _ = 1 from bounce)]

theorem State.presDiffer_quiet (judged : s.judging = true) (none : s.obj K.presState ≠ 1) :
    s.presDiffer false false = ({ s with presA := false, presB := false } : State).setObj K.presState 0 := by
  rw [State.presDiffer_ends judged, State.bounceEnds, if_neg (show ¬ State.obj { s with presA := false, presB := false } _ = 1 from none)]

theorem State.presDiscrepant_unjudged (unjudged : s.judging = false) : s.presDiscrepant a b = s := by simp [State.presDiscrepant, unjudged]

theorem State.presDiscrepant_equal : s.presDiscrepant a a = s := by simp [State.presDiscrepant]

theorem State.presDiscrepant_latches (judged : s.judging = true) (differ : a ≠ b) :
    s.presDiscrepant a b = { s.setObj K.presState 3 with presA := a, presB := b, presLatched := true } := by
  simp [State.presDiscrepant, judged, differ]

end

/-- Settles O30: each event of presence is its operation on the begun state, by whether presence is being judged. An event that comes without its
condition changes nothing (assumption 7). -/
theorem presenceIsJudgedInBringUp : Obligations.PresenceIsJudgedInBringUp := by
  unfold Obligations.PresenceIsJudgedInBringUp
  intro s
  refine ⟨fun mode latched alive => ?_, fun unjudged => ?_, fun mode latched => ?_, fun unlatched => ?_⟩
  · have judged : s.begin.judging = true := State.judging_iff.mpr ⟨mode, latched, alive⟩
    refine ⟨⟨_, s.begin.configured, exec_eq_of_effect rfl (State.presAgree_judged judged), rfl, ?_⟩, fun a b differ => ?_, fun bounce => ?_,
      fun none => ?_, ?_, fun a b differ => ?_, fun a => ?_⟩
    · exact ⟨State.enterMode_mode .., State.enterMode_domains _ _ _ rfl, State.enterMode_presA .., State.enterMode_presB ..,
        State.configured_presState, (State.enterMode_modePrev ..).trans (congrArg Mode.code State.bounceEnds_mode), State.configured_presBounces⟩
    · exact exec_eq_of_effect rfl (State.presDiffer_starts judged differ)
    · exact exec_eq_of_effect rfl (State.presDiffer_counts judged bounce)
    · exact exec_eq_of_effect rfl (State.presDiffer_quiet judged none)
    · exact exec_eq_of_effect rfl State.presDiffer_high
    · exact exec_eq_of_effect rfl (State.presDiscrepant_latches judged differ)
    · exact exec_eq_of_effect rfl State.presDiscrepant_equal
  · have quiet : s.begin.judging = false := State.judging_false unjudged
    exact ⟨exec_eq_of_effect rfl (State.presAgree_unjudged quiet), fun a b => ⟨exec_eq_of_effect rfl (State.presDiffer_unjudged quiet),
      exec_eq_of_effect rfl (State.presDiscrepant_unjudged quiet)⟩⟩
  · exact exec_eq_of_effect rfl (if_pos ⟨mode, latched⟩)
  · refine exec_eq_of_effect rfl (if_neg ?_)
    rintro ⟨mode, latched⟩
    rcases unlatched with other | free
    · exact other mode
    · exact absurd (latched.symm.trans free) (by decide)

end Sys2Proof.Machine

namespace Sys2Proof.Machine

/-! The rails, the reset pins and the field interface's supply (14 R356, R358, R359; 18 R442, R447). -/

section

variable {s : State} {x : Samples}

/-- Steps 2 and 5 of Bring-up: PD1 comes on and the timebase is sampled (14 R359, R365). -/
def State.sampled (s : State) (x : Samples) : State :=
  let s : State := { s with domains := 3, transStart := s.deviceTime, tbState := if x.tbin then 1 else 0 }
  if x.tbin then s.setObj K.tbOffset x.offset else s

theorem State.sampled_frame : s.sampled x =
    { s with domains := 3, transStart := s.deviceTime, tbState := x.tbin.toNat, objs := (s.sampled x).objs } := by
  unfold State.sampled
  cases x.tbin <;> rfl

theorem State.sampled_tbOffset (tbin : x.tbin = true) : (s.sampled x).obj K.tbOffset = x.offset := by
  simp only [State.sampled, tbin, if_true, State.obj_setObj_same]

theorem State.sampled_obj {k : Nat} (other : k ≠ K.tbOffset) : (s.sampled x).obj k = s.obj k := by
  unfold State.sampled
  cases x.tbin
  · rfl
  · exact State.obj_setObj_other _ _ other

/-- Bring-up is the sampling, the change of mode and what PD1 captures (14 R359). -/
theorem State.bringUp_eq : s.bringUp x = ((s.sampled x).enterMode .bringup).fieldUp x.nodeId x.plcaOk := rfl

/-- What PD1 captures is no object. -/
theorem State.bringUp_obj (k : Nat) : (s.bringUp x).obj k = ((s.sampled x).enterMode .bringup).obj k := rfl

/-- The objects that Bring-up leaves: all but the timebase's offset, those of the change of mode and what the ledgers dropped. -/
theorem State.bringUp_obj_other {k : Nat} (counts : k % 16 ≠ 9) (prev : k ≠ K.modePrev) (time : k ≠ K.transitionTime)
    (result : k ≠ K.modeResult) (offset : k ≠ K.tbOffset) : (s.bringUp x).obj k = s.obj k := by
  rw [State.bringUp_obj, State.enterMode_obj _ _ _ counts prev time result, State.sampled_obj offset]

@[simp] theorem State.bringUp_mode : (s.bringUp x).mode = .bringup := State.enterMode_mode ..
@[simp] theorem State.bringUp_trans : (s.bringUp x).trans = .none := State.enterMode_trans ..
@[simp] theorem State.bringUp_nodeId : (s.bringUp x).nodeId = x.nodeId := rfl
@[simp] theorem State.bringUp_plcaOk : (s.bringUp x).plcaOk = x.plcaOk := rfl

@[simp] theorem State.bringUp_domains : (s.bringUp x).domains = 3 := by
  rw [State.bringUp_eq, State.fieldUp, State.enterMode_domains _ _ _ rfl, State.sampled_frame]

@[simp] theorem State.bringUp_ports : (s.bringUp x).ports = s.ports := by
  rw [State.bringUp_eq, State.fieldUp, State.enterMode_ports _ _ _ rfl, State.sampled_frame]

@[simp] theorem State.bringUp_arrays : (s.bringUp x).arrays = s.arrays := by
  rw [State.bringUp_eq, State.fieldUp, State.enterMode_arrays _ _ _ rfl, State.sampled_frame]

@[simp] theorem State.bringUp_tbState : (s.bringUp x).tbState = x.tbin.toNat := by
  rw [State.bringUp_eq, State.fieldUp, State.enterMode_tbState, State.sampled_frame]

@[simp] theorem State.bringUp_nstby : (s.bringUp x).nstby = s.nstby := by
  rw [State.bringUp_eq, State.fieldUp, State.enterMode_nstby, State.sampled_frame]

@[simp] theorem State.bringUp_viom : (s.bringUp x).viom = s.viom := by
  rw [State.bringUp_eq, State.fieldUp, State.enterMode_viom, State.sampled_frame]

@[simp] theorem State.bringUp_vnvm : (s.bringUp x).vnvm = s.vnvm := by
  rw [State.bringUp_eq, State.fieldUp, State.enterMode_vnvm, State.sampled_frame]

@[simp] theorem State.bringUp_links : (s.bringUp x).links = s.links := by
  rw [State.bringUp_eq, State.fieldUp, State.enterMode_links, State.sampled_frame]

@[simp] theorem State.bringUp_sent : (s.bringUp x).sent = s.sent := by
  rw [State.bringUp_eq, State.fieldUp, State.enterMode_sent, State.sampled_frame]

@[simp] theorem State.bringUp_deviceTime : (s.bringUp x).deviceTime = s.deviceTime := by
  rw [State.bringUp_eq, State.fieldUp, State.enterMode_deviceTime, State.sampled_frame]

theorem State.bringUp_modePrev : (s.bringUp x).obj K.modePrev = s.mode.code := by
  rw [State.bringUp_obj, State.enterMode_modePrev, State.sampled_frame]

theorem State.bringUp_tbOffset (tbin : x.tbin = true) : (s.bringUp x).obj K.tbOffset = x.offset := by
  rw [State.bringUp_obj, State.enterMode_obj _ _ _ (by decide) (by decide) (by decide) (by decide), State.sampled_tbOffset tbin]

/-- The release of the reset pins, with the rails in limits and TEST_EN low, is Bring-up with every supply there (14 R359; 18 R442). -/
theorem State.released_starts (standby : s.mode = .standby) :
    s.released x false = ({ s with nstby := true, viom := true, vnvm := true } : State).bringUp x := if_pos ⟨standby, rfl⟩

theorem State.released_held {b : Bool} (held : s.mode ≠ .standby ∨ b = true) : s.released x b = s := by
  refine if_neg ?_
  rintro ⟨standby, low⟩
  rcases held with other | high
  · exact other standby
  · exact absurd (high.symm.trans low) (by decide)

/-- VIOM's return restarts the field interface where PD1 is on (18 R447). -/
theorem State.viomReturns_on {n : BitVec 6} {p : Bool} (on : s.pd 1 = true) :
    s.viomReturns n p = ({ s with viom := true } : State).fieldUp n p := if_pos on

theorem State.viomReturns_off {n : BitVec 6} {p : Bool} (off : s.pd 1 = false) : s.viomReturns n p = { s with viom := true } :=
  if_neg (ne_true_of_eq_false off)

end

/-- Settles O29: each rail and pin is its operation on the begun state. What VIOM's loss drops and its return keeps is the model's choice
(assumption 20), and an event that comes without its condition changes nothing (assumption 7). -/
theorem railsAndResetAct : Obligations.RailsAndResetAct := by
  unfold Obligations.RailsAndResetAct
  intro s
  refine ⟨fun off => ?_, fun on => ?_, ?_, fun on => ?_, fun n tb o p standby => ?_, fun n tb o p b held => ?_, ?_, fun n p on => ?_,
    fun n p off => ?_⟩
  · exact exec_eq_of_effect rfl (if_pos off)
  · exact exec_eq_of_effect rfl (if_neg on)
  · exact exec_eq_of_effect rfl rfl
  · exact ⟨_, exec_eq_of_effect rfl (if_neg on), rfl, rfl, rfl, State.hubReset_resetCause .., fun k other => State.hubReset_obj _ _ other,
      rfl, rfl, rfl, rfl, rfl, rfl⟩
  · exact ⟨_, exec_eq_of_effect rfl (State.released_starts standby), State.bringUp_mode, State.bringUp_domains, State.bringUp_nodeId,
      State.bringUp_plcaOk, State.bringUp_tbState, State.bringUp_nstby, State.bringUp_viom, State.bringUp_vnvm,
      State.bringUp_modePrev.trans (congrArg Mode.code standby), fun tbin => State.bringUp_tbOffset tbin⟩
  · exact exec_eq_of_effect rfl (State.released_held held)
  · exact exec_eq_of_effect rfl rfl
  · refine ⟨_, exec_eq_of_effect rfl (State.viomReturns_on on), rfl, rfl, rfl, rfl, ?_⟩
    show (s.obj K.plcaEnable == 1 && n != 0x3F) = true ↔ _
    simp
  · exact exec_eq_of_effect rfl (State.viomReturns_off off)

end Sys2Proof.Machine

namespace Sys2Proof.Machine

/-! MODE_REQ (14 R356, R357). -/

section

variable {s : State} {src : Src} {v : Nat}

/-- A command that is an accepted MODE_REQ v does what v names. -/
theorem exec_modeReq {c : Instr} {x : Extras} {t : State} (writes : s.registerWrite c = some (src, K.modeReq, v, x))
    (accepted : s.accepts src K.modeReq v) (small : v < 256)
    (acts : ((s.noted src K.modeReq v).setObj K.modeReq v).modeReqOp v (x.samples.getD (s.noted src K.modeReq v).presentSamples) = t) :
    exec c s = .next (s.after (t.saysOk s src K.modeReq)) := by
  rw [registerWrite_exec writes, flow_modeReq accepted small, acts]

/-- The state in which MODE_REQ v has been recorded and its transition's time starts. -/
abbrev State.timed (s : State) (src : Src) (v : Nat) : State := { s.requested src v with transStart := s.deviceTime }

/-- The time of the transition is that of the command. -/
theorem State.timed_eq : ({ ((s.noted src K.modeReq v).setObj K.modeReq v).setObj K.modeResult 1 with
    transStart := ((s.noted src K.modeReq v).setObj K.modeReq v).deviceTime } : State) = s.timed src v := by
  rw [State.setObj_deviceTime, noted_deviceTime]
  rfl

theorem requested_sent : (s.requested src v).sent = [] := by simp [State.requested]

theorem requested_beginTransition (t : Transition) :
    (s.requested src v).beginTransition t = { s.requested src v with trans := t, transStart := s.deviceTime } :=
  congrArg (fun d => ({ s.requested src v with trans := t, transStart := d } : State)) (requested_deviceTime ..)

theorem timed_beginTransition (t : Transition) :
    (s.timed src v).beginTransition t = { s.requested src v with trans := t, transStart := s.deviceTime } :=
  congrArg (fun d => ({ s.requested src v with trans := t, transStart := d } : State)) (requested_deviceTime s src v)

/-- The working mode rests on the pair, the buckets served and the objects outside index 0x1100 (14 R355). -/
theorem State.workingMode_congr {t : State} (pair : t.pair = s.pair) (home : t.homeNow = s.homeNow)
    (objs : ∀ k, k / 256 ≠ 0x1100 → t.obj k = s.obj k) : t.workingMode = s.workingMode := by
  unfold State.workingMode State.fenced State.ownHalf
  rw [pair, home, objs K.pairEnable (by decide), objs K.pairMask (by decide),
    objs K.pairRole (by decide), objs K.fenceSlice (by decide), objs K.fenceDc (by decide), objs K.fenceMl (by decide),
    objs K.fencePort (by decide), objs K.fenceAcc (by decide)]

/-- A MODE_REQ recorded does not change which working mode would be entered. -/
theorem requested_workingMode : (s.requested src v).workingMode = s.workingMode := by
  obtain ⟨n, frame⟩ := noted_frame s src K.modeReq v
  refine State.workingMode_congr ?_ ?_ fun k elsewhere => ?_
  · rw [State.requested, frame]; rfl
  · rw [State.requested, frame]; rfl
  · rw [State.requested, State.obj_setObj_other _ _ (by rintro rfl; exact elsewhere (by decide)),
      State.obj_setObj_other _ _ (by rintro rfl; exact elsewhere (by decide)), noted_obj]

/-- From Park the working mode is entered at once (14 R364). -/
theorem requested_leavePark : (s.requested src 4).leavePark =
    ({ s.requested src 4 with drained := false, transStart := s.deviceTime } : State).enterMode s.workingMode :=
  congrArg₂ (fun d m => ({ s.requested src 4 with drained := false, transStart := d } : State).enterMode m)
    (requested_deviceTime s src 4) requested_workingMode

end

/-! Standby, and MODE_REQ 2 (14 R352, R355, R358). -/

section

variable {s : State} {x : Samples}

theorem State.goStandby_frame : s.goStandby = { s.journalOut.cleared with objs := s.goStandby.objs } := rfl

/-- What Standby leaves in the state beside the objects (14 R352). -/
theorem State.goStandby_state : s.goStandby.mode = .standby ∧ s.goStandby.domains = 1 ∧ s.goStandby.trans = .none ∧ s.goStandby.ports = [] ∧
    s.goStandby.links = [] ∧ s.goStandby.mls = [] ∧ s.goStandby.txns = [] ∧ s.goStandby.arrays = [] ∧ s.goStandby.nvm.queue = [] := by
  rw [State.goStandby_frame]
  exact ⟨rfl, rfl, rfl, rfl, rfl, rfl, rfl, rfl, rfl⟩

theorem State.goStandby_modePrev : s.goStandby.obj K.modePrev = s.mode.code :=
  (State.toStandby_modePrev _).trans (congrArg Mode.code (journalOut_mode s))

/-- Three writes of objects leave the rest of the state. -/
theorem State.setObj_three (k l m v w u : Nat) : ((s.setObj k v).setObj l w).setObj m u =
    { s with objs := (((s.setObj k v).setObj l w).setObj m u).objs } := rfl

/-- MODE_REQ 2 is a hub reset, Bring-up and the result of the change of mode (14 R356 to R358). -/
theorem State.goBringUp_frame : s.goBringUp x = { (s.journalOut.hubReset 2).bringUp x with objs := (s.goBringUp x).objs } :=
  State.setObj_three ..

theorem State.goBringUp_modeResult : (s.goBringUp x).obj K.modeResult = 2 := by
  rw [State.goBringUp, State.obj_setObj_other _ _ (by decide), State.obj_setObj_same]

theorem State.goBringUp_modePrev : (s.goBringUp x).obj K.modePrev = s.mode.code := by
  rw [State.goBringUp, State.obj_setObj_other _ _ (by decide), State.obj_setObj_other _ _ (by decide), State.obj_setObj_same]

theorem State.goBringUp_resetCause : (s.goBringUp x).obj K.resetCause = 2 := by
  rw [State.goBringUp, State.obj_setObj_other _ _ (by decide), State.obj_setObj_other _ _ (by decide), State.obj_setObj_other _ _ (by decide),
    State.bringUp_obj_other (by decide) (by decide) (by decide) (by decide) (by decide), State.hubReset_resetCause]

/-- What MODE_REQ 2 leaves in the state beside the objects: Bring-up with its samples, no port, no link and no array word. -/
theorem State.goBringUp_state : (s.goBringUp x).mode = .bringup ∧ (s.goBringUp x).domains = 3 ∧ (s.goBringUp x).trans = .none ∧
    (s.goBringUp x).nodeId = x.nodeId ∧ (s.goBringUp x).plcaOk = x.plcaOk ∧ (s.goBringUp x).tbState = x.tbin.toNat := by
  rw [State.goBringUp_frame]
  simp only [State.bringUp_mode, State.bringUp_domains, State.bringUp_trans, State.bringUp_nodeId, State.bringUp_plcaOk,
    State.bringUp_tbState, and_self]

theorem State.goBringUp_empty : (s.goBringUp x).deviceTime = s.deviceTime ∧ (s.goBringUp x).ports = [] ∧ (s.goBringUp x).links = [] ∧
    (s.goBringUp x).arrays = [] ∧ (s.goBringUp x).sent = s.sent := by
  rw [State.goBringUp_frame]
  simp only [State.bringUp_ports, State.bringUp_links, State.bringUp_arrays, State.bringUp_sent, State.bringUp_deviceTime]
  exact ⟨journalOut_deviceTime s, rfl, rfl, rfl, journalOut_sent s⟩

end

/-- Settles O14: each request is `modeReqOp` on the journalled state, which is `State.requested`. MODE_RESULT 2 after MODE_REQ 2 is the model's
choice (assumption 43). -/
theorem modeRequestsAct : Obligations.ModeRequestsAct := by
  unfold Obligations.ModeRequestsAct
  intro s src
  refine ⟨fun accepted => ?_, fun n tb o p accepted => ?_, fun accepted => ?_, fun accepted => ⟨fun park => ?_, fun retain => ?_, fun configure => ?_⟩,
    fun accepted => ?_, fun accepted => ?_, fun accepted => ?_, fun accepted => ?_⟩
  · obtain ⟨mode, domains, trans, ports, links, mls, txns, arrays, queue⟩ := State.goStandby_state (s := s.timed src 1)
    refine ⟨_, exec_modeReq rfl accepted (by decide) ((modeReqOp_1 ..).trans (congrArg State.goStandby State.timed_eq)), mode, domains, trans,
      ports, links, mls, txns, arrays, queue, ?_, ?_, ?_⟩
    · exact State.goStandby_modePrev.trans (congrArg Mode.code (requested_mode s src 1))
    · exact (journalOut_deviceTime (s.timed src 1)).trans (requested_deviceTime s src 1)
    · exact (journalOut_sent (s.timed src 1)).trans (requested_sent (s := s) (src := src) (v := 1))
  · obtain ⟨mode, domains, trans, nodeId, plcaOk, tbState⟩ :=
      State.goBringUp_state (s := s.timed src 2) (x := { nodeId := n, tbin := tb, offset := o.toNat, plcaOk := p })
    obtain ⟨deviceTime, ports, links, arrays, sent⟩ :=
      State.goBringUp_empty (s := s.timed src 2) (x := { nodeId := n, tbin := tb, offset := o.toNat, plcaOk := p })
    refine ⟨_, exec_modeReq rfl accepted (by decide) ((modeReqOp_2 ..).trans (congrArg (State.goBringUp · _) State.timed_eq)), mode, domains,
      trans, nodeId, plcaOk, tbState, State.goBringUp_resetCause, State.goBringUp_modeResult,
      State.goBringUp_modePrev.trans (congrArg Mode.code (requested_mode s src 2)), deviceTime.trans (requested_deviceTime s src 2), ports,
      links, arrays, sent.trans (requested_sent (s := s) (src := src) (v := 2))⟩
  · exact exec_modeReq rfl accepted (by decide) (modeReqOp_3 ..)
  · refine exec_modeReq rfl accepted (by decide) ((modeReqOp_4_park _ _ ?_).trans requested_leavePark)
    rw [State.setObj_mode, noted_mode, park]
  · refine exec_modeReq rfl accepted (by decide) ((modeReqOp_4_retain _ _ ?_).trans ?_)
    · rw [State.setObj_mode, noted_mode, retain]
    · exact congrArg State.dataOn (requested_beginTransition _)
  · refine exec_modeReq rfl accepted (by decide) ((modeReqOp_4 _ _ ?_ ?_).trans rfl) <;> rw [State.setObj_mode, noted_mode, configure] <;> decide
  · refine exec_modeReq rfl accepted (by decide) ((modeReqOp_6 ..).trans ?_)
    rw [State.timed_eq, State.quiesce, timed_beginTransition]
  · refine exec_modeReq rfl accepted (by decide) ((modeReqOp_7 ..).trans ?_)
    rw [State.timed_eq, State.quiesce, timed_beginTransition]
  · refine exec_modeReq rfl accepted (by decide) ((modeReqOp_8 ..).trans ?_)
    rw [State.timed_eq]
  · exact exec_modeReq rfl accepted (by decide) ((modeReqOp_10 ..).trans (requested_beginTransition _))

end Sys2Proof.Machine

namespace Sys2Proof.Machine

/-! Presence, nSTBY and nPARK_REQ from Configure onwards (14 R356; 15 R378, R381, R383). -/

section

variable {s : State}

/-- The surprise path is a hub reset of a state that SURPRISE and the journal have left (15 R383). -/
theorem State.surprisePath_presence : ∃ u : State, s.surprisePath false = u.hubReset 1 := ⟨_, rfl⟩

theorem State.surprisePath_drain : ∃ u : State, s.surprisePath true = (u.hubReset 1).setObj K.modeResult 4 := ⟨_, rfl⟩

theorem State.watched_iff : s.watched = true ↔ s.mode = .configure ∨ s.mode = .diagnostic ∨ s.mode = .park ∨ s.mode = .retain ∨
    s.mode = .drain ∨ s.mode = .run ∨ s.mode = .degraded ∨ s.mode = .sole := by
  unfold State.watched
  cases s.mode <;> decide

theorem State.presALow_fault (watched : s.watched = true) (none : s.presFault = false) : s.presALow =
    ({ s.setObj K.presState 3 with presA := false, presB := true, presFault := true } : State).raiseS 3 (2 + 2 ^ 8) := by
  simp [State.presALow, watched, none]

theorem State.presALow_none (none : s.watched = false ∨ s.presFault = true) : s.presALow = s := by
  rcases none with unwatched | fault <;> simp [State.presALow, *]

/-- What nSTBY low leads to, by the mode; `u` has the pin low. -/
def State.nstbyChoice (s u : State) : State :=
  match s.mode with
  | .bringup | .configure => if s.dead then u else u.goStandby
  | .diagnostic => if s.dead then u else u.leaveDiagnostic.goStandby
  | .off | .standby | .run | .degraded | .sole | .retain | .park | .drain => u
  | .faultHold => s

theorem State.nstbyFalls_eq : s.nstbyFalls = s.nstbyChoice { s with nstby := false } := rfl

/-- nSTBY low ends Bring-up and Configure at once (14 R356). -/
theorem State.nstbyChoice_early {u : State} (alive : s.dead = false) (early : s.mode = .bringup ∨ s.mode = .configure) :
    s.nstbyChoice u = u.goStandby := by
  rcases early with mode | mode <;> simp [State.nstbyChoice, mode, alive]

/-- From Diagnostic it goes through Configure. -/
theorem State.nstbyChoice_diagnostic {u : State} (alive : s.dead = false) (mode : s.mode = .diagnostic) :
    s.nstbyChoice u = u.leaveDiagnostic.goStandby := by
  simp [State.nstbyChoice, mode, alive]

theorem State.nstbyChoice_held {u : State} (mode : s.mode = .faultHold) : s.nstbyChoice u = s := by simp [State.nstbyChoice, mode]

/-- In the other modes, and on the way to Fault-hold, it is kept. -/
theorem State.nstbyChoice_kept {u : State} (held : s.mode ≠ .faultHold)
    (kept : s.dead = true ∨ (s.mode ≠ .bringup ∧ s.mode ≠ .configure ∧ s.mode ≠ .diagnostic)) : s.nstbyChoice u = u := by
  rcases kept with gone | ⟨bringup, configure, diagnostic⟩ <;> cases mode : s.mode <;> simp_all [State.nstbyChoice]

/-- With nSTBY low Drain follows of itself in a working mode, Retain and a Park that is not quiet, and Standby in a quiet Park. -/
theorem State.modeWork_drains (alive : s.dead = false) (low : s.nstby = false) (idle : s.trans = .none)
    (mode : s.mode.serving = true ∨ s.mode = .retain ∨ (s.mode = .park ∧ s.parkQuiet = false)) : s.modeWork = some s.enterDrain := by
  rcases mode with serving | retain | ⟨park, busy⟩
  · cases mode : s.mode <;> simp_all [State.modeWork, Mode.serving]
  · simp [State.modeWork, alive, low, idle, retain]
  · simp [State.modeWork, alive, low, idle, park, busy]

theorem State.modeWork_standby (alive : s.dead = false) (low : s.nstby = false) (idle : s.trans = .none) (park : s.mode = .park)
    (quiet : s.parkQuiet = true) : s.modeWork = some s.goStandby := by
  simp [State.modeWork, alive, low, idle, park, quiet]

theorem State.parkRequested_drains (alive : s.dead = false) (mode : s.mode.serving = true ∨ s.mode = .retain ∨ s.mode = .park) :
    s.parkRequested = s.enterDrain := by
  rcases mode with serving | retain | park
  · cases mode : s.mode <;> simp_all [State.parkRequested, Mode.serving]
  · simp [State.parkRequested, alive, retain]
  · simp [State.parkRequested, alive, park]

theorem State.parkRequested_none (serving : s.mode.serving = false) (retain : s.mode ≠ .retain) (park : s.mode ≠ .park) :
    s.parkRequested = s := by
  cases mode : s.mode <;> simp_all [State.parkRequested, Mode.serving]

theorem State.parkRequested_dead (dead : s.dead = true) : s.parkRequested = s := if_pos dead

end

/-- Settles O31: each pin is its operation on the begun state. That losing PRES_B in Fault-hold changes nothing is assumption 64, nSTBY low while a
transition runs assumption 18; an event that comes without its condition changes nothing (assumption 7). -/
theorem pinsFallFromConfigureOnwards : Obligations.PinsFallFromConfigureOnwards := by
  unfold Obligations.PinsFallFromConfigureOnwards
  intro s
  refine ⟨State.watched_iff, fun watched => ⟨?_, ?_, fun none => ?_⟩, fun unwatched => ⟨?_, ?_⟩, fun none => ?_, fun fault => ?_, fun none => ?_,
    fun alive => ⟨fun early => ?_, fun diagnostic => ?_⟩, fun held => ?_, fun bringup configure diagnostic held => ?_, fun dead held => ?_,
    fun alive low idle => ⟨fun mode => ?_, fun park quiet => ?_⟩, fun alive => ⟨fun mode => ?_, fun serving retain park => ?_⟩, fun dead => ?_⟩
  · obtain ⟨u, path⟩ := State.surprisePath_presence (s := ({ s.begin with presB := false } : State))
    refine ⟨u.hubReset 1, exec_eq_of_effect rfl ((if_pos watched).trans path), path.symm, rfl, rfl, State.hubReset_resetCause .., rfl, rfl, rfl, rfl⟩
  · exact exec_eq_of_effect rfl (if_pos watched)
  · exact exec_eq_of_effect rfl (State.presALow_fault (s := s.begin) watched none)
  · exact exec_eq_of_effect rfl (if_neg (ne_true_of_eq_false unwatched))
  · exact exec_eq_of_effect rfl (if_neg (ne_true_of_eq_false unwatched))
  · exact exec_eq_of_effect rfl (State.presALow_none (s := s.begin) none)
  · exact exec_eq_of_effect rfl (if_pos fault)
  · exact exec_eq_of_effect rfl (if_neg (ne_true_of_eq_false none))
  · obtain ⟨mode, domains, _⟩ := State.goStandby_state (s := ({ s.begin with nstby := false } : State))
    exact ⟨_, exec_eq_of_effect rfl (State.nstbyFalls_eq.trans (State.nstbyChoice_early (s := s.begin) alive early)), rfl, mode, domains,
      State.goStandby_modePrev⟩
  · obtain ⟨mode, domains, _⟩ := State.goStandby_state (s := ({ s.begin with nstby := false } : State).leaveDiagnostic)
    exact ⟨_, exec_eq_of_effect rfl (State.nstbyFalls_eq.trans (State.nstbyChoice_diagnostic (s := s.begin) alive diagnostic)), rfl, mode, domains⟩
  · exact exec_eq_of_effect rfl (State.nstbyFalls_eq.trans (State.nstbyChoice_held (s := s.begin) held))
  · exact exec_eq_of_effect rfl (State.nstbyFalls_eq.trans (State.nstbyChoice_kept (s := s.begin) held (.inr ⟨bringup, configure, diagnostic⟩)))
  · exact exec_eq_of_effect rfl (State.nstbyFalls_eq.trans (State.nstbyChoice_kept (s := s.begin) held (.inl dead)))
  · exact State.modeWork_drains alive low idle mode
  · exact State.modeWork_standby alive low idle park quiet
  · exact exec_eq_of_effect rfl (State.parkRequested_drains (s := s.begin) alive mode)
  · exact exec_eq_of_effect rfl (State.parkRequested_none (s := s.begin) serving retain park)
  · exact exec_eq_of_effect rfl (State.parkRequested_dead (s := s.begin) dead)

end Sys2Proof.Machine

namespace Sys2Proof.Machine

/-! The way into and out of the working mode (14 R361, R362, R364; 15 R381). -/

section

variable {s : State}

theorem State.domainsOn_powering (way : s.trans = .powering) : s.domainsOn =
    { ({ s with domains := s.fullDomains } : State).freeArrays.timedInval.freshCal with trans := .calibrating } := by
  unfold State.domainsOn
  split
  next => rfl
  all_goals simp_all

theorem State.domainsOn_diagPowering (way : s.trans = .diagPowering) : s.domainsOn =
    { ({ s with domains := 0x7FF } : State).freeArrays.timedInval.freshCal with trans := .diagCalibrating } := by
  unfold State.domainsOn
  split
  next => simp_all
  next => rfl
  all_goals simp_all

theorem State.domainsOn_none (working : s.trans ≠ .powering) (diagnostic : s.trans ≠ .diagPowering) : s.domainsOn = s := by
  unfold State.domainsOn
  split <;> simp_all

theorem State.linkWaitOver_idle (other : s.trans ≠ .calibrating) : s.linkWaitOver = s := if_pos other

/-- LINK_WAIT that elapses during the calibrations is remembered (14 R361 step 4). -/
theorem State.linkWaitOver_early (way : s.trans = .calibrating) (calibrating : s.calibrating = true) :
    s.linkWaitOver = { s with linkWaited := true } := by
  rw [State.linkWaitOver, if_neg (not_not.mpr way), if_pos calibrating]

/-- The path is abandoned where the pair is not ready or a late link's partner does not serve (14 R361 step 5). -/
theorem State.linkWaitOver_abandons (way : s.trans = .calibrating) (done : s.calibrating = false)
    (stuck : s.pairReady = false ∨ (∃ k ∈ s.lateLinks, s.partnerServes k = false)) : s.linkWaitOver = s.giveUp := by
  have stuck' : (!s.pairReady || s.lateLinks.any (fun k => !s.partnerServes k)) = true := by
    simpa [List.any_eq_true] using stuck
  rw [State.linkWaitOver, if_neg (not_not.mpr way), if_neg (ne_true_of_eq_false done), if_pos stuck']

/-- Otherwise each late link is fenced, its partner going on alone. -/
theorem State.linkWaitOver_fences (way : s.trans = .calibrating) (done : s.calibrating = false) (ready : s.pairReady = true)
    (serve : ∀ k ∈ s.lateLinks, s.partnerServes k = true) : s.linkWaitOver = s.lateLinks.foldl (fun u k => match u.partner k with
      | some j => u.mlFence k j
      | none => u) s := by
  have free : (!s.pairReady || s.lateLinks.any (fun k => !s.partnerServes k)) = false := by
    rw [ready, Bool.not_true, Bool.false_or, List.any_eq_false]
    intro k late
    simp [serve k late]
  exact (if_neg (not_not.mpr way)).trans ((if_neg (ne_true_of_eq_false done)).trans (if_neg (ne_true_of_eq_false free)))

theorem State.workingEntered_none (other : s.trans ≠ .calibrating ∨ s.calibrating = true ∨ s.lateLinks ≠ [] ∨ s.pairReady = false) :
    s.workingEntered = s := by
  refine if_neg ?_
  rintro ⟨way, done, late, ready⟩
  simp_all

theorem State.enterWorking_alone (none : s.joinPair = none) : s.enterWorking = s.giveUp := by
  rw [State.enterWorking, none]

/-- The working mode entered, the accession channels empty; event 31 is not raised yet (14 R361 step 6; 12 R333). -/
def State.worked (u : State) : State := (List.range 12).foldl (fun x c => x.accEmpty c) (u.enterMode u.workingMode)

theorem State.enterWorking_joined {u : State} (joined : s.joinPair = some u) : s.enterWorking =
    if u.worked.nvm.fatalValid then u.worked.raiseS 31 (u.worked.nvm.fatalCause % 256 + u.worked.nvm.fatalUnit % 2 ^ 16 * 2 ^ 8) else u.worked := by
  rw [State.enterWorking, joined]
  rfl

theorem State.quiesceEnds_park (quiesced : s.quiesced = true) (way : s.trans = .toPark) : s.quiesceEnds = s.abortJobs.enterMode .park := by
  simp [State.quiesceEnds, quiesced, way]

theorem State.quiesceEnds_retain (quiesced : s.quiesced = true) (way : s.trans = .toRetain) :
    s.quiesceEnds = s.abortJobs.dataOff.enterMode .retain := by
  simp [State.quiesceEnds, quiesced, way]

theorem State.quiesceEnds_none (none : s.quiesced = false ∨ (s.trans ≠ .toPark ∧ s.trans ≠ .toRetain)) : s.quiesceEnds = s := by
  rcases none with busy | ⟨park, retain⟩
  · simp [State.quiesceEnds, busy]
  · simp [State.quiesceEnds, park, retain]

theorem State.retainExitEnds_none (none : s.trans ≠ .retainExit ∨ s.calibrating = true) : s.retainExitEnds = s := by
  refine if_neg ?_
  rintro ⟨way, done⟩
  simp_all

theorem State.drainAcked_none (none : s.trans ≠ .drainAck ∨ s.giveAcked = false) : s.drainAcked = s := by
  refine if_neg ?_
  rintro ⟨way, acked⟩
  simp_all

theorem State.drainRecalled_none (none : s.trans ≠ .drainRecall ∨ s.drainClean = false) : s.drainRecalled = s := if_pos none

theorem State.drainRecalled_gives (way : s.trans = .drainRecall) (clean : s.drainClean = true) (giving : s.pair.giving ≠ 0) :
    s.drainRecalled = { s.giveNow with trans := .drainGive } := by
  rw [State.drainRecalled, if_neg (by simp [way, clean]), if_pos giving, State.goOn]

theorem State.drainRecalled_ends (way : s.trans = .drainRecall) (clean : s.drainClean = true) (giving : s.pair.giving = 0) :
    s.drainRecalled = ({ s.enterMode .park with drained := true } : State).raiseS 30 0 := by
  rw [State.drainRecalled, if_neg (by simp [way, clean]), if_neg (not_not.mpr giving), State.drainEnds]
  rfl

end

/-- Settles O32: each event is its operation on the begun state, by the transition that is under way; one that comes without its condition changes
nothing (assumption 7). -/
theorem modeEventsAct : Obligations.ModeEventsAct := by
  unfold Obligations.ModeEventsAct
  intro s
  refine ⟨fun way => ?_, fun way => ?_, fun working diagnostic => ?_, fun way => ⟨fun calibrating => ?_, fun done => ⟨fun stuck => ?_,
      fun ready serve => ?_⟩, fun done late ready => ⟨fun none => ?_, fun u v joined value => ?_⟩, fun none => ?_⟩, fun other => ⟨?_, ?_⟩,
    fun quiesced way => ?_, fun quiesced way => ?_, fun none => ?_, fun way done => ?_, fun none => ?_, fun way acked => ?_, fun none => ?_,
    fun way clean => ⟨fun giving => ?_, fun giving => ?_⟩, fun none => ?_, fun drain => ?_, fun other => ?_⟩
  · exact exec_eq_of_effect rfl (State.domainsOn_powering (s := s.begin) way)
  · exact exec_eq_of_effect rfl (State.domainsOn_diagPowering (s := s.begin) way)
  · exact exec_eq_of_effect rfl (State.domainsOn_none (s := s.begin) working diagnostic)
  · exact exec_eq_of_effect rfl (State.linkWaitOver_early (s := s.begin) way calibrating)
  · exact exec_eq_of_effect rfl (State.linkWaitOver_abandons (s := s.begin) way done stuck)
  · exact exec_eq_of_effect rfl (State.linkWaitOver_fences (s := s.begin) way done ready serve)
  · exact exec_eq_of_effect rfl ((if_pos ⟨way, done, late, ready⟩).trans (State.enterWorking_alone none))
  · have entered : s.begin.workingEntered = _ := (if_pos ⟨way, done, late, ready⟩).trans (State.enterWorking_joined joined)
    subst value
    exact ⟨fun invalid => exec_eq_of_effect rfl (entered.trans (if_neg (ne_true_of_eq_false invalid))),
      fun valid => exec_eq_of_effect rfl (entered.trans (if_pos valid))⟩
  · exact exec_eq_of_effect rfl (State.workingEntered_none (s := s.begin) (.inr none))
  · exact exec_eq_of_effect rfl (State.linkWaitOver_idle (s := s.begin) other)
  · exact exec_eq_of_effect rfl (State.workingEntered_none (s := s.begin) (.inl other))
  · exact exec_eq_of_effect rfl (State.quiesceEnds_park (s := s.begin) quiesced way)
  · exact exec_eq_of_effect rfl (State.quiesceEnds_retain (s := s.begin) quiesced way)
  · exact exec_eq_of_effect rfl (State.quiesceEnds_none (s := s.begin) none)
  · exact exec_eq_of_effect rfl (if_pos ⟨way, done⟩)
  · exact exec_eq_of_effect rfl (State.retainExitEnds_none (s := s.begin) none)
  · exact exec_eq_of_effect rfl (if_pos ⟨way, acked⟩)
  · exact exec_eq_of_effect rfl (State.drainAcked_none (s := s.begin) none)
  · exact exec_eq_of_effect rfl (State.drainRecalled_gives (s := s.begin) way clean giving)
  · exact exec_eq_of_effect rfl (State.drainRecalled_ends (s := s.begin) way clean giving)
  · exact exec_eq_of_effect rfl (State.drainRecalled_none (s := s.begin) none)
  · obtain ⟨u, path⟩ := State.surprisePath_drain (s := s.begin)
    refine ⟨_, exec_eq_of_effect rfl ((if_pos drain).trans path), path.symm, rfl, rfl, ?_, State.obj_setObj_same ..⟩
    exact (State.obj_setObj_other _ _ (by decide)).trans (State.hubReset_resetCause ..)
  · exact exec_eq_of_effect rfl (if_neg other)

end Sys2Proof.Machine

namespace Sys2Proof.Machine

/-! Fatal causes and the entry to Fault-hold (13 R347 to R350; 14 R373). -/

section

variable {s : State} {cause unit detail : Nat}

/-- Outside Fault-hold a cause starts the way there and writes the fatal record (13 R348, R350). -/
theorem State.fatal_records (on : s.pd 1 = true) (alive : ¬(s.mode = .faultHold ∨ s.trans = .toFaultHold)) :
    ∃ n : NvmSt, s.fatal cause unit detail = { s with trans := .toFaultHold, transStart := s.deviceTime, fatalKept := true, nvm := n } ∧
      n.fatalCause = cause ∧ n.fatalUnit = unit ∧ n.fatalTime = s.deviceTime ∧ n.fatalValid = true ∧
      n.fatalCount = min (2 ^ 32 - 1) (s.nvm.fatalCount + 1) := by
  have off : ¬(!s.pd 1) = true := by simp [on]
  rw [State.fatal, if_neg off, if_neg alive]
  exact ⟨_, rfl, rfl, rfl, rfl, rfl, rfl⟩

/-- A cause that keeps no record only starts the way. -/
theorem State.fatal_unrecorded (on : s.pd 1 = true) (alive : ¬(s.mode = .faultHold ∨ s.trans = .toFaultHold)) :
    s.fatal cause unit detail false = { s with trans := .toFaultHold, transStart := s.deviceTime, fatalKept := false } := by
  have off : ¬(!s.pd 1) = true := by simp [on]
  rw [State.fatal, if_neg off, if_neg alive]
  rfl

/-- A further cause is only counted, and only where a record was written. -/
theorem State.fatal_counts (on : s.pd 1 = true) (held : s.mode = .faultHold ∨ s.trans = .toFaultHold) (kept : s.fatalKept = true) :
    s.fatal cause unit detail = { s with nvm := { s.nvm with fatalCount := min (2 ^ 32 - 1) (s.nvm.fatalCount + 1) } } := by
  have off : ¬(!s.pd 1) = true := by simp [on]
  rw [State.fatal, if_neg off, if_pos held, if_pos kept]
  rfl

theorem State.fatal_ignored (on : s.pd 1 = true) (held : s.mode = .faultHold ∨ s.trans = .toFaultHold) (none : s.fatalKept = false) :
    s.fatal cause unit detail = s := by
  have off : ¬(!s.pd 1) = true := by simp [on]
  rw [State.fatal, if_neg off, if_pos held, if_neg (ne_true_of_eq_false none)]

theorem State.fatal_off {record : Bool} (off : s.pd 1 = false) : s.fatal cause unit detail record = s :=
  if_pos (by rw [off]; rfl)

/-- Writing a row of objects leaves the rest of the state. -/
theorem State.foldl_setObj_frame (key value : Nat → Nat) (l : List Nat) (s : State) :
    l.foldl (fun s c => s.setObj (key c) (value c)) s =
      { s with objs := (l.foldl (fun s c => s.setObj (key c) (value c)) s).objs } := by
  induction l generalizing s with
  | nil => rfl
  | cons c l ih =>
    rw [List.foldl_cons, ih]
    rfl

/-- The end of a job leaves the journal and the staged copies. -/
theorem State.endJob_kept : s.endJob.nvm = s.nvm ∧ s.endJob.staged = s.staged := by
  unfold State.endJob State.jobSummary
  split
  · exact ⟨rfl, rfl⟩
  · split_ifs <;> simp

/-- The summary of a pass is objects alone. -/
theorem State.scrubSummary_kept (status : Nat) (x : Scrub) (elapsed : Nat) :
    (s.scrubSummary status x elapsed).nvm = s.nvm ∧ (s.scrubSummary status x elapsed).staged = s.staged := by
  rw [State.scrubSummary, State.foldl_setObj_frame]
  simp

theorem State.endScrub_kept : s.endScrub.nvm = s.nvm ∧ s.endScrub.staged = s.staged := by
  unfold State.endScrub
  split
  · exact ⟨rfl, rfl⟩
  · split_ifs <;> simp [State.scrubSummary_kept]

/-- Cutting a job and a pass leaves the journal and the staged copies, and with none of them every object (06 R182, 08 R224). -/
theorem State.jobsCut_kept : s.jobsCut.nvm = s.nvm ∧ s.jobsCut.staged = s.staged := by
  unfold State.jobsCut
  exact ⟨State.endJob_kept.1.trans State.endScrub_kept.1, State.endJob_kept.2.trans State.endScrub_kept.2⟩

theorem State.jobsCut_objs (noJob : s.job = none) (noPass : s.scrub = none) : s.jobsCut.objs = s.objs := by
  have pass : s.abortJobs.scrub = none := by rw [State.abortJobs, noPass]; rfl
  have job : s.abortJobs.job = none := by rw [State.abortJobs, State.modJob, noJob]; rfl
  unfold State.jobsCut
  dsimp only
  rw [State.endScrub_none (by exact pass), State.endJob_none (by exact job)]
  rfl

/-- Fault-hold before the change of mode writes its objects: PD0 and PD1 alone, the objects and the journal kept (13 R348 step 4, R349);
`s` has its job and pass cut. -/
def State.heldBase (s : State) : State :=
  { s.cleared with
    mode := .faultHold, domains := 3, objs := s.objs, staged := s.staged, oldBound := s.oldBound, inForce := s.inForce
    epoch := s.epoch, fatalKept := s.fatalKept, commitState := s.commitState, commitPending := s.commitPending, nvm := s.nvm
    jop := { s.jop with segs := [] }, nodeId := s.nodeId, plcaOk := s.plcaOk, plcaOn := s.plcaOn, plcaNodes := s.plcaNodes
    plcaTimer := s.plcaTimer, hot := s.hot, warned := s.warned, homeNow := s.homeNow, pair := { state := s.pair.state, rdyi := s.pair.rdyi }
    ports := (s.ports.filter (fun x => x.2.fence != .normal)).map (fun x => (x.1, { fence := x.2.fence : PortSt })) }

/-- MODE_PREV and TRANSITION_TIME of the entry. -/
def State.heldTimed (s : State) (prev : Mode) : State :=
  (s.heldBase.setObj K.modePrev prev.code).setObj K.transitionTime ((s.deviceTime - s.transStart) % 2 ^ 32)

theorem State.enterFaultHold_eq : s.enterFaultHold =
    if (s.jobsCut.heldTimed s.mode).obj K.modeResult = 1 then (s.jobsCut.heldTimed s.mode).setObj K.modeResult 2
    else s.jobsCut.heldTimed s.mode := rfl

theorem State.enterFaultHold_frame : s.enterFaultHold = { s.jobsCut.heldBase with objs := s.enterFaultHold.objs } := by
  rw [State.enterFaultHold_eq]
  split_ifs <;> rfl

theorem State.heldTimed_obj {k : Nat} (prev : Mode) (notPrev : k ≠ K.modePrev) (notTime : k ≠ K.transitionTime) :
    (s.heldTimed prev).obj k = s.obj k := by
  rw [State.heldTimed, State.obj_setObj_other _ _ notTime, State.obj_setObj_other _ _ notPrev]
  rfl

/-- The objects of Fault-hold: MODE_PREV is the mode left, MODE_RESULT closes a request, and the others but TRANSITION_TIME stay. -/
theorem State.enterFaultHold_modePrev : s.enterFaultHold.obj K.modePrev = s.mode.code := by
  have timed : (s.jobsCut.heldTimed s.mode).obj K.modePrev = s.mode.code := by
    rw [State.heldTimed, State.obj_setObj_other _ _ (by decide), State.obj_setObj_same]
  rw [State.enterFaultHold_eq]
  split_ifs
  · rw [State.obj_setObj_other _ _ (by decide), timed]
  · exact timed

theorem State.enterFaultHold_obj {k : Nat} (prev : k ≠ K.modePrev) (time : k ≠ K.transitionTime) (result : k ≠ K.modeResult) :
    s.enterFaultHold.obj k = s.jobsCut.obj k := by
  rw [State.enterFaultHold_eq]
  split_ifs
  · rw [State.obj_setObj_other _ _ result, State.heldTimed_obj _ prev time]
  · rw [State.heldTimed_obj _ prev time]

theorem State.enterFaultHold_modeResult : s.enterFaultHold.obj K.modeResult =
    if s.jobsCut.obj K.modeResult = 1 then 2 else s.jobsCut.obj K.modeResult := by
  rw [State.enterFaultHold_eq, State.heldTimed_obj _ (by decide) (by decide)]
  split_ifs
  · rw [State.obj_setObj_same]
  · rw [State.heldTimed_obj _ (by decide) (by decide)]

theorem State.enterFaultHold_state : s.enterFaultHold.mode = .faultHold ∧ s.enterFaultHold.domains = 3 ∧
    s.enterFaultHold.trans = .none ∧ (∀ l, s.enterFaultHold.ready l = false) ∧ s.enterFaultHold.txns = [] ∧ s.enterFaultHold.mls = [] ∧
    s.enterFaultHold.nvm = s.nvm ∧ s.enterFaultHold.staged = s.staged := by
  rw [State.enterFaultHold_frame]
  exact ⟨rfl, rfl, rfl, fun _ => rfl, rfl, rfl, State.jobsCut_kept.1, State.jobsCut_kept.2⟩

end

/-- Settles O33: a cause is `fatal` on the begun state, and the end of the flush the entry to Fault-hold. The operand of VCORE_LOSS and the unit and
detail of the rails' causes are the model's choices (assumption 19), as is MODE_RESULT in Fault-hold (assumption 43); a cause that comes
without its condition changes nothing (assumption 7). -/
theorem fatalCausesLeadToFaultHold : Obligations.FatalCausesLeadToFaultHold := by
  unfold Obligations.FatalCausesLeadToFaultHold
  intro s
  refine ⟨fun on mode way => ?_, fun x on held => ⟨fun kept => ?_, fun none => ?_⟩, fun x off => ?_, fun b off => ?_, fun off10 off11 => ?_,
    fun way => ?_, fun other => ?_⟩
  · have alive : ¬(s.begin.mode = .faultHold ∨ s.begin.trans = .toFaultHold) := not_or.mpr ⟨mode, way⟩
    refine ⟨?_, exec_eq_of_effect rfl (State.fatal_unrecorded (s := s.begin) on alive)⟩
    intro c cause unit x row
    obtain ⟨n, records, fields⟩ := State.fatal_records (s := s.begin) (cause := cause) (unit := unit) (detail := 0) on alive
    rcases row with ⟨rfl, rfl, rfl⟩ | ⟨rfl, rfl, rfl⟩ | ⟨rfl, rail, rfl, rfl⟩
    · exact ⟨_, exec_eq_of_effect rfl records, rfl, fields⟩
    · exact ⟨_, exec_eq_of_effect rfl records, rfl, fields⟩
    · have domain : (s.begin.pd 10 || s.begin.pd 11) = true := by simpa using rail
      exact ⟨_, exec_eq_of_effect rfl ((if_pos domain).trans records), rfl, fields⟩
  · exact exec_eq_of_effect rfl (State.fatal_counts (s := s.begin) on held kept)
  · exact exec_eq_of_effect rfl (State.fatal_ignored (s := s.begin) on held none)
  · exact exec_eq_of_effect rfl (State.fatal_off (s := s.begin) off)
  · exact exec_eq_of_effect rfl (State.fatal_off (s := s.begin) off)
  · have domain : ¬(s.begin.pd 10 || s.begin.pd 11) = true := by simpa using And.intro off10 off11
    exact exec_eq_of_effect rfl (if_neg domain)
  · obtain ⟨mode, domains, trans, ready, txns, mls, nvm, staged⟩ := State.enterFaultHold_state (s := s.begin)
    refine ⟨_, exec_eq_of_effect rfl (if_pos way), mode, domains, trans, ready, txns, mls, nvm, staged, State.enterFaultHold_modePrev,
      fun noJob noPass => ?_⟩
    have objs : ∀ k, s.begin.jobsCut.obj k = s.obj k := fun k => by
      rw [State.obj, State.jobsCut_objs (s := s.begin) noJob noPass]
      rfl
    refine ⟨fun k prev time result => (State.enterFaultHold_obj prev time result).trans (objs k), ?_⟩
    rw [State.enterFaultHold_modeResult, objs]
  · exact exec_eq_of_effect rfl (if_neg other)

end Sys2Proof.Machine

namespace Sys2Proof.Machine

/-! The journal NVM (14 R372; 18 R447). -/

section

variable {s : State} {ok : Bool} {e : JEntry} {rest : List JEntry}

/-- An operation of the NVM ends: the program of the oldest entry, or the erase that it needs first. -/
theorem State.nvmDone_works (supplied : s.vnvm = true) (on : s.pd 1 = true) (segs : s.nvm.segs ≠ []) (queued : s.nvm.queue = e :: rest) :
    s.nvmDone ok = if s.nvm.erased then s.programDone ok else s.eraseDone ok := by
  have works : ¬(!s.vnvm || s.nvm.queue.isEmpty || s.nvm.segs.isEmpty || !s.pd 1) = true := by simp [supplied, on, segs, queued]
  rw [State.nvmDone, if_neg works]

theorem State.nvmDone_stands (none : s.vnvm = false ∨ s.nvm.queue = [] ∨ s.nvm.segs = [] ∨ s.pd 1 = false) : s.nvmDone ok = s := by
  refine if_pos ?_
  rcases none with unsupplied | empty | noSegs | off <;> simp [*]

theorem State.programDone_verified (queued : s.nvm.queue = e :: rest) : s.programDone true =
    ({ s with nvm := { s.nvm with queue := rest, entries := (s.nvm.place, e) :: s.nvm.entries } } : State).nextPlace := by
  rw [State.programDone, queued]
  rfl

/-- The segments that are to be retired once the ring reaches them, the present one among them. -/
def State.badHere (s : State) : List Nat := if s.nvm.bad.contains s.segHere then s.nvm.bad else s.nvm.bad ++ [s.segHere]

theorem State.badHere_contains : s.badHere.contains s.segHere = true := by
  unfold State.badHere
  split_ifs with marked
  · exact marked
  · simp

/-- A program that fails moves on with the entry still queued and its segment marked. -/
theorem State.programDone_failed (queued : s.nvm.queue = e :: rest) :
    s.programDone false = ({ s with nvm := { s.nvm with bad := s.badHere } } : State).nextPlace := by
  rw [State.programDone, queued]
  rfl

/-- A key placed in a table is found in it. -/
theorem any_tput {α : Type} (v : α) (k : Nat) (t : Tab α) : (tput v k t).any (fun x => x.1 == k) = true := by
  induction t with
  | nil => simp [tput]
  | cons x t ih =>
    obtain ⟨a, b⟩ := x
    simp only [tput]
    split_ifs <;> simp_all

/-- VNVM lost with no program under way only loses the supply (18 R447). -/
theorem State.vnvmFails_quiet (supplied : s.vnvm = true) (quiet : s.nvm.queue = [] ∨ s.nvm.erased = false ∨ s.pd 1 = false) :
    s.vnvmFails = { s with vnvm := false } := by
  have kept : s.nvmInterrupted = s := by
    unfold State.nvmInterrupted
    split
    · rfl
    · rename_i queued
      refine if_neg ?_
      rcases quiet with empty | unerased | off
      · simp_all
      · simp [unerased]
      · simp [off]
  rw [State.vnvmFails, if_pos supplied, kept]

/-- In a program it damages that entry. -/
theorem State.vnvmFails_programming (supplied : s.vnvm = true) (queued : s.nvm.queue = e :: rest) (erased : s.nvm.erased = true)
    (on : s.pd 1 = true) : s.vnvmFails.vnvm = false ∧ s.vnvmFails.nvm.queue = rest ∧
      s.vnvmFails.nvm.entries = (s.nvm.place, e) :: s.nvm.entries ∧ s.vnvmFails.damagedAt (some s.nvm.place) = true := by
  have programming : (s.nvm.erased && s.pd 1) = true := by rw [erased, on]; rfl
  rw [State.vnvmFails, if_pos supplied, State.nvmInterrupted, queued]
  dsimp only
  rw [if_pos programming]
  exact ⟨rfl, rfl, rfl, any_tput ..⟩

end

/-- Settles O34: the end of an operation is `nvmDone` on the begun state, by what the journal holds. A program that ends with none under way changes
nothing (assumption 7); one that fails moves on as R372 says that it is made again in the next place. -/
theorem journalNvmActs : Obligations.JournalNvmActs := by
  unfold Obligations.JournalNvmActs
  intro s
  refine ⟨fun e rest supplied on segs queued => ⟨fun erased => ⟨?_, ?_⟩, fun unerased ok => ?_⟩, fun ok none => ?_, fun supplied quiet => ?_,
    fun e rest supplied queued erased on => ?_, ?_⟩
  · have works : s.begin.nvmDone true = _ := State.nvmDone_works supplied on segs queued
    exact exec_eq_of_effect rfl (works.trans ((if_pos erased).trans (State.programDone_verified (s := s.begin) queued)))
  · have works : s.begin.nvmDone false = _ := State.nvmDone_works supplied on segs queued
    refine ⟨_, exec_eq_of_effect rfl (works.trans ((if_pos erased).trans (State.programDone_failed (s := s.begin) queued))), rfl, rfl, ?_, rfl⟩
    exact State.badHere_contains (s := s.begin)
  · have works : s.begin.nvmDone ok = _ := State.nvmDone_works supplied on segs queued
    exact exec_eq_of_effect rfl (works.trans (if_neg (ne_true_of_eq_false unerased)))
  · exact exec_eq_of_effect rfl (State.nvmDone_stands (s := s.begin) none)
  · exact exec_eq_of_effect rfl (State.vnvmFails_quiet (s := s.begin) supplied quiet)
  · exact ⟨_, exec_eq_of_effect rfl rfl, State.vnvmFails_programming (s := s.begin) supplied queued erased on⟩
  · exact exec_eq_of_effect rfl rfl

end Sys2Proof.Machine

namespace Sys2Proof.Machine

/-! The timebase (14 R365, R366). -/

section

variable {s : State} {o : Nat}

theorem State.clocked_of (powered : s.mode ≠ .off) (awake : s.mode ≠ .standby) : s.clocked = true := by
  simp [State.clocked, powered, awake]

theorem State.not_clocked (stopped : s.mode = .off ∨ s.mode = .standby) : ¬ s.clocked = true := by
  rcases stopped with off | standby <;> simp [State.clocked, *]

theorem State.tbAppears_none (none : ¬(s.clocked = true ∧ s.tbState = 0)) : s.tbAppears o = s := if_neg none

theorem State.tbCorrects_none (none : ¬(s.clocked = true ∧ s.tbState = 1)) : s.tbCorrects o = s := if_neg none

theorem State.tbLost_none (none : ¬(s.clocked = true ∧ s.tbState = 1)) : s.tbLost = s := if_neg none

theorem State.tbReturns_none (none : ¬(s.clocked = true ∧ s.tbState = 2)) : s.tbReturns = s := if_neg none

/-- TB_STATE 2 with its event, as every loss begins (14 R366). -/
def State.holdover (s : State) : State := ({ s with tbState := 2 } : State).raiseS 2 (2 + 256)

theorem State.tbAppears_starts (clocked : s.clocked = true) (untrimmed : s.tbState = 0) :
    s.tbAppears o = ({ s.setObj K.tbOffset o with tbState := 1 } : State).raiseS 2 1 := by
  have old : (s.setObj K.tbOffset o).tbState = 0 := (State.setObj_tbState ..).trans untrimmed
  rw [State.tbAppears, if_pos ⟨clocked, untrimmed⟩, State.tbTo, old]

theorem State.tbReturns_back (clocked : s.clocked = true) (lost : s.tbState = 2) :
    s.tbReturns = ({ s with tbState := 1 } : State).raiseS 2 (1 + 2 * 256) := by
  rw [State.tbReturns, if_pos ⟨clocked, lost⟩, State.tbTo, lost]

/-- What the loss of TBIN leads to, by the mode. -/
theorem State.tbLost_lost (clocked : s.clocked = true) (locked : s.tbState = 1) : s.tbLost =
    if s.mode.serving || s.mode == .park then ({ s.holdover.clkTo false with missAll := true } : State).calAll.calSettled
    else if s.trans = .retainExit then s.holdover.clkTo false else s.holdover := by
  have events : s.tbTo 2 = s.holdover := by rw [State.tbTo, locked]; rfl
  have mode : s.holdover.mode = s.mode := State.raiseS_mode ..
  have trans : s.holdover.trans = s.trans := State.raiseS_trans ..
  rw [State.tbLost, if_pos ⟨clocked, locked⟩, events, ← mode, ← trans]

end

/-! Telemetry (14 R368). -/

section

variable {s : State} {key : Nat → Nat}

/-- Values stored under the keys of a family: each of them reads as stored. -/
theorem State.foldl_setObj_same (value : Nat → Nat) (n : Nat) (distinct : ∀ i j, key i = key j → i = j) {i : Nat} (inside : i < n) :
    ((List.range n).foldl (fun s i => s.setObj (key i) (value i)) s).obj (key i) = value i := by
  induction n with
  | zero => omega
  | succ n ih =>
    rw [List.range_succ, List.foldl_append, List.foldl_cons, List.foldl_nil, State.obj_setObj]
    split_ifs with last
    · rw [distinct _ _ last]
    · exact ih (by have : i ≠ n := fun same => last (by rw [same]); omega)

theorem State.foldl_setObj_other (value : Nat → Nat) (l : List Nat) {k : Nat} (outside : ∀ i ∈ l, k ≠ key i) :
    (l.foldl (fun s i => s.setObj (key i) (value i)) s).obj k = s.obj k := by
  induction l generalizing s with
  | nil => rfl
  | cons i l ih =>
    rw [List.foldl_cons, ih fun j mem => outside j (List.mem_cons_of_mem _ mem), State.obj_setObj_other _ _ (outside i List.mem_cons_self)]

theorem State.setAll_same (l : List Nat) (distinct : ∀ i j, key i = key j → i = j) {i : Nat} (inside : i < l.length) :
    (s.setAll key l).obj (key i) = l[i] := by
  rw [State.setAll, State.foldl_setObj_same _ _ distinct inside, List.getElem?_eq_getElem inside, Option.getD_some]

theorem State.setAll_other (l : List Nat) {k : Nat} (outside : ∀ i, i < l.length → k ≠ key i) : (s.setAll key l).obj k = s.obj k :=
  State.foldl_setObj_other _ _ fun i mem => outside i (List.mem_range.mp mem)

theorem State.setAll_frame (l : List Nat) : s.setAll key l = { s with objs := (s.setAll key l).objs } := State.foldl_setObj_frame ..

end

section

variable {s : State} {x : Telemetry}

/-- Two changes of objects alone, one after the other. -/
theorem State.objs_then {t u : State} (first : t = { s with objs := t.objs }) (second : u = { t with objs := u.objs }) :
    u = { s with objs := u.objs } :=
  second.trans (congrArg (fun t : State => { t with objs := u.objs }) first)

/-- An update changes objects alone. -/
theorem State.telemetry_frame : s.telemetry x = { s with objs := (s.telemetry x).objs } :=
  State.objs_then (State.objs_then (State.objs_then (State.objs_then (State.setAll_frame _) (State.setAll_frame _)) (State.setAll_frame _))
    (State.setAll_frame _)) (State.setAll_frame _)

/-- The key of sensor or monitor u of a family of telemetry: temperatures, voltages, rates, port rates and link rates. -/
def telemetryKey (family u : Nat) : Nat := okey (0x1201 + family) (1 + u)

/-- A family of at most 48 values is read back, and no other family is touched. -/
theorem State.setAll_family (family : Nat) (l : List Nat) {i : Nat} (inside : i < l.length) :
    (s.setAll (telemetryKey family) l).obj (telemetryKey family i) = l[i] :=
  State.setAll_same l (fun i j same => by simp only [telemetryKey, okey] at same; omega) inside

theorem State.setAll_otherFamily {f g : Nat} (l : List Nat) {i : Nat} (short : l.length ≤ 48) (inside : i < 48) (other : g ≠ f) :
    (s.setAll (telemetryKey f) l).obj (telemetryKey g i) = s.obj (telemetryKey g i) :=
  State.setAll_other l fun j within => by simp only [telemetryKey, okey]; omega

theorem Telemetry.lengths (wellFormed : x.wellFormed = true) :
    x.temp.length = 16 ∧ x.volt.length = 8 ∧ x.rateMon.length = 32 ∧ x.portRate.length = 48 ∧ x.mlRate.length = 8 := by
  simpa [Telemetry.wellFormed, and_assoc] using wellFormed

/-- The families as they are stored, the first first (14 R368). -/
theorem State.telemetry_eq : s.telemetry x =
    ((((s.setAll (telemetryKey 0) (x.temp.map BitVec.toNat)).setAll (telemetryKey 1) (x.volt.map BitVec.toNat)).setAll (telemetryKey 2)
      (x.rateMon.map BitVec.toNat)).setAll (telemetryKey 3) (x.portRate.map BitVec.toNat)).setAll (telemetryKey 4)
      (x.mlRate.map BitVec.toNat) := rfl

/-- Every value of an update reads as it came. -/
theorem State.telemetry_stores (wellFormed : x.wellFormed = true) :
    (∀ i (h : i < x.temp.length), (s.telemetry x).obj (telemetryKey 0 i) = (x.temp[i]).toNat) ∧
    (∀ i (h : i < x.volt.length), (s.telemetry x).obj (telemetryKey 1 i) = (x.volt[i]).toNat) ∧
    (∀ i (h : i < x.rateMon.length), (s.telemetry x).obj (telemetryKey 2 i) = (x.rateMon[i]).toNat) ∧
    (∀ i (h : i < x.portRate.length), (s.telemetry x).obj (telemetryKey 3 i) = (x.portRate[i]).toNat) ∧
    (∀ i (h : i < x.mlRate.length), (s.telemetry x).obj (telemetryKey 4 i) = (x.mlRate[i]).toNat) := by
  obtain ⟨temp, volt, rateMon, portRate, mlRate⟩ := Telemetry.lengths wellFormed
  have volts : (x.volt.map BitVec.toNat).length ≤ 48 := by simp [volt]
  have rates : (x.rateMon.map BitVec.toNat).length ≤ 48 := by simp [rateMon]
  have ports : (x.portRate.map BitVec.toNat).length ≤ 48 := by simp [portRate]
  have links : (x.mlRate.map BitVec.toNat).length ≤ 48 := by simp [mlRate]
  rw [State.telemetry_eq]
  refine ⟨fun i inside => ?_, fun i inside => ?_, fun i inside => ?_, fun i inside => ?_, fun i inside => ?_⟩
  · rw [State.setAll_otherFamily _ links (by omega) (by decide), State.setAll_otherFamily _ ports (by omega) (by decide),
      State.setAll_otherFamily _ rates (by omega) (by decide), State.setAll_otherFamily _ volts (by omega) (by decide),
      State.setAll_family _ _ (by simpa using inside), List.getElem_map]
  · rw [State.setAll_otherFamily _ links (by omega) (by decide), State.setAll_otherFamily _ ports (by omega) (by decide),
      State.setAll_otherFamily _ rates (by omega) (by decide), State.setAll_family _ _ (by simpa using inside), List.getElem_map]
  · rw [State.setAll_otherFamily _ links (by omega) (by decide), State.setAll_otherFamily _ ports (by omega) (by decide),
      State.setAll_family _ _ (by simpa using inside), List.getElem_map]
  · rw [State.setAll_otherFamily _ links (by omega) (by decide), State.setAll_family _ _ (by simpa using inside), List.getElem_map]
  · rw [State.setAll_family _ _ (by simpa using inside), List.getElem_map]

theorem State.telemetryOp_on (on : s.pd 1 = true) :
    s.telemetryOp x = (s.telemetry x).warnTemps.warnVolts.warnRates.judgeCal.judgeTrip := if_pos on

theorem State.telemetryOp_off (off : s.pd 1 = false) : s.telemetryOp x = s := if_neg (ne_true_of_eq_false off)

end

/-- Settles O35: each event of the timebase is its operation on the begun state, by the mode and TB_STATE, and an update of telemetry stores its
values before it is judged. -/
theorem timebaseAndTelemetryAct : Obligations.TimebaseAndTelemetryAct := by
  unfold Obligations.TimebaseAndTelemetryAct
  intro s
  refine ⟨fun powered awake => ?_, fun stopped o => ?_, fun x wellFormed off => ?_, fun o other => ?_, fun o other => ?_, fun other => ?_,
    fun x wellFormed on => ?_⟩
  · have clocked : s.begin.clocked = true := State.clocked_of powered awake
    refine ⟨fun o untrimmed => ?_, fun o locked => ?_, fun lost => ?_, fun locked serving park way => ?_, fun locked working => ?_,
      fun locked serving park way => ?_⟩
    · exact exec_eq_of_effect rfl (State.tbAppears_starts clocked untrimmed)
    · exact exec_eq_of_effect rfl (if_pos ⟨clocked, locked⟩)
    · exact exec_eq_of_effect rfl (State.tbReturns_back clocked lost)
    · have idle : ¬(s.begin.mode.serving || s.begin.mode == .park) = true := by simpa using And.intro serving park
      exact exec_eq_of_effect rfl ((State.tbLost_lost clocked locked).trans ((if_neg idle).trans (if_neg way)))
    · have busy : (s.begin.mode.serving || s.begin.mode == .park) = true := by simpa using working
      exact ⟨_, _, exec_eq_of_effect rfl ((State.tbLost_lost clocked locked).trans (if_pos busy)), rfl, rfl⟩
    · have idle : ¬(s.begin.mode.serving || s.begin.mode == .park) = true := by simpa using And.intro serving park
      exact exec_eq_of_effect rfl ((State.tbLost_lost clocked locked).trans ((if_neg idle).trans (if_pos way)))
  · have unclocked : ¬ s.begin.clocked = true := State.not_clocked stopped
    exact ⟨exec_eq_of_effect rfl (State.tbAppears_none fun h => unclocked h.1), exec_eq_of_effect rfl (State.tbCorrects_none fun h => unclocked h.1),
      exec_eq_of_effect rfl (State.tbLost_none fun h => unclocked h.1), exec_eq_of_effect rfl (State.tbReturns_none fun h => unclocked h.1)⟩
  · exact exec_eq_of_effect wellFormed (State.telemetryOp_off (s := s.begin) off)
  · exact exec_eq_of_effect rfl (State.tbAppears_none (s := s.begin) fun h => other h.2)
  · exact ⟨exec_eq_of_effect rfl (State.tbCorrects_none (s := s.begin) fun h => other h.2),
      exec_eq_of_effect rfl (State.tbLost_none (s := s.begin) fun h => other h.2)⟩
  · exact exec_eq_of_effect rfl (State.tbReturns_none (s := s.begin) fun h => other h.2)
  · exact ⟨s.begin.telemetry x, exec_eq_of_effect wellFormed (State.telemetryOp_on (s := s.begin) on), State.telemetry_frame,
      State.telemetry_stores wellFormed⟩

end Sys2Proof.Machine

namespace Sys2Proof.Machine

/-! What an object reads does not rest on the record of what the hub sends. -/

/-- Two readings that agree on the entries of a list agree on what is found there. -/
theorem lookup_agree {α β : Type} {g h : α → β} (l : List (Nat × α)) (agree : l.map (fun x => g x.2) = l.map (fun x => h x.2)) (k : Nat) :
    (l.lookup k).map g = (l.lookup k).map h := by
  induction l with
  | nil => rfl
  | cons x l ih =>
    obtain ⟨first, rest⟩ := List.cons.inj agree
    rw [List.lookup_cons]
    split
    · exact congrArg some first
    · exact ih rest

theorem begin_decided (s : State) (k : Nat) : s.begin.decided k = s.decided k := by
  have alone := lookup_agree (g := fun f => f s.begin) (h := fun f => f s) aloneObjs rfl k
  have units := lookup_agree (g := fun f => f s.begin (k % 256 - 1)) (h := fun f => f s (k % 256 - 1)) unitObjs rfl (k / 256)
  have ports := lookup_agree (g := fun f => f s.begin (k / 256 - 0x2000)) (h := fun f => f s (k / 256 - 0x2000)) portObjs rfl (k % 256)
  have accs := lookup_agree (g := fun f => f s.begin (k / 256 - 0x2700)) (h := fun f => f s (k / 256 - 0x2700)) accObjs rfl (k % 256)
  unfold State.decided
  dsimp only
  split
  · rfl
  · split
    next found => simpa [found] using alone
    next found => simpa [found] using units
    next =>
      rw [ports, accs]
      rfl

theorem begin_objGet (s : State) (k : Nat) : s.begin.objGet k = s.objGet k := by
  rw [State.objGet, begin_decided]
  rfl

/-! Events of field control (16 R400, R402, R409 to R411, R414). -/

section

variable {s : State} {i : Nat} {x : Subscription}

/-- The switch of a commit ends once no port and no bucket is pending (16 R414). -/
theorem State.commitEnds_done (switching : s.commitState = true) (ports : s.commitPending = 0) (buckets : s.moving = [])
    (alive : s.dead = false) : s.commitEnds =
    (({ s with commitState := false, oldBound := [] } : State).bump K.commits).raiseS 29 s.epoch :=
  if_pos (by simp [switching, ports, buckets, alive])

theorem State.commitEnds_none (none : s.commitState = false ∨ s.commitPending ≠ 0 ∨ s.moving ≠ [] ∨ s.dead = true) : s.commitEnds = s := by
  refine if_neg ?_
  simp only [Bool.and_eq_true, beq_iff_eq, List.isEmpty_iff, Bool.not_eq_true', not_and, Bool.not_eq_false]
  rintro ⟨⟨switching, ports⟩, buckets⟩
  simpa [switching, ports, buckets] using none

theorem State.periodElapses_sends (found : s.sub i = some x) (periodic : x.onChange = false) (free : s.notifiable x.key = true) :
    s.periodElapses i = s.notify x := by
  simp [State.periodElapses, found, periodic, free]

/-- A send that cannot be made is skipped, and the period runs on (16 R410). -/
theorem State.periodElapses_skips (found : s.sub i = some x) (periodic : x.onChange = false) (held : s.notifiable x.key = false) :
    s.periodElapses i = s.setSubs (s.jop.subs.map (fun y => if y.id = i then { y with lastTime := s.deviceTime } else y)) := by
  simp [State.periodElapses, found, periodic, held]

theorem State.periodElapses_onChange (found : s.sub i = some x) (onChange : x.onChange = true) : s.periodElapses i = s := by
  simp [State.periodElapses, found, onChange]

theorem State.periodElapses_gone (gone : s.sub i = none) : s.periodElapses i = s := by simp [State.periodElapses, gone]

theorem State.changeSends_sends (found : s.sub i = some x) (onChange : x.onChange = true) (free : s.notifiable x.key = true)
    (changed : s.objGet x.key ≠ x.lastValue) : s.changeSends i = s.notify x := by
  simp [State.changeSends, found, onChange, free, changed]

theorem State.changeSends_waits (found : s.sub i = some x)
    (none : x.onChange = false ∨ s.notifiable x.key = false ∨ s.objGet x.key = x.lastValue) : s.changeSends i = s := by
  rcases none with periodic | held | same <;> simp [State.changeSends, *]

theorem State.changeSends_gone (gone : s.sub i = none) : s.changeSends i = s := by simp [State.changeSends, gone]

theorem State.segIdle_closes {g : Segment} (found : s.jop.segs[i]? = some g) : s.segIdle i = s.segClose g.mac := by
  simp only [State.segIdle, found]

theorem State.segIdle_gone (gone : s.jop.segs[i]? = none) : s.segIdle i = s := by simp only [State.segIdle, gone]

theorem State.frameDiscarded_deaf {b : Bool} (deaf : s.jop.up = false ∨ s.pd 1 = false) : s.frameDiscarded b = s :=
  if_pos (by rcases deaf with down | off <;> simp [*])

theorem State.frameDiscarded_heard {b : Bool} (up : s.jop.up = true) (on : s.pd 1 = true) :
    s.frameDiscarded b = if b then (s.bump K.framesRx).bump K.requestsDropped else s.bump K.netDiscarded :=
  if_neg (by simp [up, on])

end

/-- Settles O60: each event is its operation on the begun state; one that comes without its condition changes nothing (assumption 7). -/
theorem fieldEventsAct : Obligations.FieldEventsAct := by
  unfold Obligations.FieldEventsAct
  intro s
  refine ⟨fun switching ports buckets alive => ?_, fun none => ?_,
    fun i => ⟨fun x found => ⟨fun periodic free => ?_, fun periodic held => ?_, fun onChange => ?_, fun onChange free changed => ?_,
      fun none => ?_⟩, fun gone => ⟨?_, ?_⟩, ?_⟩,
    fun i => ⟨fun x found => ?_, fun gone => ?_⟩, fun up on => ⟨?_, ?_⟩, fun b deaf => ?_⟩
  · exact exec_eq_of_effect rfl (State.commitEnds_done (s := s.begin) switching ports buckets alive)
  · exact exec_eq_of_effect rfl (State.commitEnds_none (s := s.begin) none)
  · exact exec_eq_of_effect rfl (State.periodElapses_sends (s := s.begin) found periodic free)
  · exact exec_eq_of_effect rfl (State.periodElapses_skips (s := s.begin) found periodic held)
  · exact exec_eq_of_effect rfl (State.periodElapses_onChange (s := s.begin) found onChange)
  · exact exec_eq_of_effect rfl (State.changeSends_sends (s := s.begin) found onChange free (by rwa [begin_objGet]))
  · exact exec_eq_of_effect rfl (State.changeSends_waits (s := s.begin) found (by rw [begin_objGet]; exact none))
  · exact exec_eq_of_effect rfl (State.periodElapses_gone (s := s.begin) gone)
  · exact exec_eq_of_effect rfl (State.changeSends_gone (s := s.begin) gone)
  · exact exec_eq_of_effect rfl rfl
  · exact exec_eq_of_effect rfl (State.segIdle_closes (s := s.begin) found)
  · exact exec_eq_of_effect rfl (State.segIdle_gone (s := s.begin) gone)
  · exact exec_eq_of_effect rfl (State.frameDiscarded_heard (s := s.begin) up on)
  · exact exec_eq_of_effect rfl (State.frameDiscarded_heard (s := s.begin) up on)
  · exact exec_eq_of_effect rfl (State.frameDiscarded_deaf (s := s.begin) deaf)

end Sys2Proof.Machine

namespace Sys2Proof.Machine

/-! Request frames of the field network (16 R400, R402, R403, R406). -/

/-- The commands that are request frames: the opcode of each row, with the condition that SUBSCRIBE and SEGMENT put on its MODE (R409, R410). -/
def requestRow (c : Instr) (op : Nat) (f : JopFrame) (mode : Nat) : Prop :=
  (c = .ident f ∧ op = 0x01) ∨ (c = .read f ∧ op = 0x02) ∨ (c = .write f ∧ op = 0x03) ∨ (c = .stage f ∧ op = 0x04) ∨
    (c = .commit f ∧ op = 0x05) ∨ (c = .journalRead f ∧ op = 0x08) ∨
    (op = 0x06 ∧ ((c = .subscribeCancel f ∧ (mode = 0 ∨ 2 < mode ∨ f.payload.length ≠ 12)) ∨
      (c = .subscribePeriodic f ∧ (mode = 1 ∨ 2 < mode ∨ f.payload.length ≠ 12)) ∨
      (c = .subscribeOnChange f ∧ (mode = 2 ∨ 2 < mode ∨ f.payload.length ≠ 12)))) ∨
    (op = 0x09 ∧ ((c = .segmentRead f ∧ mode % 2 = 0) ∨ (c = .segmentWrite f ∧ mode % 2 = 1)))

section

variable {s : State} {op : Nat} {f : JopFrame}

/-- Each such command is the arrival of its request frame. -/
theorem exec_requestRow {c : Instr} (row : requestRow c op f (payloadNat f.payload 4 1)) : exec c s = flow (fun s => s.jopRequest op f) s := by
  rcases row with ⟨rfl, rfl⟩ | ⟨rfl, rfl⟩ | ⟨rfl, rfl⟩ | ⟨rfl, rfl⟩ | ⟨rfl, rfl⟩ | ⟨rfl, rfl⟩ | ⟨rfl, row⟩ | ⟨rfl, row⟩
  · rfl
  · rfl
  · rfl
  · rfl
  · rfl
  · rfl
  · rcases row with ⟨rfl, carries⟩ | ⟨rfl, carries⟩ | ⟨rfl, carries⟩
    · exact exec_eq_of_effect rfl (if_pos carries)
    · exact exec_eq_of_effect rfl (if_pos carries)
    · exact exec_eq_of_effect rfl (if_pos carries)
  · rcases row with ⟨rfl, direction⟩ | ⟨rfl, direction⟩
    · exact exec_eq_of_effect rfl (if_pos direction)
    · exact exec_eq_of_effect rfl (if_pos direction)

theorem State.jopRequest_deaf (deaf : s.jop.up = false ∨ s.pd 1 = false) : s.jopRequest op f = s :=
  if_pos (by rcases deaf with down | off <;> simp [*])

/-- Only IDENT may be broadcast. -/
theorem State.jopRequest_broadcast (up : s.jop.up = true) (on : s.pd 1 = true) (broadcast : f.broadcast = true) (other : op ≠ 1) :
    s.jopRequest op f = s.bump K.netDiscarded := by
  have heard : ¬(!s.jop.up || !s.pd 1) = true := by simp [up, on]
  have dropped : (f.broadcast && op != 0x01) = true := by simp [broadcast, other]
  rw [State.jopRequest, if_neg heard, if_pos dropped]

/-- A request that is taken is counted, and served, queued or dropped as an answer waits. -/
theorem State.jopRequest_taken (up : s.jop.up = true) (on : s.pd 1 = true) (addressed : f.broadcast = false ∨ op = 1) :
    s.jopRequest op f =
      if s.jop.waiting.isNone then (s.bump K.framesRx).perform op f
      else if 16 ≤ s.jop.queue.length then (s.bump K.framesRx).bump K.requestsDropped
      else { s.bump K.framesRx with jop := { s.jop with queue := s.jop.queue ++ [{ op := op, frame := f }] } } := by
  have heard : ¬(!s.jop.up || !s.pd 1) = true := by simp [up, on]
  have kept : ¬(f.broadcast && op != 0x01) = true := by rcases addressed with single | rfl <;> simp [*]
  rw [State.jopRequest, if_neg heard, if_neg kept]
  rfl

theorem State.perform_repeat {k : Kept} (kept : s.keptFor f = some k) :
    s.perform op f = ((s.bump K.duplicates).bump K.framesTx).emit (.answer k.mac k.op k.seq k.status k.payload) := by
  rw [State.perform, kept]

theorem State.perform_new (new : s.keptFor f = none) : s.perform op f = (s.serve op f).state.answerServed op f (s.serve op f) := by
  rw [State.perform, new]

/-- A bad frame is answered BAD_FRAME and does nothing else. -/
theorem State.answerServed_bad (up : s.jop.up = true) (bad : frameBad op f = true) :
    (s.serve op f).state.answerServed op f (s.serve op f) = s.jopAnswer f.mac op f.seq 1 [] := by
  have heard : ¬(!s.jop.up) = true := by simp [up]
  rw [State.serve, if_pos bad, State.answerServed]
  exact if_neg heard

end

/-- Settles O58: every request row is the arrival of its frame, and what a frame meets decides the rest. That a request is served at once, the queue
filling only while an answer waits, is assumption 15; the choice of row by MODE byte or direction bit is assumption 11. -/
theorem fieldRequestsAreServedOnce : Obligations.FieldRequestsAreServedOnce := by
  unfold Obligations.FieldRequestsAreServedOnce
  rintro s c op f mode rfl row
  rw [exec_requestRow (s := s) row]
  refine ⟨fun deaf => ?_, fun up on => ⟨fun broadcast other => ?_, fun addressed u value => ?_⟩⟩
  · rw [flow, State.jopRequest_deaf (s := s.begin) deaf]
  · rw [flow, State.jopRequest_broadcast (s := s.begin) up on broadcast other]
  · subst value
    rw [flow, State.jopRequest_taken (s := s.begin) up on addressed]
    refine ⟨fun free => ?_, fun waits => ⟨fun room => ?_, fun full => ?_⟩⟩
    · have free' : s.begin.jop.waiting.isNone = true := by rw [Option.isNone_iff_eq_none]; exact free
      rw [if_pos free']
      refine ⟨fun k kept => ?_, fun new => ⟨fun bad => ?_, fun good => ?_⟩⟩
      · rw [State.perform_repeat (s := s.begin.bump K.framesRx) kept]
      · rw [State.perform_new (s := s.begin.bump K.framesRx) new, State.answerServed_bad (s := s.begin.bump K.framesRx) up bad]
      · rw [State.perform_new (s := s.begin.bump K.framesRx) new]
    · have waits' : ¬ s.begin.jop.waiting.isNone = true := by rw [Option.isNone_iff_eq_none]; exact waits
      have room' : ¬ 16 ≤ s.begin.jop.queue.length := not_le.mpr room
      rw [if_neg waits', if_neg room']
      rfl
    · have waits' : ¬ s.begin.jop.waiting.isNone = true := by rw [Option.isNone_iff_eq_none]; exact waits
      have full' : 16 ≤ s.begin.jop.queue.length := full
      rw [if_neg waits', if_pos full']

end Sys2Proof.Machine

namespace Sys2Proof.Machine

/-! The messages of the pair (15 R385, R386, R389, R391, R393). -/

section

variable {s : State} {syms : List Nat}

@[simp] theorem State.took_pair : (s.took .pair syms).pair = s.pair := congrArg (·.pair) (s.took_linksOnly .pair syms)
@[simp] theorem State.took_mode : (s.took .pair syms).mode = s.mode := congrArg (·.mode) (s.took_linksOnly .pair syms)
@[simp] theorem State.took_obj (k : Nat) : (s.took .pair syms).obj k = s.obj k := congrArg (·.obj k) (s.took_linksOnly .pair syms)
@[simp] theorem State.took_pairOpen : (s.took .pair syms).pairOpen = s.pairOpen := congrArg (·.pairOpen) (s.took_linksOnly .pair syms)

/-- A good message of the pair on a link that hears is acted on by its own operation, in the state that the delivery leaves. -/
theorem exec_recvPair {c : Instr} {m : PairMsg} {tid : Tid} {rx : Rx} {f : State → State} {t : State} (wellFormed : c.wellFormed = true)
    (hears : s.hears .pair) (acts : s.begin.effect c = s.begin.recvPair m tid rx f)
    (good : msg8 .pair (m.symbols tid) rx = some (.pair, .good, syms)) (result : f (s.took .pair syms) = t) :
    exec c s = .next (s.after t) :=
  exec_eq_of_effect wellFormed ((acts.trans (State.recv8_hears hears good f)).trans result)

theorem State.pairTo_given (n : Nat) : (s.pairTo n).pair.given = s.pair.given := by
  unfold State.pairTo
  split_ifs
  · rfl
  · rw [State.raiseS_pair]

theorem State.giveConfirmed_none {b : Mask64} (none : s.pair.given &&& b = 0) : s.giveConfirmed b = s := if_pos none

theorem State.giveConfirmed_some {b : Mask64} (some : s.pair.given &&& b ≠ 0) : s.giveConfirmed b =
    ((({ s with pair := { s.pair with given := s.pair.given &&& ~~~ b } } : State).bump K.handovers).pairSettle.toWorking) := if_neg some

end

section

variable {u : State} {st : Nat} {home mask : Mask64}

/-- What PAIR_HELLO tells of the partner is recorded, whatever follows (15 R386). -/
def State.greetedBy (u : State) (st : Nat) (home : Mask64) : State :=
  { u with pair := { u.pair with partnerHome := home, partnerMode := st / 16 % 16, greeted := true } }

/-- A partner that is followed is no longer lost. -/
def State.follows (u : State) (st : Nat) (home : Mask64) : State :=
  { u.greetedBy st home with pair := { (u.greetedBy st home).pair with lost := false } }

/-- The same role or another mask refuses the pair (15 R386). -/
theorem State.hello_refuses (clash : st % 2 = u.obj K.pairRole % 2 ∨ mask ≠ BitVec.ofNat 64 (u.obj K.pairMask)) :
    u.hello st home mask = (u.greetedBy st home).pairTo 4 := by
  refine if_pos ?_
  rcases clash with role | other
  · exact Bool.or_eq_true_iff.mpr (.inl (beq_iff_eq.mpr role))
  · exact Bool.or_eq_true_iff.mpr (.inr (bne_iff_ne.mpr other))

/-- Otherwise the partner is followed, and a give is confirmed or sent again (15 R391). -/
theorem State.hello_follows (role : st % 2 ≠ u.obj K.pairRole % 2) (same : mask = BitVec.ofNat 64 (u.obj K.pairMask)) {x : State}
    (value : x = ((u.follows st home).pairTo (if u.pair.giving = 0 ∧ u.pair.given = 0 ∧ u.pair.taking = 0 then 2 else 5)).giveConfirmed home) :
    u.hello st home mask = if x.pair.given = 0 then x else x.sendPair { op := .give, home := x.pair.given } := by
  subst value
  refine if_neg ?_
  show ¬(st % 2 == u.obj K.pairRole % 2 || mask != BitVec.ofNat 64 (u.obj K.pairMask)) = true
  simp [role, same]

/-- With nothing given, being given or taken only PAIR_STATE 2 follows. -/
theorem State.hello_settled (role : st % 2 ≠ u.obj K.pairRole % 2) (same : mask = BitVec.ofNat 64 (u.obj K.pairMask))
    (giving : u.pair.giving = 0) (given : u.pair.given = 0) (taking : u.pair.taking = 0) :
    u.hello st home mask = (u.follows st home).pairTo 2 := by
  have none : ((u.follows st home).pairTo 2).pair.given = 0 := (State.pairTo_given 2).trans given
  have value : (u.follows st home).pairTo 2 = ((u.follows st home).pairTo
      (if u.pair.giving = 0 ∧ u.pair.given = 0 ∧ u.pair.taking = 0 then 2 else 5)).giveConfirmed home := by
    rw [if_pos ⟨giving, given, taking⟩, State.giveConfirmed_none (by rw [none]; exact BitVec.zero_and)]
  rw [State.hello_follows role same value, if_pos none]

/-- With buckets under way PAIR_STATE 5 follows. -/
theorem State.hello_moving (role : st % 2 ≠ u.obj K.pairRole % 2) (same : mask = BitVec.ofNat 64 (u.obj K.pairMask))
    (moving : u.pair.giving ≠ 0 ∨ u.pair.given ≠ 0 ∨ u.pair.taking ≠ 0) {x : State}
    (value : x = ((u.follows st home).pairTo 5).giveConfirmed home) :
    u.hello st home mask = if x.pair.given = 0 then x else x.sendPair { op := .give, home := x.pair.given } := by
  refine State.hello_follows role same (value.trans ?_)
  rw [if_neg (by tauto)]

/-- Buckets taken are served, and RANGE_TAKEN goes to a partner that is not lost (15 R389, R393). -/
theorem State.serveTaken_serves (taking : u.pair.taking ≠ 0) {v : State}
    (value : v = { u with homeNow := u.homeNow ||| u.pair.taking, pair := { u.pair with taking := 0 } }) :
    u.serveTaken = (if u.pair.lost then v else (v.sendPair { op := .taken, home := u.pair.taking }).bump K.handovers).pairSettle.toWorking := by
  subst value
  exact if_neg taking

end

/-- Settles O57: each message is its operation on the state that its delivery leaves. That a refused pair hears no other message, and when RETURN_REQ
starts a give or taken buckets are served, is assumption 41; a message out of place changes nothing (assumption 7). -/
theorem pairMessagesAct : Obligations.PairMessagesAct := by
  unfold Obligations.PairMessagesAct
  rintro s tid rx syms u hears rfl
  have obj (k : Nat) : (s.took .pair syms).obj k = s.obj k := State.took_obj k
  refine ⟨?_, ?_, ?_, ?_⟩
  · rintro st home mask good v rfl
    refine ⟨fun clash => ?_, ?_⟩
    · exact exec_recvPair rfl hears rfl good (State.hello_refuses (by rwa [obj, obj]))
    · rintro role same w rfl
      rw [← obj] at role same
      refine ⟨fun giving given taking => ?_, ?_⟩
      · exact exec_recvPair rfl hears rfl good
          (State.hello_settled role same (by rwa [State.took_pair]) (by rwa [State.took_pair]) (by rwa [State.took_pair]))
      · rintro moving x value
        have follows := State.hello_moving role same (by rwa [State.took_pair]) value
        exact ⟨fun none => exec_recvPair rfl hears rfl good (follows.trans (if_pos none)),
          fun some => exec_recvPair rfl hears rfl good (follows.trans (if_neg some))⟩
  · rintro home c row good
    have pairOpen : (s.took .pair syms).pairOpen = s.pairOpen := State.took_pairOpen
    refine ⟨fun closed => ?_, fun opened => ⟨?_, ?_, ?_, ?_⟩⟩
    · have shut : ¬ (s.took .pair syms).pairOpen = true := ne_true_of_eq_false (pairOpen.trans closed)
      rcases row with rfl | rfl | rfl | rfl
      · exact exec_recvPair rfl hears rfl good (if_neg shut)
      · exact exec_recvPair rfl hears rfl good (if_neg shut)
      · exact exec_recvPair rfl hears rfl good (if_neg fun both => shut (Bool.and_eq_true_iff.mp both).1)
      · exact exec_recvPair rfl hears rfl good (if_neg shut)
    · rintro rfl
      exact exec_recvPair rfl hears rfl good (if_pos (pairOpen.trans opened))
    · rintro rfl
      refine ⟨fun none => ?_, fun some => ?_⟩
      · exact exec_recvPair rfl hears rfl good
          ((if_pos (pairOpen.trans opened)).trans (State.giveConfirmed_none (by rwa [State.took_pair])))
      · exact exec_recvPair rfl hears rfl good
          ((if_pos (pairOpen.trans opened)).trans (State.giveConfirmed_some (by rwa [State.took_pair])))
    · rintro rfl
      refine ⟨fun serving => ?_, fun idle => ?_⟩
      · have both : ((s.took .pair syms).pairOpen && (s.took .pair syms).mode.serving) = true := by
          rw [pairOpen, State.took_mode, opened, serving]; rfl
        refine exec_recvPair rfl hears rfl good ((if_pos both).trans ?_)
        rw [State.took_homeNow]
      · have notBoth : ¬((s.took .pair syms).pairOpen && (s.took .pair syms).mode.serving) = true := by
          rw [State.took_mode, idle, Bool.and_false]; decide
        exact exec_recvPair rfl hears rfl good (if_neg notBoth)
    · rintro rfl
      exact exec_recvPair rfl hears rfl good (if_pos (pairOpen.trans opened))
  · rintro acked taking v value
    have serves := State.serveTaken_serves (u := s.begin) taking value
    refine ⟨fun lost => ?_, fun there => ?_⟩
    · exact exec_eq_of_effect rfl ((if_pos acked).trans (serves.trans (by rw [if_pos (show s.begin.pair.lost = true from lost)])))
    · refine exec_eq_of_effect rfl ((if_pos acked).trans (serves.trans ?_))
      rw [if_neg (show ¬ s.begin.pair.lost = true from ne_true_of_eq_false there)]
      rfl
  · rintro (unacked | none)
    · exact exec_eq_of_effect rfl (if_neg (ne_true_of_eq_false unacked))
    · have idle : s.begin.serveTaken = s.begin := if_pos none
      refine exec_eq_of_effect rfl ?_
      show (if s.begin.takeAcked then s.begin.serveTaken else s.begin) = s.begin
      rw [idle, ite_self]

end Sys2Proof.Machine

namespace Sys2Proof.Machine

/-! The fence registers (15 R394, R395). -/

section

variable {s : State}

/-- A fold of operations that each leave an object leaves it. -/
theorem State.foldl_obj {α : Type} (f : State → α → State) {k : Nat} (keeps : ∀ s a, (f s a).obj k = s.obj k) (l : List α) (s : State) :
    (l.foldl f s).obj k = s.obj k := by
  induction l generalizing s with
  | nil => rfl
  | cons a l ih => rw [List.foldl_cons, ih, keeps]

/-- The working mode that follows writes MODE_PREV and TRANSITION_TIME alone. -/
theorem State.toWorking_obj {k : Nat} (counts : k % 16 ≠ 9) (prev : k ≠ K.modePrev) (time : k ≠ K.transitionTime) :
    s.toWorking.obj k = s.obj k := by
  unfold State.toWorking
  dsimp only
  split
  · rfl
  · rw [State.raiseS_obj _ _ _ _ counts, State.switchGroups_obj]
    show State.obj (if _ then _ else _) k = s.obj k
    split
    · rw [State.obj_setObj_other _ _ time, State.obj_setObj_other _ _ prev]
    · rw [State.obj_setObj_other _ _ prev]

theorem State.mergeDiscard_obj (c ba k : Nat) : (s.mergeDiscard c ba).obj k = s.obj k := by
  unfold State.mergeDiscard
  dsimp only
  split <;> rfl

/-- Dropping the tags and what the merge buffers hold for them writes no object (06 R164). -/
theorem State.invalTags_obj (k : Nat) : s.invalTags.obj k = s.obj k := by
  unfold State.invalTags State.mergeDrop
  exact State.foldl_obj _ (fun s c => State.foldl_obj _ (fun s ba => State.mergeDiscard_obj c ba k) _ s) _ _

theorem State.missAll_obj (s : State) (b : Bool) (k : Nat) : State.obj { s with missAll := b } k = s.obj k := rfl

theorem State.timedInval_obj {k : Nat} (time : k ≠ K.resetInvalTime) : s.timedInval.obj k = s.obj k := by
  rw [State.timedInval, State.obj_setObj_other _ _ time, State.free_obj, State.invalTags_obj]

/-- The end of the calibrations writes RESET_INVAL_TIME alone (14 R363, R366). -/
theorem State.calSettled_obj {k : Nat} (time : k ≠ K.resetInvalTime) : s.calSettled.obj k = s.obj k := by
  unfold State.calSettled
  split
  · exact (State.missAll_obj _ _ k).trans (State.timedInval_obj time)
  · rfl

/-- A fence register reads as written, its working mode following (15 R394). -/
theorem State.toWorking_reads {k v : Nat} (counts : k % 16 ≠ 9) (prev : k ≠ K.modePrev) (time : k ≠ K.transitionTime)
    (reads : s.obj k = v) : s.toWorking.obj k = v := (State.toWorking_obj counts prev time).trans reads

theorem State.fenceChans_reads {v : Nat} (none : newBits v (s.obj K.fenceDc) = []) : (s.fenceChans v).obj K.fenceDc = v := by
  rw [State.fenceChans]
  rw [none, List.foldl_nil]
  exact State.toWorking_reads (by decide) (by decide) (by decide) ((State.calSettled_obj (by decide)).trans (State.obj_setObj_same ..))

theorem State.fenceLinks_reads {v : Nat} (none : newBits v (s.obj K.fenceMl) = []) : (s.fenceLinks v).obj K.fenceMl = v := by
  rw [State.fenceLinks]
  rw [none, List.foldl_nil]
  exact State.toWorking_reads (by decide) (by decide) (by decide) (State.obj_setObj_same ..)

end

/-- Settles O15: an accepted write of a fence register is its operation on the journalled state, and what follows leaves the register as it was
written; of FENCE_DC and FENCE_ML that is stated where no unit returns. -/
theorem fenceRegistersAct : Obligations.FenceRegistersAct := by
  unfold Obligations.FenceRegistersAct
  intro s src
  refine ⟨fun v accepted => ?_, fun v accepted => ?_, fun v accepted => ?_, fun v accepted => ?_, fun v accepted => ?_⟩
  · refine ⟨_, exec_eq_of_accepted rfl accepted row_fenceSlice (by decide) v.isLt (and_allOnes64 _ (by omega)) (effect_fenceSlice ..), ?_, ?_⟩
    · rw [State.fenceSlices, noted_obj]
    · exact State.toWorking_reads (by decide) (by decide) (by decide) (State.obj_setObj_same ..)
  · refine ⟨_, exec_eq_of_accepted rfl accepted row_fenceDc (by decide) v.isLt rfl (effect_fenceDc ..), rfl, fun none => ?_⟩
    exact State.fenceChans_reads (by rwa [noted_obj])
  · refine ⟨_, exec_eq_of_accepted rfl accepted row_fenceMl (by decide) v.isLt rfl (effect_fenceMl ..), rfl, fun none => ?_⟩
    exact State.fenceLinks_reads (by rwa [noted_obj])
  · refine ⟨_, exec_eq_of_accepted rfl accepted row_fencePort (by decide) v.isLt rfl (effect_fencePort ..), ?_, ?_⟩
    · rw [State.fencePorts, noted_obj]
    · exact State.toWorking_reads (by decide) (by decide) (by decide) (State.obj_setObj_same ..)
  · refine ⟨_, exec_eq_of_accepted rfl accepted row_fenceAcc (by decide) v.isLt rfl (effect_fenceAcc ..), ?_, ?_⟩
    · rw [State.fenceAccs, noted_obj]
    · exact State.toWorking_reads (by decide) (by decide) (by decide) (State.obj_setObj_same ..)

end Sys2Proof.Machine

namespace Sys2Proof.Machine

/-! What every command does last: PAIR_HELLO, the ends of WAIT_EVENTs, wakes, and the output levels (04 R124, R126; 11 R301; 15 R386). -/

section

variable {s t u : State} {n : Nat}

theorem State.transmit_linksOnly (l : LinkId) (m : WireMsg) : s.linksOnly (s.transmit l m) :=
  State.linksOnly_then (State.linksOnly_then (State.setLink_linksOnly s l _) (State.setLink_linksOnly _ l _)) rfl

/-- Sending on a link changes its end and what the hub sends (03 R69, R85). -/
theorem State.send_linksOnly (l : LinkId) (m : WireMsg) : s.linksOnly (s.send l m) := by
  unfold State.send
  dsimp only
  split
  · rfl
  · split
    · exact State.transmit_linksOnly l m
    · exact State.setLink_linksOnly s l _

theorem State.down_linksOnly (m : DownMsg) : s.linksOnly (s.down n m) := State.send_linksOnly _ _

/-- The parts of a port that the end of a WAIT_EVENT and a wake change. -/
def PortSt.wokenFrom (p q : PortSt) : Prop :=
  q = { p with wake := q.wake, waitEvent := q.waitEvent, outstanding := q.outstanding, accesses := q.accesses }

theorem PortSt.wokenFrom_then {p q r : PortSt} (first : p.wokenFrom q) (later : q.wokenFrom r) : p.wokenFrom r := by
  unfold PortSt.wokenFrom at first later ⊢
  rw [first] at later
  exact later

/-- Only links, what the hub sends, those parts of the ports, and the ports that a commit still awaits differ. -/
def State.wokenFrom (s t : State) : Prop :=
  t = { s with links := t.links, ports := t.ports, sent := t.sent, commitPending := t.commitPending } ∧ ∀ n, (s.port n).wokenFrom (t.port n)

theorem State.wokenFrom_refl : s.wokenFrom s := ⟨rfl, fun _ => rfl⟩

theorem State.wokenFrom_then (first : s.wokenFrom t) (later : t.wokenFrom u) : s.wokenFrom u := by
  obtain ⟨frame, ports⟩ := first
  obtain ⟨frame', ports'⟩ := later
  refine ⟨?_, fun n => PortSt.wokenFrom_then (ports n) (ports' n)⟩
  rw [frame] at frame'
  exact frame'

theorem State.wokenFrom_linksOnly (only : s.linksOnly t) : s.wokenFrom t := by
  unfold State.linksOnly at only
  rw [only]
  exact ⟨rfl, fun _ => rfl⟩

theorem State.wokenFrom_commitPending (m : Mask64) : s.wokenFrom { s with commitPending := m } := ⟨rfl, fun _ => rfl⟩

/-- A change of one port within those parts. -/
theorem State.wokenFrom_modPort (f : PortSt → PortSt) (within : (s.port n).wokenFrom (f (s.port n))) : s.wokenFrom (s.modPort n f) := by
  refine ⟨rfl, fun m => ?_⟩
  rw [State.modPort, State.port_setPort]
  split_ifs with same
  · rw [same]
    exact within
  · rfl

theorem State.retire_wokenFrom (tid : Nat) : s.wokenFrom (s.retire n tid) := by
  unfold State.retire
  dsimp only
  have retired := State.wokenFrom_modPort (s := s) (n := n) (fun p => { p with
    outstanding := p.outstanding.filter (fun o => o.1 != tid), accesses := p.accesses.filter (fun a => a.key != .load tid) }) rfl
  split
  · exact State.wokenFrom_then retired (State.wokenFrom_commitPending _)
  · exact retired

/-- The end of a WAIT_EVENT is its answer and the retirement of its TID (04 R124). -/
theorem State.endWait_eq {tid : Nat} (waits : (s.port n).waitEvent = some tid) : s.endWait n =
    (((s.modPort n (fun p => { p with waitEvent := none })).down n
      { op := .complete, tid := tid, epoch := (s.port n).epoch }).retire n tid) := by
  rw [State.endWait, waits]
  rfl

theorem State.endWait_none (none : (s.port n).waitEvent = none) : s.endWait n = s := by rw [State.endWait, none]

theorem State.endWait_wokenFrom : s.wokenFrom (s.endWait n) := by
  cases waits : (s.port n).waitEvent with
  | none =>
    rw [State.endWait_none waits]
    exact State.wokenFrom_refl
  | some tid =>
    rw [State.endWait_eq waits]
    exact State.wokenFrom_then (State.wokenFrom_then (State.wokenFrom_modPort (fun p => { p with waitEvent := none }) rfl)
      (State.wokenFrom_linksOnly (State.down_linksOnly _))) (State.retire_wokenFrom tid)

theorem State.linksOnly_port (only : s.linksOnly t) (m : Nat) : t.port m = s.port m := congrArg (·.port m) only

theorem State.modPort_other {m : Nat} (other : m ≠ n) (f : PortSt → PortSt) : (s.modPort n f).port m = s.port m := by
  rw [State.modPort, State.port_setPort, if_neg other]

theorem State.commitPending_port (s : State) (p : Mask64) (m : Nat) : State.port { s with commitPending := p } m = s.port m := rfl

theorem State.retire_other {m : Nat} (other : m ≠ n) (tid : Nat) : (s.retire n tid).port m = s.port m := by
  unfold State.retire
  dsimp only
  split
  · exact (State.commitPending_port _ _ m).trans (State.modPort_other other _)
  · exact State.modPort_other other _

theorem State.endWait_other {m : Nat} (other : m ≠ n) : (s.endWait n).port m = s.port m := by
  cases waits : (s.port n).waitEvent with
  | none => rw [State.endWait_none waits]
  | some tid =>
    rw [State.endWait_eq waits, State.retire_other other, State.linksOnly_port (State.down_linksOnly _), State.modPort_other other]

/-! APn_IRQ and a wake at each port (04 R124, R126). -/

variable {irq : Mask64}

/-- A sleeping port with its IRQ high is woken. -/
def State.irqWakes (s : State) (irq : Mask64) (n : Nat) : State :=
  if (s.port n).mode = .sleeping ∧ irq.getLsbD n then s.modPort n (fun p => { p with wake := true }) else s

theorem State.irqActs_eq : s.irqActs irq n = if irq.getLsbD n || (s.port n).wake then (s.irqWakes irq n).endWait n else s.irqWakes irq n := rfl

theorem State.irqWakes_wokenFrom : s.wokenFrom (s.irqWakes irq n) := by
  unfold State.irqWakes
  split_ifs
  · exact State.wokenFrom_modPort (fun p => { p with wake := true }) rfl
  · exact State.wokenFrom_refl

theorem State.irqActs_wokenFrom : s.wokenFrom (s.irqActs irq n) := by
  rw [State.irqActs_eq]
  split
  · exact State.wokenFrom_then State.irqWakes_wokenFrom State.endWait_wokenFrom
  · exact State.irqWakes_wokenFrom

/-- Where APn_IRQ is low and no wake stands nothing is done. -/
theorem State.irqActs_quiet (low : irq.getLsbD n = false) (asleep : (s.port n).wake = false) : s.irqActs irq n = s := by
  simp [State.irqActs, low, asleep]

theorem State.irqActs_other {m : Nat} (other : m ≠ n) : (s.irqActs irq n).port m = s.port m := by
  have wakes : (s.irqWakes irq n).port m = s.port m := by
    unfold State.irqWakes
    split_ifs
    · exact State.modPort_other other _
    · rfl
  rw [State.irqActs_eq]
  split
  · rw [State.endWait_other other, wakes]
  · exact wakes

/-- A port with neither is left as it is, whatever is done at the others. -/
theorem State.irqActs_keeps {m : Nat} (low : irq.getLsbD m = false) (asleep : (s.port m).wake = false) :
    (s.irqActs irq n).port m = s.port m := by
  by_cases same : m = n
  · subst same
    rw [State.irqActs_quiet low asleep]
  · exact State.irqActs_other same

/-- Every port of the list in turn. -/
def State.irqAll (s : State) (irq : Mask64) (l : List (Nat × PortSt)) : State := l.foldl (fun s x => s.irqActs irq x.1) s

theorem State.irqAll_wokenFrom (l : List (Nat × PortSt)) : s.wokenFrom (s.irqAll irq l) := by
  induction l generalizing s with
  | nil => exact State.wokenFrom_refl
  | cons x l ih => exact State.wokenFrom_then State.irqActs_wokenFrom ih

theorem State.irqAll_keeps (l : List (Nat × PortSt)) {m : Nat} (low : irq.getLsbD m = false) (asleep : (s.port m).wake = false) :
    (s.irqAll irq l).port m = s.port m := by
  induction l generalizing s with
  | nil => rfl
  | cons x l ih =>
    have kept : (s.irqActs irq x.1).port m = s.port m := State.irqActs_keeps low asleep
    exact (ih (by rw [kept, asleep])).trans kept

theorem State.irqAll_quiet (l : List (Nat × PortSt)) (asleep : ∀ m, (s.port m).wake = false) : s.irqAll 0 l = s := by
  induction l with
  | nil => rfl
  | cons x l ih =>
    have quiet : s.irqActs 0 x.1 = s := State.irqActs_quiet BitVec.getLsbD_zero (asleep x.1)
    show (s.irqActs 0 x.1).irqAll 0 l = s
    rw [quiet, ih]

/-! PAIR_HELLO (15 R386). -/

/-- PAIR_HELLO as it is sent now. -/
def State.helloMsg (s : State) : PairMsg :=
  { op := .hello, state := s.obj K.pairRole % 2 + s.mode.code * 16, home := s.homeNow, mask := BitVec.ofNat 64 (s.obj K.pairMask) }

theorem State.tellPartner_tells (owed : (s.link .pair).phase = .up ∧ s.pair.told ≠ some (s.mode.code, s.homeNow)) :
    s.tellPartner = { s.sendPair s.helloMsg with pair := { (s.sendPair s.helloMsg).pair with
      told := some ((s.sendPair s.helloMsg).mode.code, (s.sendPair s.helloMsg).homeNow) } } := if_pos owed

/-- The record of what the partner was told, after something was sent. -/
theorem State.linksOnly_told (only : s.linksOnly t) (v : Option (Nat × Mask64)) :
    ({ t with pair := { t.pair with told := v } } : State) = { s with links := t.links, sent := t.sent, pair := { s.pair with told := v } } := by
  unfold State.linksOnly at only
  have both := congrArg (fun x : State => ({ x with links := t.links, sent := t.sent, pair := { x.pair with told := v } } : State)) only
  exact both

/-- PAIR_HELLO changes links, what the hub sends, and that record. -/
theorem State.tellPartner_frame :
    s.tellPartner = { s with links := s.tellPartner.links, sent := s.tellPartner.sent, pair := { s.pair with told := s.tellPartner.pair.told } } := by
  by_cases owed : (s.link .pair).phase = .up ∧ s.pair.told ≠ some (s.mode.code, s.homeNow)
  · rw [State.tellPartner_tells owed]
    exact State.linksOnly_told (State.send_linksOnly .pair (.pair s.helloMsg)) _
  · rw [show s.tellPartner = s from if_neg owed]

/-- PAIR_HELLO and then the ports: what of the state may differ. -/
theorem State.wokenFrom_told (told : t = { s with links := t.links, sent := t.sent, pair := { s.pair with told := t.pair.told } })
    (woken : t.wokenFrom u) :
    u = { s with links := u.links, ports := u.ports, sent := u.sent, pair := { s.pair with told := u.pair.told },
                 commitPending := u.commitPending } := by
  have frame := woken.1
  have pair : u.pair = t.pair := congrArg (·.pair) frame
  have both := congrArg (fun x : State => ({ x with
    links := u.links, ports := u.ports, sent := u.sent, commitPending := u.commitPending } : State)) told
  rw [pair]
  exact frame.trans both

theorem State.tellPartner_down (down : (s.link .pair).phase ≠ .up) : s.tellPartner = s := if_neg fun both => down both.1

/-- The last part of every command: PAIR_HELLO, the ports, the levels. -/
theorem State.finish_eq : s.finish =
    { s.tellPartner.irqAll s.irqShould s.tellPartner.ports with
      irqPins := (s.tellPartner.irqAll s.irqShould s.tellPartner.ports).irqShould
      parkRdy := (s.tellPartner.irqAll s.irqShould s.tellPartner.ports).parkShould
      nfaultLow := (s.tellPartner.irqAll s.irqShould s.tellPartner.ports).nfaultShould } := rfl

/-- With nothing of the hub's own work able to move, nothing of it is done. -/
theorem State.settle_quiet (quiet : s.nextWork = none) (fuel : Nat) : s.settle fuel = s := by
  cases fuel with
  | zero => rfl
  | succ fuel => rw [State.settle, quiet]

theorem State.after_quiet (quiet : t.nextWork = none) : s.after t = { t.finish with pending := s.pending } := by
  rw [State.after, State.settle_quiet quiet]

end

/-- Settles O6: with no work to do only `finish` is left. PAIR_HELLO touches links and what the partner was told; at each port a high APn_IRQ or a wake
ends a WAIT_EVENT; a port with neither stays, whatever is done at the others. -/
theorem aQuietHubDoesNothingOfItself : Obligations.AQuietHubDoesNothingOfItself := by
  unfold Obligations.AQuietHubDoesNothingOfItself
  intro s t quiet
  have told := State.tellPartner_frame (s := t)
  have ports (n : Nat) : t.tellPartner.port n = t.port n := congrArg (·.port n) told
  have woken := State.irqAll_wokenFrom (s := t.tellPartner) (irq := t.irqShould) t.tellPartner.ports
  rw [State.after_quiet quiet, State.finish_eq]
  refine ⟨_, rfl, ?_, fun n => ?_, fun n low asleep => ?_, fun low asleep => ?_⟩
  · have frame := State.wokenFrom_told told woken
    have levels := congrArg (fun x : State => ({ x with
      irqPins := (t.tellPartner.irqAll t.irqShould t.tellPartner.ports).irqShould
      parkRdy := (t.tellPartner.irqAll t.irqShould t.tellPartner.ports).parkShould
      nfaultLow := (t.tellPartner.irqAll t.irqShould t.tellPartner.ports).nfaultShould, pending := s.pending } : State)) frame
    exact levels
  · have within := woken.2 n
    rw [ports] at within
    exact within
  · exact (State.irqAll_keeps _ low (by rw [ports, asleep])).trans (ports n)
  · rw [low, State.irqAll_quiet _ fun m => by rw [ports, asleep]]
    refine ⟨congrArg (·.commitPending) told, congrArg (·.ports) told, fun down => ?_⟩
    rw [State.tellPartner_down down]
    exact ⟨rfl, rfl, rfl⟩

end Sys2Proof.Machine
